-- ==== Sys2Proof/Word.lean ====
section
/-! DEFINITION. The word types of the TB-240: link bytes, the 32-bit millisecond timestamp, raw converter samples. -/
namespace Sys2Proof

/-- One byte of the link (R194) or of the head module bus (R147). -/
abbrev Byte := BitVec 8

/-- The 32-bit count of milliseconds of R137; differences wrap modulo 2^32. -/
abbrev Timestamp := BitVec 32

/-- A 12-bit raw converter sample (R127). -/
abbrev RawSample := BitVec 12

end Sys2Proof
end

