-- ==== Sys2Proof/Config.lean ====
section
/-! DEFINITION. What one implementation fixes and the data book leaves open: the free values (no body, so nothing
can be proved of them but that they exist) and the fixed capacities of R206. -/
namespace Sys2Proof

/-- FREE VALUE (log 8). The image bytes that a write of the non-volatile copy leaves when it fails or is cut short (R203:
"A failed write leaves the copy as partly written"); `n` tells one such write from another. -/
opaque Config.tornImage : Nat → List Byte

/-- FREE VALUE (log 8). The CRC stored beside `Config.tornImage n`. -/
opaque Config.tornCrc : Nat → BitVec 16

/-- R206: the capacities IDENTIFY returns. -/
def Config.planCapacity : Nat := 16
/-- R206, R12: queued jobs per boom. -/
def Config.queueCapacity : Nat := 4
/-- R206, R186: filed records. -/
def Config.recordCapacity : Nat := 8
/-- R206, R61: slices per log. -/
def Config.sliceCapacity : Nat := 120
/-- R206, R173: limit monitors. -/
def Config.monitorCount : Nat := 12

end Sys2Proof
end

