-- ==== Sys2Proof/Syntax.lean ====
section
/-! DEFINITION. The commands of the TB-240: one constructor of `Instr` per row of spec/opcode_table.json, with the names
of the part's booms, valve pairs, switches and requesters.

A request row carries what its valid frame carries besides the code: the sequence number and the payload bytes, so that
the port's length check (R195) and every out-of-range field (R198) are part of the row. An event row names the input or
timer concerned and carries what the rig presents with it. -/
namespace Sys2Proof

/-- The two booms. -/
inductive BoomId
  | A | B
deriving DecidableEq, Repr, Inhabited

/-- The function of one of a boom's three valve pairs (R105). -/
inductive PairFn
  | rot | feed | ins
deriving DecidableEq, Repr, Inhabited

/-- The seven coil pairs of R105. -/
inductive PairId
  | boom (b : BoomId) (f : PairFn)
  | canopy
deriving DecidableEq, Repr, Inhabited

/-- The ten qualified switch inputs of R116. -/
inductive SwitchId
  | estop
  | prs (b : BoomId)
  | home (b : BoomId)
  | iend (b : BoomId)
  | ihome (b : BoomId)
  | clow
deriving DecidableEq, Repr, Inhabited

/-- The three requesters of the flow arbiter (R73). -/
inductive Requester
  | boom (b : BoomId)
  | canopy
deriving DecidableEq, Repr, Inhabited

/-- One completed scan group with its raw samples (R124, R125). A group of a boom says where its sampling instant lay too:
`later` is how many times the boom's feed position was set (a count applied, a home closing) after that instant and before
the group completed (log 22). -/
inductive ScanSample
  | g0 (rot feed : RawSample) (later : Nat)
  | g1 (rot feed : RawSample) (later : Nat)
  | g2 (pump canopy : RawSample)
  | g3 (oil : RawSample)
deriving DecidableEq, Repr

/-- What the partner presents at the end of a head bus transaction (R147, R149): a missing acknowledge, or the transfer
carried to its end with the bytes the partner returned (none for a PING or a WRITE BLOCK; the count, the data and the
check byte for a READ BLOCK). -/
inductive BusEnding
  | noAck
  | returned (bytes : List Byte)
deriving DecidableEq, Repr

/-- The commands: the rows of spec/opcode_table.json, in the table's order. -/
inductive Instr
  /-- R205; the levels of the straps BDS1 and BDS0. -/
  | powerOnReset (bds1 bds0 : Bool)
  | powerOnLoadComplete
  | warmReset
  /-- R194; the bytes the receiver takes, whose frame it discards. -/
  | frameDiscarded (bytes : List Byte)
  /-- R194; the byte that ends the gap. -/
  | interByteGap (byte : Byte)
  /-- R195; a valid frame whose code names no request. -/
  | unknownCode (seq code : Byte) (payload : List Byte)
  | linkSilent
  | identify (seq : Byte) (payload : List Byte)
  | setLink (seq : Byte) (payload : List Byte)
  | readStatus (seq : Byte) (payload : List Byte)
  | readEvents (seq : Byte) (payload : List Byte)
  | reset (seq : Byte) (payload : List Byte)
  | loadPlan (seq : Byte) (payload : List Byte)
  | dropPlan (seq : Byte) (payload : List Byte)
  | readPlan (seq : Byte) (payload : List Byte)
  /-- R8; READ PLAN with id 0. -/
  | readPlanDirectory (seq : Byte)
  | queueJob (seq : Byte) (payload : List Byte)
  | cancelJob (seq : Byte) (payload : List Byte)
  | readQueue (seq : Byte) (payload : List Byte)
  | start (seq : Byte) (payload : List Byte)
  | hold (seq : Byte) (payload : List Byte)
  | resume (seq : Byte) (payload : List Byte)
  | abort (seq : Byte) (payload : List Byte)
  | park (seq : Byte) (payload : List Byte)
  | unpark (seq : Byte) (payload : List Byte)
  | boltLoaded (seq : Byte) (payload : List Byte)
  | clearFault (seq : Byte) (payload : List Byte)
  | jog (seq : Byte) (payload : List Byte)
  | readBoom (seq : Byte) (payload : List Byte)
  | magazineLoaded (seq : Byte) (payload : List Byte)
  | canopyRaise (seq : Byte) (payload : List Byte)
  | canopyLower (seq : Byte) (payload : List Byte)
  | clearTrip (seq : Byte) (payload : List Byte)
  | setPumpBudget (seq : Byte) (payload : List Byte)
  | readFlow (seq : Byte) (payload : List Byte)
  | readChannels (seq : Byte) (payload : List Byte)
  | restoreChannel (seq : Byte) (payload : List Byte)
  | setMonitor (seq : Byte) (payload : List Byte)
  | readMonitors (seq : Byte) (payload : List Byte)
  | clearMonitorLatch (seq : Byte) (payload : List Byte)
  | headBusPause (seq : Byte) (payload : List Byte)
  | headBusResume (seq : Byte) (payload : List Byte)
  | headBusTransact (seq : Byte) (payload : List Byte)
  | headBusResult (seq : Byte) (payload : List Byte)
  | headBusKill (seq : Byte) (payload : List Byte)
  | fetchRecord (seq : Byte) (payload : List Byte)
  | releaseRecord (seq : Byte) (payload : List Byte)
  | calibrate (seq : Byte) (payload : List Byte)
  | readCalibration (seq : Byte) (payload : List Byte)
  | storeCalibration (seq : Byte) (payload : List Byte)
  | recallCalibration (seq : Byte) (payload : List Byte)
  | storeWriteConfirmed
  | storeWriteTimeout
  | scanGroupPublished (sample : ScanSample)
  | switchQualifiedChange (i : SwitchId)
  | rotationPulse (b : BoomId)
  /-- R134; the levels of the two encoder lines as now read. -/
  | encoderCount (b : BoomId) (lineI lineQ : Bool)
  | deadTimeExpiry (p : PairId)
  | motionMonitorExpiry (p : PairId)
  | mixLimitExpiry (b : BoomId)
  | gelTimeExpiry (b : BoomId)
  | drillTimeLimit (b : BoomId)
  | torqueTimeLimit (b : BoomId)
  | jogDurationExpiry (b : BoomId)
  | flowStarved (who : Requester)
  | canopyLowerTimeout
  /-- R162; the oscillator cycles counted in the window. -/
  | cartridgeMeasurementEnd (b : BoomId) (cycles : Nat)
  | pollTimerExpiry
  | headTransactionEnd (ending : BusEnding)
  | headBusTimeout
  | headDataStale (b : BoomId)
  /-- R116; the level the line takes: ESTOP active, presence held, a switch closed. -/
  | switchLineChange (i : SwitchId) (level : Bool)
  /-- R118; the level the pickup line takes: active or not. -/
  | rotationPickupLineChange (b : BoomId) (active : Bool)
  | rotationPickupReturn (b : BoomId)
  | replySent
deriving DecidableEq, Repr

end Sys2Proof
end

