-- ==== Sys2Proof/Decode.lean ====
section
/-! DEFINITION. From words to commands. The rows of spec/opcode_table.json give no bits, so no table word spells a command;
what the link's frames spell (the catalogue of 12.3) is decoded and encoded here. -/
namespace Sys2Proof

/-- The command that a word spells by the bits of spec/opcode_table.json: none, since no row of the table gives bits. -/
def decodeTableWord (_nbits _w : Nat) : Option Instr := none

/-- A request as the content of its frame (R194). -/
structure FrameContent where
  seq : Byte
  code : Byte
  payload : List Byte
deriving DecidableEq, Repr

/-- 12.3: the payload length of a request's code; HEAD BUS TRANSACT (0x23) has no one length, and a code outside the
catalogue none. -/
def catalogueLength (code : Byte) : Option Nat :=
  [(0x01, 0), (0x02, 2), (0x03, 0), (0x04, 0), (0x05, 0), (0x06, 85), (0x07, 1), (0x08, 1), (0x09, 11), (0x0A, 3),
    (0x0B, 1), (0x0C, 1), (0x0D, 1), (0x0E, 1), (0x0F, 1), (0x10, 1), (0x11, 1), (0x12, 1), (0x13, 1), (0x14, 7),
    (0x15, 1), (0x16, 2), (0x17, 0), (0x18, 0), (0x19, 0), (0x1A, 2), (0x1B, 0), (0x1C, 0), (0x1D, 1), (0x1E, 13),
    (0x1F, 0), (0x20, 1), (0x21, 0), (0x22, 0), (0x24, 0), (0x25, 0), (0x26, 1), (0x27, 2), (0x28, 192), (0x29, 0),
    (0x2A, 0), (0x2B, 0)].lookup code.toNat

/-- 12.3, R195: the request a valid frame carries, by its code; READ PLAN with id 0 asks for the directory (R198), and a code
that is not in the catalogue names no request. -/
def decodeFrame (f : FrameContent) : Instr :=
  match f.code.toNat with
  | 0x01 => .identify f.seq f.payload
  | 0x02 => .setLink f.seq f.payload
  | 0x03 => .readStatus f.seq f.payload
  | 0x04 => .readEvents f.seq f.payload
  | 0x05 => .reset f.seq f.payload
  | 0x06 => .loadPlan f.seq f.payload
  | 0x07 => .dropPlan f.seq f.payload
  | 0x08 => if f.payload = [0] then .readPlanDirectory f.seq else .readPlan f.seq f.payload
  | 0x09 => .queueJob f.seq f.payload
  | 0x0A => .cancelJob f.seq f.payload
  | 0x0B => .readQueue f.seq f.payload
  | 0x0C => .start f.seq f.payload
  | 0x0D => .hold f.seq f.payload
  | 0x0E => .resume f.seq f.payload
  | 0x0F => .abort f.seq f.payload
  | 0x10 => .park f.seq f.payload
  | 0x11 => .unpark f.seq f.payload
  | 0x12 => .boltLoaded f.seq f.payload
  | 0x13 => .clearFault f.seq f.payload
  | 0x14 => .jog f.seq f.payload
  | 0x15 => .readBoom f.seq f.payload
  | 0x16 => .magazineLoaded f.seq f.payload
  | 0x17 => .canopyRaise f.seq f.payload
  | 0x18 => .canopyLower f.seq f.payload
  | 0x19 => .clearTrip f.seq f.payload
  | 0x1A => .setPumpBudget f.seq f.payload
  | 0x1B => .readFlow f.seq f.payload
  | 0x1C => .readChannels f.seq f.payload
  | 0x1D => .restoreChannel f.seq f.payload
  | 0x1E => .setMonitor f.seq f.payload
  | 0x1F => .readMonitors f.seq f.payload
  | 0x20 => .clearMonitorLatch f.seq f.payload
  | 0x21 => .headBusPause f.seq f.payload
  | 0x22 => .headBusResume f.seq f.payload
  | 0x23 => .headBusTransact f.seq f.payload
  | 0x24 => .headBusResult f.seq f.payload
  | 0x25 => .headBusKill f.seq f.payload
  | 0x26 => .fetchRecord f.seq f.payload
  | 0x27 => .releaseRecord f.seq f.payload
  | 0x28 => .calibrate f.seq f.payload
  | 0x29 => .readCalibration f.seq f.payload
  | 0x2A => .storeCalibration f.seq f.payload
  | 0x2B => .recallCalibration f.seq f.payload
  | _ => .unknownCode f.seq f.code f.payload

/-- 12.3: the content of a request's frame; an event of the rig or of a timer has none. -/
def encodeFrame : Instr → Option FrameContent
  | .unknownCode q c p => some ⟨q, c, p⟩
  | .identify q p => some ⟨q, 0x01, p⟩
  | .setLink q p => some ⟨q, 0x02, p⟩
  | .readStatus q p => some ⟨q, 0x03, p⟩
  | .readEvents q p => some ⟨q, 0x04, p⟩
  | .reset q p => some ⟨q, 0x05, p⟩
  | .loadPlan q p => some ⟨q, 0x06, p⟩
  | .dropPlan q p => some ⟨q, 0x07, p⟩
  | .readPlan q p => some ⟨q, 0x08, p⟩
  | .readPlanDirectory q => some ⟨q, 0x08, [0]⟩
  | .queueJob q p => some ⟨q, 0x09, p⟩
  | .cancelJob q p => some ⟨q, 0x0A, p⟩
  | .readQueue q p => some ⟨q, 0x0B, p⟩
  | .start q p => some ⟨q, 0x0C, p⟩
  | .hold q p => some ⟨q, 0x0D, p⟩
  | .resume q p => some ⟨q, 0x0E, p⟩
  | .abort q p => some ⟨q, 0x0F, p⟩
  | .park q p => some ⟨q, 0x10, p⟩
  | .unpark q p => some ⟨q, 0x11, p⟩
  | .boltLoaded q p => some ⟨q, 0x12, p⟩
  | .clearFault q p => some ⟨q, 0x13, p⟩
  | .jog q p => some ⟨q, 0x14, p⟩
  | .readBoom q p => some ⟨q, 0x15, p⟩
  | .magazineLoaded q p => some ⟨q, 0x16, p⟩
  | .canopyRaise q p => some ⟨q, 0x17, p⟩
  | .canopyLower q p => some ⟨q, 0x18, p⟩
  | .clearTrip q p => some ⟨q, 0x19, p⟩
  | .setPumpBudget q p => some ⟨q, 0x1A, p⟩
  | .readFlow q p => some ⟨q, 0x1B, p⟩
  | .readChannels q p => some ⟨q, 0x1C, p⟩
  | .restoreChannel q p => some ⟨q, 0x1D, p⟩
  | .setMonitor q p => some ⟨q, 0x1E, p⟩
  | .readMonitors q p => some ⟨q, 0x1F, p⟩
  | .clearMonitorLatch q p => some ⟨q, 0x20, p⟩
  | .headBusPause q p => some ⟨q, 0x21, p⟩
  | .headBusResume q p => some ⟨q, 0x22, p⟩
  | .headBusTransact q p => some ⟨q, 0x23, p⟩
  | .headBusResult q p => some ⟨q, 0x24, p⟩
  | .headBusKill q p => some ⟨q, 0x25, p⟩
  | .fetchRecord q p => some ⟨q, 0x26, p⟩
  | .releaseRecord q p => some ⟨q, 0x27, p⟩
  | .calibrate q p => some ⟨q, 0x28, p⟩
  | .readCalibration q p => some ⟨q, 0x29, p⟩
  | .storeCalibration q p => some ⟨q, 0x2A, p⟩
  | .recallCalibration q p => some ⟨q, 0x2B, p⟩
  | .powerOnReset _ _ => none
  | .powerOnLoadComplete => none
  | .warmReset => none
  | .frameDiscarded _ => none
  | .interByteGap _ => none
  | .linkSilent => none
  | .storeWriteConfirmed => none
  | .storeWriteTimeout => none
  | .scanGroupPublished _ => none
  | .switchQualifiedChange _ => none
  | .rotationPulse _ => none
  | .encoderCount _ _ _ => none
  | .deadTimeExpiry _ => none
  | .motionMonitorExpiry _ => none
  | .mixLimitExpiry _ => none
  | .gelTimeExpiry _ => none
  | .drillTimeLimit _ => none
  | .torqueTimeLimit _ => none
  | .jogDurationExpiry _ => none
  | .flowStarved _ => none
  | .canopyLowerTimeout => none
  | .cartridgeMeasurementEnd _ _ => none
  | .pollTimerExpiry => none
  | .headTransactionEnd _ => none
  | .headBusTimeout => none
  | .headDataStale _ => none
  | .switchLineChange _ _ => none
  | .rotationPickupLineChange _ _ => none
  | .rotationPickupReturn _ => none
  | .replySent => none

end Sys2Proof
end

