-- ==== Sys2Proof/Machine/State.lean ====
section
/-! DEFINITION. The state of the TB-240 as plain data, block by block in the order of the data book's block diagram, the
state after a power-on reset, and the reasons a step may stop. Quantities are `Nat` or `Int` in the units of the data book;
what the data book counts modulo a power of two, or lays out bit by bit, is a bit vector. -/
namespace Sys2Proof.Machine

/-! ## Plans and jobs (chapter 1) -/

/-- R1: a hole plan, its forty values in the order of the record; `autoRetry` is 0 for off and 1 for on (12.4). The four
optional fields of R2 are `Option`. -/
structure HolePlan where
  id : Nat
  holeLength : Nat
  bondLength : Nat
  contact : Nat
  collarDepth : Nat
  approachFeed : Nat
  collarFeed : Nat
  collarRot : Nat
  drillFeed : Nat
  drillRot : Nat
  hardFeed : Option Nat
  voidFeed : Option Nat
  jam : Nat
  retryLimit : Nat
  autoRetry : Nat
  drillLimit : Nat
  kf : Nat
  voidMax : Nat
  softMax : Nat
  hardMin : Nat
  dropTime : Option Nat
  fill : Nat
  wv : Nat
  ws : Nat
  base : Nat
  maxCart : Nat
  pushFeed : Nat
  pushContact : Nat
  mixRot : Nat
  mixCount : Nat
  mixLimit : Nat
  gelTime : Nat
  torqueWindow : Nat
  holdFeed : Nat
  torqueRot : Nat
  torqueTarget : Nat
  torqueLimit : Option Nat
  torqueTime : Nat
  retractDuty : Nat
  releaseDuty : Nat
deriving DecidableEq, Repr, Inhabited

/-- R10: a job on one boom (the boom is the queue it stands in), with its three optional overrides. -/
structure Job where
  tag : Nat
  planId : Nat
  holeLength : Option Nat
  torqueTarget : Option Nat
  base : Option Nat
deriving DecidableEq, Repr, Inhabited

/-! ## The installation record (chapter 11) -/

/-- R183: the five outcomes. -/
inductive JobOutcome
  | good | torqueLow | overTorque | torqueSkipped | failed
deriving DecidableEq, Repr

/-- R45: the eight fault causes. -/
inductive FaultCause
  | aborted | stallCollar | stallDrill | stepTimeout | feedNoResponse | inserterNoResponse | resinFeed | channelFailed
deriving DecidableEq, Repr

/-- R183: the record flags. -/
structure RecordFlags where
  underResin : Bool := false
  mixShort : Bool := false
  mixInterrupted : Bool := false
  resinExtra : Bool := false
  restrictedRun : Bool := false
  voidInBond : Bool := false
deriving DecidableEq, Repr, Inhabited

/-- R64: the slice classes. -/
inductive SliceClass
  | void | soft | firm | hard
deriving DecidableEq, Repr

/-- R65: one entry of the drill log. -/
structure SliceEntry where
  cls : SliceClass
  se : Nat
  time : Nat
  q : Nat
deriving DecidableEq, Repr

/-- R183: an installation record; an absent field is `none`. -/
structure InstRecord where
  number : Option (BitVec 16) := none
  boom : BoomId
  tag : Nat
  planId : Nat
  outcome : Option JobOutcome := none
  fault : Option FaultCause := none
  flags : RecordFlags := {}
  start : Timestamp
  drillEnd : Option Timestamp := none
  mixStart : Option Timestamp := none
  endTime : Option Timestamp := none
  finalDepth : Nat := 0
  retries : Nat := 0
  hard : Nat := 0
  voidMm : Nat := 0
  softMm : Nat := 0
  assigned : Option Nat := none
  passed : Option Nat := none
  mixQ : Option Nat := none
  torque : Option Nat := none
  log : List SliceEntry := []
deriving DecidableEq, Repr

/-- R186: the record store: filed records oldest first, the next number, and the room queue (each entry stands for the
record of one boom, which the boom's engine holds until it is filed). -/
structure RecordStore where
  records : List InstRecord := []
  next : BitVec 16 := 0
  room : List BoomId := []
deriving DecidableEq, Repr

/-! ## The cycle engine (chapter 2) -/

/-- 2.1: the sixteen engine states, in the order of the table of 2.1. -/
inductive EngineState
  | idle | ready | parked | collar | drill | retract | insert | awaitBolt | push | mix | gelHold | torque | release
  | filing | hold | faulted
deriving DecidableEq, Repr, Inhabited

/-- 2.1: the sub-conditions READ BOOM names (R54); `none` in a state or step that has none. -/
inductive SubCond
  | none | approach | cut | backoff | awaitingResin
deriving DecidableEq, Repr, Inhabited

/-- R168: the legs of an inserter stroke. -/
inductive Leg
  | homing | advance | back
deriving DecidableEq, Repr

/-- R41: the hold causes. -/
inductive HoldCause
  | host | presence | canopy | trip | link | monitor | channel
deriving DecidableEq, Repr

/-- R41, R42: the hold cause set of a boom. -/
structure HoldCauses where
  host : Bool := false
  presence : Bool := false
  canopy : Bool := false
  trip : Bool := false
  link : Bool := false
  monitor : Bool := false
  channel : Bool := false
deriving DecidableEq, Repr, Inhabited

/-- R105: the two directions of a pair: FWD, UP, ADV or RAISE is `first`; REV, DOWN, RET or LOWER is `second`. -/
inductive Dir
  | first | second
deriving DecidableEq, Repr, Inhabited

/-- R52: a jog in progress. -/
structure Jog where
  fn : PairFn
  dir : Dir
  duty : Nat
  left : Nat
deriving DecidableEq, Repr

/-- The state of one cycle engine (R18 to R55, R168). In HOLD, `sub`, `leg` and `backoffTarget` are those of the resume
state (R41). `armOnGrant` is the model's own (log 11): the next drive of the step is its first and carries ARM. -/
structure Engine where
  state : EngineState := .idle
  sub : SubCond := .none
  resume : Option EngineState := none
  causes : HoldCauses := {}
  armOnGrant : Bool := false
  backoffTarget : Int := 0
  leg : Option Leg := none
  tally : Nat := 0
  restrokes : Nat := 0
  completed : Nat := 0
  passed : Nat := 0
  drillTimer : Nat := 0
  torqueTimer : Nat := 0
  resinClock : Nat := 0
  resinRunning : Bool := false
  retries : Nat := 0
  park : Bool := false
  restricted : Bool := false
  lastFault : Option FaultCause := none
  boltLoaded : Bool := false
  n : Option Nat := none
  q : Nat := 0
  lastT : Option Nat := none
  highest : Nat := 0
  consecutive : Nat := 0
  jog : Option Jog := none
  record : Option InstRecord := none
deriving DecidableEq, Repr

/-! ## The drill logger (chapter 3) -/

/-- R56: the open slice. That `openedAt` is 0 before slice 0 opens is the model's choice (log 21). -/
structure Slice where
  index : Nat := 0
  openedAt : Timestamp := 0
  rotSum : Nat := 0
  feedSum : Nat := 0
  n : Nat := 0
  q : Nat := 0
  time : Nat := 0
deriving DecidableEq, Repr

/-- R56, R72: the drill logger and resin sizer of one boom; the sizing figures stand from RETRACT entry to the filing. That
after a reset the void-found mark is clear and the feed choice and the figures are 0 is the model's choice (log 21). -/
structure Logger where
  collarZero : Option Nat := none
  h : Nat := 0
  slice : Slice := {}
  tally : Nat := 0
  feedChoice : Nat := 0
  log : List SliceEntry := []
  hard : Nat := 0
  voidFound : Bool := false
  voidMm : Nat := 0
  softMm : Nat := 0
deriving DecidableEq, Repr

/-! ## The flow arbiter (chapter 4) -/

/-- R74: what a flow request serves: an engine step, a jog of one pair, or a canopy motion. -/
inductive Purpose
  | step (e : EngineState)
  | jog (f : PairFn)
  | canopyRaise
  | canopyLower
deriving DecidableEq, Repr

/-- R73: a flow request. -/
structure FlowReq where
  who : Requester
  purpose : Purpose
  cls : Nat
  demand : Nat
  stamp : Nat
deriving DecidableEq, Repr

/-- R73: a waiting request with its wait time and starved mark. -/
structure Waiting where
  req : FlowReq
  wait : Nat
  starved : Bool
deriving DecidableEq, Repr

/-- R76, R77, R75: the arbiter: budget, grant table in grant order, wait list from the head, arrival counter. -/
structure Arbiter where
  budget : Nat := 20
  grants : List FlowReq := []
  waits : List Waiting := []
  counter : Nat := 0
deriving DecidableEq, Repr

/-! ## The canopy controller (chapter 5) -/

/-- R92: the canopy states. -/
inductive CanopyState
  | lowered | raising | set | lost | lowering | fault
deriving DecidableEq, Repr

/-- R92: the fault reasons. -/
inductive CanopyFault
  | none | noResponse | channel | lowerTimeout
deriving DecidableEq, Repr

/-- R92: the canopy controller. `armOnGrant` is the model's own (log 11): the next RAISE drive carries ARM (R94, R106). -/
structure Canopy where
  state : CanopyState := .lost
  setRun : Option Timestamp := none
  lossRun : Option Timestamp := none
  lowerTimer : Nat := 0
  fault : CanopyFault := .none
  armOnGrant : Bool := false
deriving DecidableEq, Repr

/-! ## Valve drivers and rig inputs (chapter 6) -/

/-- R105: the coil output of a pair. -/
inductive Coil
  | off
  | driving (d : Dir)
  | dead
deriving DecidableEq, Repr

/-- R119: a motion monitor: disarmed, or armed with its count, its reference pressure (CANOPY) and the freeze of HOLD. -/
inductive PairMonitor
  | disarmed
  | armed (count : Nat) (ref : Int) (frozen : Bool)
deriving DecidableEq, Repr

/-- R109: the pulse period in progress of a driving coil: its applied duty and length, and the ms of it gone by. -/
structure Pulse where
  duty : Nat := 0
  period : Nat := 0
  elapsed : Nat := 0
deriving DecidableEq, Repr

/-- R105: a coil pair. `dead = 0` is the idle dead-time timer; the gate is `State.gateOpen` (R111, log 29). -/
structure Pair where
  dir : Option Dir := none
  duty : Nat := 0
  applied : Nat := 0
  coil : Coil := .off
  last : Option Dir := none
  dead : Nat := 0
  monitor : PairMonitor := .disarmed
  pulse : Pulse := {}
deriving DecidableEq, Repr

/-- The three pairs of one boom. -/
structure BoomPairs where
  rot : Pair := {}
  feed : Pair := {}
  ins : Pair := {}
deriving DecidableEq, Repr

/-- R116: a switch input: the level of its line, its qualified level, and the ms its qualification run has lasted. -/
structure SwitchInput where
  line : Bool := false
  level : Bool := false
  run : Option Nat := none
deriving DecidableEq, Repr

/-- R116: the five switch inputs of one boom. -/
structure BoomSwitches where
  prs : SwitchInput := {}
  home : SwitchInput := {}
  iend : SwitchInput := {}
  ihome : SwitchInput := {}
deriving DecidableEq, Repr

/-- R118: a rotation pickup: the level of its line, its qualified level, and the tenths of a millisecond its qualification run
has lasted. -/
structure Pickup where
  line : Bool := false
  level : Bool := false
  run : Option Nat := none
deriving DecidableEq, Repr

/-! ## Measurement channels (chapter 7) -/

/-- R124: the seven analog channels, numbered 0 to 6 in this order. -/
inductive AnalogId
  | aRot | aFeed | bRot | bFeed | pump | canopy | oil
deriving DecidableEq, Repr

/-- The nine channels: seven analog and the two head channels 7 and 8. -/
inductive ChannelId
  | analog (c : AnalogId)
  | head (b : BoomId)
deriving DecidableEq, Repr

/-- R138: the health states. -/
inductive Health
  | healthy | suspect | degraded | failed
deriving DecidableEq, Repr

/-- R125, R138, R143: an analog channel; the health state and the valid mark are read from these (log 29). -/
structure Analog where
  raw : RawSample := 0
  good : Bool := false
  value : Option Int := none
  filtered : Option Int := none
  count : Nat := 0
  restore : Option Nat := none
deriving DecidableEq, Repr

/-- The seven analog channels. -/
structure Analogs where
  aRot : Analog := {}
  aFeed : Analog := {}
  bRot : Analog := {}
  bFeed : Analog := {}
  pump : Analog := {}
  canopy : Analog := {}
  oil : Analog := {}
deriving DecidableEq, Repr

/-- R133, R134, R136, R118: the motion inputs of one boom: torque estimate, feed position, the position latched for its last
scan record, last encoder line states, pulse count and pickup. -/
structure Motion where
  torqueEst : Nat := 0
  feedPos : Nat := 0
  scanPos : Nat := 0
  encI : Bool := false
  encQ : Bool := false
  pulses : BitVec 16 := 0
  pickup : Pickup := {}
deriving DecidableEq, Repr

/-- R124: the scan in progress: how many of its groups G0 to G3 have been published, in that order, and for each boom the feed
positions it has held and left since the scan began, the latest first. The position latched at a group's sampling instant is one
of these or the one that stands. -/
structure Scan where
  done : Nat := 0
  leftA : List Nat := []
  leftB : List Nat := []
deriving DecidableEq, Repr

/-! ## Head module bus (chapter 8) -/

/-- R150: the head data of one module. -/
structure HeadData where
  temp : Int
  vacuum : Nat
  contact : Bool
deriving DecidableEq, Repr

/-- R149: the errors that end a transaction. -/
inductive BusError
  | noAck | timeout | checkError | killed
deriving DecidableEq, Repr

/-- R150: the endings of a poll. -/
inductive PollEnding
  | good | busy | sensorFault
  | unknown (code : Byte)
  | noAck | timeout | checkError
deriving DecidableEq, Repr

/-- R138, R143, R150: the head channel and head record of one boom; `hasGood` says a first GOOD sample was taken (R145). -/
structure Head where
  count : Nat := 0
  restore : Option Nat := none
  hasGood : Bool := false
  data : Option HeadData := none
  published : Option Timestamp := none
  stale : Bool := true
  lastPoll : Option PollEnding := none
deriving DecidableEq, Repr

/-- R150: the schedule states. -/
inductive Schedule
  | polling | pausePending | paused
deriving DecidableEq, Repr

/-- R147: the kinds of transaction. -/
inductive BusKind
  | ping | readBlock | writeBlock
deriving DecidableEq, Repr

/-- R150: the transaction in flight. -/
structure Transaction where
  manual : Bool
  kind : BusKind
  addr : Byte
  cmd : Byte
  data : List Byte
  received : List Byte
deriving DecidableEq, Repr

/-- R158: the four manual results; DONE keeps the data bytes of a READ BLOCK, a CHECK_ERROR on a count above 16 keeps it. -/
inductive ManualResult
  | none
  | inProgress
  | done (data : List Byte)
  | error (e : BusError) (count : Option Byte)
deriving DecidableEq, Repr

/-- R158: the manual result with the kind, address and command of its transaction. -/
structure Manual where
  result : ManualResult := .none
  kind : BusKind := .ping
  addr : Byte := 0
  cmd : Byte := 0
deriving DecidableEq, Repr

/-- R150: the head module bus. `pollTimer = 0` stands for an expiry that is due (log 5). -/
structure HeadBus where
  schedule : Schedule := .polling
  pollTimer : Nat := 0
  round : Option BoomId := none
  txn : Option Transaction := none
  manual : Manual := {}
deriving DecidableEq, Repr

/-! ## Cartridge sensing (chapter 9) -/

/-- R162: the three oscillator settings. -/
inductive Setting
  | s1 | s2 | s3
deriving DecidableEq, Repr

/-- R162: what the block holds for one setting. -/
structure SettingState where
  baseline : Option Nat := none
  lastC : Option Nat := none
  mark : Bool := false
deriving DecidableEq, Repr

/-- R162, R171: the cartridge sensing of one boom; `threshold` is the one the measurement in progress was begun with. `restart`
is the model's own (log 20): the next measurement takes setting 1. -/
structure Sensing where
  hop : Bool := true
  window : Nat := 4096
  threshold : Nat := 100
  setting : Setting := .s1
  restart : Bool := false
  s1 : SettingState := {}
  s2 : SettingState := {}
  s3 : SettingState := {}
  agree : Nat := 0
  present : Bool := false
  passages : BitVec 16 := 0
  magazine : Nat := 0
deriving DecidableEq, Repr

/-! ## Limit monitors (chapter 10) -/

/-- R174: the nineteen sources; FILTERED has no channel 6. -/
inductive Source
  | value (c : AnalogId)
  | filtered (c : AnalogId)
  | torque (b : BoomId)
  | headTemp (b : BoomId)
  | headVacuum (b : BoomId)
deriving DecidableEq, Repr

/-- R173: an action set. -/
structure Actions where
  horn : Bool := false
  holdDrill : Bool := false
  holdAny : Bool := false
deriving DecidableEq, Repr

/-- R173: the boom scope. -/
inductive Scope
  | a | b | both
deriving DecidableEq, Repr

/-- R173: a monitor's configuration; `below` is the direction BELOW. -/
structure MonitorConfig where
  enable : Bool := false
  source : Source := .value .pump
  below : Bool := false
  warn : Int := 3000
  trip : Int := 3500
  hyst : Nat := 0
  warnActs : Actions := {}
  tripActs : Actions := {}
  scope : Scope := .both
deriving DecidableEq, Repr

/-- R173: the real-time status. -/
inductive Level
  | normal | warn | trip
deriving DecidableEq, Repr

/-- R173: a limit monitor. -/
structure Monitor where
  cfg : MonitorConfig := {}
  status : Level := .normal
  warnSeen : Bool := false
  tripSeen : Bool := false
  last : Option Int := none
  valid : Bool := false
deriving DecidableEq, Repr, Inhabited

/-! ## Calibration store and link port (chapter 12) -/

/-- R201: the last store result. -/
inductive StoreResult
  | none | done | failed
deriving DecidableEq, Repr

/-- The defaults of the calibration table of 12.7, values 1 to 96 in order. -/
def calDefaults : List Nat :=
  List.replicate 7 0 ++ List.replicate 7 4096 ++ List.replicate 6 2 ++ List.replicate 4 0 ++ List.replicate 26 20
    ++ [20000, 1000, 800, 500, 500, 20000]
    ++ List.replicate 7 10 ++ List.replicate 7 0 ++ List.replicate 7 100 ++ List.replicate 7 1000
    ++ [10, 5, 500, 100, 1000, 4096, 4096, 1, 1, 100, 100, 500]

/-- R201: the calibration store: the working set (values 1 to 96), the absent mark, the non-volatile image and its CRC, the
stored-copy-valid mark, the store operation state (`writing` holds the set being written), the ms the write has lasted, the
last result. -/
structure CalStore where
  working : List Nat := calDefaults
  absent : Bool := true
  image : List Byte := List.replicate 192 0
  crc : BitVec 16 := 0
  copyValid : Bool := false
  writing : Option (List Nat) := none
  writeTimer : Nat := 0
  last : StoreResult := .none
deriving DecidableEq, Repr

/-- R197: the refusal reasons. -/
inductive Reason
  | badLength | unknownCode | badField | noPlan | planInUse | planTableFull | queueFull | duplicateTag | noJob
  | wrongState | interlock | busy | empty
deriving DecidableEq, Repr

/-- R198: one value of a reply with the width it is carried at. -/
inductive Wire
  | u8 (n : Nat)
  | u16 (n : Nat)
  | u32 (n : Nat)
  | s16 (i : Int)
deriving DecidableEq, Repr

/-- R195: what the owning block decides: accepted with the reply fields, or refused with reason and detail. -/
inductive Answer
  | accepted (fields : List Wire)
  | refused (r : Reason) (detail : Nat)
deriving DecidableEq, Repr

/-- R195: a reply: the echoed SEQ, the request's code, the status summary and the answer. -/
structure Reply where
  seq : Byte
  code : Byte
  summary : Byte
  answer : Answer
deriving DecidableEq, Repr

/-- R194: the receiver, with the bytes of the frame it is assembling. -/
inductive Receiver
  | hunting
  | assembling (bytes : List Byte)
deriving DecidableEq, Repr

/-- R206: where an accepted RESET stands: none asked, its reply on the line, or the reset due (its reply has left). -/
inductive ResetStage
  | none | replying | due
deriving DecidableEq, Repr

/-- R194, R200, R206: the link port; `sending` is LKDE, `reply` the latest reply, `strap` the strap setting of R206. -/
structure Link where
  live : Bool := true
  timeout : Nat := 500
  silence : Nat := 0
  receiver : Receiver := .hunting
  sending : Bool := false
  reply : Option Reply := none
  strap : Nat := 0
  resetStage : ResetStage := .none
deriving DecidableEq, Repr

/-! ## The whole part -/

/-- R205: whether the power-on load is still going on (no block runs) or has ended. -/
inductive Phase
  | loading | running
deriving DecidableEq, Repr

/-- All that one boom owns. -/
structure BoomState where
  queue : List Job := []
  active : Option Job := none
  engine : Engine := { restricted := true }
  logger : Logger := {}
  pairs : BoomPairs := {}
  switches : BoomSwitches := {}
  motion : Motion := {}
  head : Head := {}
  sensing : Sensing := {}
deriving DecidableEq, Repr

/-- The state of the TB-240. `freeCount` is the model's own: it numbers the uses of the free values of Config (log 8).
`pending` is the queue of commands that wait, first in, first out. -/
structure State where
  phase : Phase := .running
  loadTimer : Nat := 0
  now : Timestamp := 0
  lastScan : Timestamp := 0
  scan : Scan := {}
  link : Link := {}
  events : BitVec 96 := 0
  plans : List HolePlan := []
  boomA : BoomState := {}
  boomB : BoomState := {}
  arb : Arbiter := {}
  canopy : Canopy := {}
  canopyPair : Pair := {}
  trip : Bool := true
  estop : SwitchInput := { line := true, level := true }
  clow : SwitchInput := {}
  analogs : Analogs := {}
  bus : HeadBus := {}
  monitors : List Monitor := List.replicate 12 {}
  store : RecordStore := {}
  cal : CalStore := {}
  freeCount : Nat := 0
  pending : List Instr := []
deriving DecidableEq, Repr

/-- The part after a power-on reset and its load (R9, R17, R55, R56, R91, R104, R105, R112, R116, R118, R145, R150, R172,
R182, R193, R199, R200, R205): every field at the default written beside it above. Which defaults the data book does not
give is said in log 4 and log 21. -/
def State.reset : State := {}

/-- The reasons the part stops with a fault: none. No rule of the data book halts the TB-240; every command leaves a next
state. -/
inductive Fault
deriving DecidableEq, Repr

/-- The reasons a command is refused by the model (not by the part, whose refusals are replies). -/
inductive Refusal
  /-- Raised by `exec`'s arm of a row that has no meaning yet; safe: nothing follows from it. No arm raises it now. -/
  | notModelled (mnemonic : String)
deriving DecidableEq, Repr

end Sys2Proof.Machine
end

