-- ==== Sys2Proof/Machine/Ops.lean ====
section
/-! DEFINITION. The named reads and writes of the state that every block uses: the parts of a boom, the pairs, the switches,
the channels, time differences, the calibration values by name, plans and jobs by id. -/
namespace Sys2Proof

/-- R198: a boom is 0 for A and 1 for B. -/
def BoomId.num : BoomId → Nat
  | .A => 0
  | .B => 1

/-- R198: the pair of a boom is 0 for ROT, 1 for FEED and 2 for INS. -/
def PairFn.num : PairFn → Nat
  | .rot => 0
  | .feed => 1
  | .ins => 2

/-- The place of a pair in the table of R105, 0 to 6. -/
def PairId.num : PairId → Nat
  | .boom b f => 3 * b.num + f.num
  | .canopy => 6

end Sys2Proof

namespace Sys2Proof.Machine

/-! ## Time -/

/-- R137: a later timestamp less an earlier one, modulo 2^32. -/
def since (later earlier : Timestamp) : Nat := (later - earlier).toNat

/-- R124: the timestamp at which the scan in progress began: the multiple of 2 at or below `now`. -/
def scanStamp (now : Timestamp) : Timestamp := now &&& ~~~1#32

/-! ## The two booms -/

def State.boom (s : State) : BoomId → BoomState
  | .A => s.boomA
  | .B => s.boomB

def State.setBoom (s : State) (b : BoomId) (x : BoomState) : State :=
  match b with
  | .A => { s with boomA := x }
  | .B => { s with boomB := x }

def State.engine (s : State) (b : BoomId) : Engine := (s.boom b).engine
def State.logger (s : State) (b : BoomId) : Logger := (s.boom b).logger
def State.motion (s : State) (b : BoomId) : Motion := (s.boom b).motion
def State.head (s : State) (b : BoomId) : Head := (s.boom b).head
def State.sensing (s : State) (b : BoomId) : Sensing := (s.boom b).sensing

def State.setEngine (s : State) (b : BoomId) (e : Engine) : State := s.setBoom b { s.boom b with engine := e }
def State.setLogger (s : State) (b : BoomId) (l : Logger) : State := s.setBoom b { s.boom b with logger := l }
def State.setMotion (s : State) (b : BoomId) (m : Motion) : State := s.setBoom b { s.boom b with motion := m }

/-- R124: the feed positions that a boom has left since the scan in progress began, the latest first. -/
def Scan.left (x : Scan) : BoomId → List Nat
  | .A => x.leftA
  | .B => x.leftB

/-- R124: a boom's feed leaves position `pos` in the scan in progress. -/
def Scan.leave (x : Scan) (b : BoomId) (pos : Nat) : Scan :=
  match b with
  | .A => { x with leftA := pos :: x.leftA }
  | .B => { x with leftB := pos :: x.leftB }

/-- R134, R135: a boom's feed position is set; the scan in progress keeps the one left, which a sampling instant before this
event has latched (R124). -/
def State.moveFeed (s : State) (b : BoomId) (pos : Nat) : State :=
  { s.setMotion b { s.motion b with feedPos := pos } with scan := s.scan.leave b (s.motion b).feedPos }

def State.setHead (s : State) (b : BoomId) (h : Head) : State := s.setBoom b { s.boom b with head := h }
def State.setSensing (s : State) (b : BoomId) (x : Sensing) : State := s.setBoom b { s.boom b with sensing := x }
def State.setQueue (s : State) (b : BoomId) (q : List Job) : State := s.setBoom b { s.boom b with queue := q }
def State.setActive (s : State) (b : BoomId) (j : Option Job) : State := s.setBoom b { s.boom b with active := j }

/-- Changes the record a boom's engine has under construction or waiting for room; nothing where there is none. -/
def State.modRecord (s : State) (b : BoomId) (f : InstRecord → InstRecord) : State :=
  s.setEngine b { s.engine b with record := (s.engine b).record.map f }

/-! ## Pairs and switches -/

def State.pair (s : State) : PairId → Pair
  | .boom b .rot => (s.boom b).pairs.rot
  | .boom b .feed => (s.boom b).pairs.feed
  | .boom b .ins => (s.boom b).pairs.ins
  | .canopy => s.canopyPair

def State.setPair (s : State) (p : PairId) (x : Pair) : State :=
  match p with
  | .boom b .rot => s.setBoom b { s.boom b with pairs := { (s.boom b).pairs with rot := x } }
  | .boom b .feed => s.setBoom b { s.boom b with pairs := { (s.boom b).pairs with feed := x } }
  | .boom b .ins => s.setBoom b { s.boom b with pairs := { (s.boom b).pairs with ins := x } }
  | .canopy => { s with canopyPair := x }

/-- The seven pairs in the order of the table of R105. -/
def allPairs : List PairId :=
  [.boom .A .rot, .boom .A .feed, .boom .A .ins, .boom .B .rot, .boom .B .feed, .boom .B .ins, .canopy]

def State.switch (s : State) : SwitchId → SwitchInput
  | .estop => s.estop
  | .prs b => (s.boom b).switches.prs
  | .home b => (s.boom b).switches.home
  | .iend b => (s.boom b).switches.iend
  | .ihome b => (s.boom b).switches.ihome
  | .clow => s.clow

def State.setSwitch (s : State) (i : SwitchId) (x : SwitchInput) : State :=
  match i with
  | .estop => { s with estop := x }
  | .prs b => s.setBoom b { s.boom b with switches := { (s.boom b).switches with prs := x } }
  | .home b => s.setBoom b { s.boom b with switches := { (s.boom b).switches with home := x } }
  | .iend b => s.setBoom b { s.boom b with switches := { (s.boom b).switches with iend := x } }
  | .ihome b => s.setBoom b { s.boom b with switches := { (s.boom b).switches with ihome := x } }
  | .clow => { s with clow := x }

/-- The ten switch inputs in the order of R116. -/
def allSwitches : List SwitchId :=
  [.estop, .prs .A, .prs .B, .home .A, .home .B, .iend .A, .iend .B, .ihome .A, .ihome .B, .clow]

/-- The qualified level of a switch: ESTOP active, presence held, any other switch closed. -/
def State.closed (s : State) (i : SwitchId) : Bool := (s.switch i).level

/-- R111: the gate of a pair. -/
def State.gateOpen (s : State) : PairId → Bool
  | .boom b _ => !s.trip && s.closed (.prs b)
  | .canopy => !s.trip

/-! ## Channels -/

def State.analog (s : State) : AnalogId → Analog
  | .aRot => s.analogs.aRot
  | .aFeed => s.analogs.aFeed
  | .bRot => s.analogs.bRot
  | .bFeed => s.analogs.bFeed
  | .pump => s.analogs.pump
  | .canopy => s.analogs.canopy
  | .oil => s.analogs.oil

def State.setAnalog (s : State) (c : AnalogId) (x : Analog) : State :=
  match c with
  | .aRot => { s with analogs := { s.analogs with aRot := x } }
  | .aFeed => { s with analogs := { s.analogs with aFeed := x } }
  | .bRot => { s with analogs := { s.analogs with bRot := x } }
  | .bFeed => { s with analogs := { s.analogs with bFeed := x } }
  | .pump => { s with analogs := { s.analogs with pump := x } }
  | .canopy => { s with analogs := { s.analogs with canopy := x } }
  | .oil => { s with analogs := { s.analogs with oil := x } }

/-- The ROT pressure channel of a boom (table of 7.1). -/
def rotChannel : BoomId → AnalogId
  | .A => .aRot
  | .B => .bRot

/-- The FEED pressure channel of a boom (table of 7.1). -/
def feedChannel : BoomId → AnalogId
  | .A => .aFeed
  | .B => .bFeed

/-- The number of an analog channel, 0 to 6. -/
def AnalogId.num : AnalogId → Nat
  | .aRot => 0
  | .aFeed => 1
  | .bRot => 2
  | .bFeed => 3
  | .pump => 4
  | .canopy => 5
  | .oil => 6

/-- The number of a channel, 0 to 8. -/
def ChannelId.num : ChannelId → Nat
  | .analog c => c.num
  | .head .A => 7
  | .head .B => 8

/-- The channel of a number; numbers above 8 name none (R143). -/
def ChannelId.ofNum : Nat → Option ChannelId
  | 0 => some (.analog .aRot)
  | 1 => some (.analog .aFeed)
  | 2 => some (.analog .bRot)
  | 3 => some (.analog .bFeed)
  | 4 => some (.analog .pump)
  | 5 => some (.analog .canopy)
  | 6 => some (.analog .oil)
  | 7 => some (.head .A)
  | 8 => some (.head .B)
  | _ => none

/-- R138: the health state of a fault count. -/
def Health.ofCount (count : Nat) : Health :=
  if count ≤ 95 then .healthy else if count ≤ 127 then .suspect else if count ≤ 255 then .degraded else .failed

def Analog.health (c : Analog) : Health := .ofCount c.count
def Head.health (h : Head) : Health := .ofCount h.count

/-- R141: the valid mark of an analog channel. -/
def Analog.valid (c : Analog) : Bool := c.value.isSome && c.health != .failed

/-- R145, R141: the valid mark of a head channel. -/
def Head.valid (h : Head) : Bool := h.hasGood && h.health != .failed

/-- R126: the published value, 0 while the channel has none. -/
def Analog.val (c : Analog) : Int := c.value.getD 0

/-- R126, R131: the filtered value, 0 while there is none. -/
def Analog.filt (c : Analog) : Int := c.filtered.getD 0

/-! ## Calibration values by name (table of 12.7) -/

/-- Value `n` (1 to 96) of the working set. -/
def CalStore.val (c : CalStore) (n : Nat) : Nat := c.working.getD (n - 1) 0

/-- The place of an engine step among the nine step demands; steps that take no flow have none and read as the first. -/
def EngineState.demandIndex : EngineState → Nat
  | .drill => 1
  | .retract => 2
  | .insert => 3
  | .push => 4
  | .mix => 5
  | .gelHold => 6
  | .torque => 7
  | .release => 8
  | _ => 0

def CalStore.offset (c : CalStore) (ch : AnalogId) : Nat := c.val (1 + ch.num)
def CalStore.gain (c : CalStore) (ch : AnalogId) : Nat := c.val (8 + ch.num)
def CalStore.shift (c : CalStore) (ch : AnalogId) : Nat := c.val (15 + ch.num)
def CalStore.idlePressure (c : CalStore) (b : BoomId) : Nat := c.val (21 + b.num)
def CalStore.torqueFactor (c : CalStore) (b : BoomId) : Nat := c.val (23 + b.num)
def CalStore.starvation (c : CalStore) : Nat := c.val 51
def CalStore.setLevel (c : CalStore) : Nat := c.val 52
def CalStore.lostLevel (c : CalStore) : Nat := c.val 53
def CalStore.raiseDuty (c : CalStore) : Nat := c.val 54
def CalStore.lowerDuty (c : CalStore) : Nat := c.val 55
def CalStore.lowerLimit (c : CalStore) : Nat := c.val 56
def CalStore.period (c : CalStore) (p : PairId) : Nat := c.val (57 + p.num)
def CalStore.minDuty (c : CalStore) (p : PairId) : Nat := c.val (64 + p.num)
def CalStore.deadTime (c : CalStore) (p : PairId) : Nat := c.val (71 + p.num)
def CalStore.response (c : CalStore) (p : PairId) : Nat := c.val (78 + p.num)
def CalStore.switchQualify (c : CalStore) : Nat := c.val 85
def CalStore.pulseQualify (c : CalStore) : Nat := c.val 86
def CalStore.strokeDuty (c : CalStore) : Nat := c.val 87
def CalStore.pollPeriod (c : CalStore) : Nat := c.val 88
def CalStore.staleLimit (c : CalStore) : Nat := c.val 89
def CalStore.window (c : CalStore) (b : BoomId) : Nat := c.val (90 + b.num)
def CalStore.hop (c : CalStore) (b : BoomId) : Bool := c.val (92 + b.num) == 1
def CalStore.threshold (c : CalStore) (b : BoomId) : Nat := c.val (94 + b.num)
def CalStore.linkTimeout (c : CalStore) : Nat := c.val 96

/-- R74: the demand of a purpose, read from the working set. -/
def CalStore.demand (c : CalStore) (who : Requester) (p : Purpose) : Nat :=
  match who, p with
  | .boom b, .step e => c.val (25 + 12 * b.num + e.demandIndex)
  | .boom b, .jog f => c.val (34 + 12 * b.num + f.num)
  | _, .canopyLower => c.val 50
  | _, _ => c.val 49

/-! ## Plans, jobs and the values in force -/

def findPlan (plans : List HolePlan) (id : Nat) : Option HolePlan := plans.find? (fun p => p.id == id)

/-- R6: the queued and active jobs of a boom. -/
def BoomState.jobs (b : BoomState) : List Job := b.active.toList ++ b.queue

/-- R6: the reference count of a plan id (log 29: counted from the queues and active places). -/
def State.refs (s : State) (id : Nat) : Nat :=
  ((s.boomA.jobs ++ s.boomB.jobs).filter (fun j => j.planId == id)).length

/-- R11: the four values in force of a job. -/
structure InForce where
  holeLength : Nat
  target : Nat
  limit : Nat
  base : Nat
deriving DecidableEq, Repr

/-- R11, R2: the values in force of job `j` on plan `p`. -/
def inForce (p : HolePlan) (j : Job) : InForce :=
  let target := j.torqueTarget.getD p.torqueTarget
  { holeLength := j.holeLength.getD p.holeLength
    target := target
    limit := p.torqueLimit.getD (min (target + 100) 1000)
    base := j.base.getD p.base }

/-- The active job of a boom (log 36: an empty job where there is none, in no reachable use). -/
def State.activeJob (s : State) (b : BoomId) : Job := (s.boom b).active.getD default

/-- The plan of the active job (R6: it is stored while the job stands; log 36). -/
def State.activePlan (s : State) (b : BoomId) : HolePlan := (findPlan s.plans (s.activeJob b).planId).getD default

def State.activeValues (s : State) (b : BoomId) : InForce := inForce (s.activePlan b) (s.activeJob b)

/-! ## Engine states -/

/-- The engaged states (Terms). -/
def EngineState.engaged : EngineState → Bool
  | .collar | .drill | .retract | .insert | .awaitBolt | .push | .mix | .gelHold | .torque | .release => true
  | _ => false

/-- R57: the depth of a boom as it stands, absent before collar zero is taken. -/
def State.depth (s : State) (b : BoomId) : Option Int :=
  (s.logger b).collarZero.map (fun z => ((s.motion b).feedPos : Int) - (z : Int))

/-- R134, R57: the depth that engine and logger read: that of the position latched in the boom's scan record. They read it only
after collar zero has been taken; before, it reads 0. -/
def State.scanDepth (s : State) (b : BoomId) : Int :=
  match (s.logger b).collarZero with
  | some z => ((s.motion b).scanPos : Int) - (z : Int)
  | none => 0

/-- The boom's request stands in the grant table. -/
def State.granted (s : State) (who : Requester) : Bool := s.arb.grants.any (fun r => r.who == who)

/-- R21: the boom's request stands in the wait list. -/
def State.flowWait (s : State) (who : Requester) : Bool := s.arb.waits.any (fun w => w.req.who == who)

end Sys2Proof.Machine
end

