-- ==== Sys2Proof/Machine/Flags.lean ====
section
/-! DEFINITION. The event set of 12.4 and 12.5 with its 86 flags, the flags of a record, the hold cause set, and the status
summary that heads every reply. -/
namespace Sys2Proof.Machine

/-- R140: the event kinds of a channel. -/
inductive ChannelEvent
  | suspect | degraded | failed | recovered
deriving DecidableEq, Repr

/-- R199: the event kinds and sources of the event set. -/
inductive Event
  | jobDone (b : BoomId)
  | jobFault (b : BoomId)
  | holdEntered (b : BoomId)
  | resinNeeded (b : BoomId)
  | boltNeeded (b : BoomId)
  | voidFound (b : BoomId)
  | flowStarved (b : BoomId)
  | restricted (b : BoomId)
  | canopySet | canopyLost | canopyFault | linkLost | tripLatched | headPollError | recordReady | storeFull
  | storeDone | storeFailed
  | channel (c : ChannelId) (k : ChannelEvent)
  | monitor (n : Nat) (trip : Bool)
deriving DecidableEq, Repr

def ChannelEvent.num : ChannelEvent → Nat
  | .suspect => 0
  | .degraded => 1
  | .failed => 2
  | .recovered => 3

/-- The place of a flag in the event set of 12.4: byte times 8 plus bit. -/
def Event.bit : Event → Nat
  | .jobDone b => 8 * b.num
  | .jobFault b => 8 * b.num + 1
  | .holdEntered b => 8 * b.num + 2
  | .resinNeeded b => 8 * b.num + 3
  | .boltNeeded b => 8 * b.num + 4
  | .voidFound b => 8 * b.num + 5
  | .flowStarved b => 8 * b.num + 6
  | .restricted b => 8 * b.num + 7
  | .canopySet => 16
  | .canopyLost => 17
  | .canopyFault => 18
  | .linkLost => 19
  | .tripLatched => 20
  | .headPollError => 21
  | .recordReady => 22
  | .storeFull => 23
  | .storeDone => 24
  | .storeFailed => 25
  | .channel c k => 32 + 4 * c.num + k.num
  | .monitor n t => 72 + 2 * n + (if t then 1 else 0)

/-- R199: sets the flag of an event. -/
def State.raise (s : State) (e : Event) : State := { s with events := s.events ||| (1#96 <<< e.bit) }

/-- R199: the flag of an event is set. -/
def State.raised (s : State) (e : Event) : Bool := s.events.getLsbD e.bit

/-- R199: the twelve bytes of the event set. -/
def eventBytes (events : BitVec 96) : List Wire :=
  (List.range 12).map (fun i => .u8 ((events >>> (8 * i)).toNat % 256))

/-! ## Record flags and hold causes -/

inductive RecordFlag
  | underResin | mixShort | mixInterrupted | resinExtra | restrictedRun | voidInBond
deriving DecidableEq, Repr

def RecordFlags.add (f : RecordFlags) : RecordFlag → RecordFlags
  | .underResin => { f with underResin := true }
  | .mixShort => { f with mixShort := true }
  | .mixInterrupted => { f with mixInterrupted := true }
  | .resinExtra => { f with resinExtra := true }
  | .restrictedRun => { f with restrictedRun := true }
  | .voidInBond => { f with voidInBond := true }

/-- R185: sets a flag in the record of a boom, any time before filing. -/
def State.flagRecord (s : State) (b : BoomId) (f : RecordFlag) : State :=
  s.modRecord b (fun r => { r with flags := r.flags.add f })

/-- The flag byte of the record header (12.4). -/
def RecordFlags.num (f : RecordFlags) : Nat :=
  (if f.underResin then 1 else 0) + (if f.mixShort then 2 else 0) + (if f.mixInterrupted then 4 else 0)
    + (if f.resinExtra then 8 else 0) + (if f.restrictedRun then 16 else 0) + (if f.voidInBond then 32 else 0)

/-- R42: adds a cause to the hold cause set. -/
def HoldCauses.add (c : HoldCauses) : HoldCause → HoldCauses
  | .host => { c with host := true }
  | .presence => { c with presence := true }
  | .canopy => { c with canopy := true }
  | .trip => { c with trip := true }
  | .link => { c with link := true }
  | .monitor => { c with monitor := true }
  | .channel => { c with channel := true }

/-- The hold cause set as bits in the order of R41 (log 17). -/
def HoldCauses.num (c : HoldCauses) : Nat :=
  (if c.host then 1 else 0) + (if c.presence then 2 else 0) + (if c.canopy then 4 else 0) + (if c.trip then 8 else 0)
    + (if c.link then 16 else 0) + (if c.monitor then 32 else 0) + (if c.channel then 64 else 0)

/-- R173, R198: the action set as the payload bits HORN 0, HOLD_DRILL 1, HOLD_ANY 2. -/
def Actions.num (a : Actions) : Nat :=
  (if a.horn then 1 else 0) + (if a.holdDrill then 2 else 0) + (if a.holdAny then 4 else 0)

def Actions.ofNum (n : Nat) : Actions :=
  { horn := n.testBit 0, holdDrill := n.testBit 1, holdAny := n.testBit 2 }

/-! ## Status summary -/

/-- R196: the status summary of a reply. -/
def State.summary (s : State) : Byte :=
  BitVec.ofNat 8
    ((if s.events ≠ 0 then 1 else 0) + (if s.trip then 2 else 0) + (if s.canopy.state = .set then 4 else 0)
      + (if (s.engine .A).state = .faulted then 8 else 0) + (if (s.engine .B).state = .faulted then 16 else 0)
      + (if s.cal.absent then 32 else 0))

end Sys2Proof.Machine
end

