-- ==== Sys2Proof/Machine/Arbiter.lean ====
section
/-! DEFINITION. The hydraulic flow arbiter (chapter 4) on its own state: placing, exchanging, withdrawing, the grant pass
with its preemption, the budget. What a pass grants and preempts comes back as a list of notes, which Flow.lean tells the
requesters. -/
namespace Sys2Proof.Machine

/-- R86, R87: what a requester is told: its request is granted, or its grant is preempted. -/
structure FlowNote where
  who : Requester
  granted : Bool
deriving DecidableEq, Repr

/-- R76: the sum of the granted demands. -/
def Arbiter.grantedSum (a : Arbiter) : Nat := (a.grants.map (·.demand)).sum

/-- R76: the free flow. -/
def Arbiter.free (a : Arbiter) : Nat := a.budget - a.grantedSum

/-- R74: the class of a purpose. -/
def Purpose.cls : Purpose → Nat
  | .canopyRaise | .canopyLower => 1
  | .step .push | .step .mix | .step .gelHold | .step .torque => 2
  | .step .collar | .step .drill => 3
  | _ => 4

/-- R77: the order of the wait list: class first, then arrival stamp. -/
def FlowReq.ahead (x y : FlowReq) : Bool := x.cls < y.cls || (x.cls == y.cls && x.stamp < y.stamp)

/-- R77: a request joins the wait list at its place. -/
def joinWaits (w : Waiting) : List Waiting → List Waiting
  | [] => [w]
  | x :: xs => if w.req.ahead x.req then w :: x :: xs else x :: joinWaits w xs

/-- R77: a request begins a wait. -/
def FlowReq.waiting (r : FlowReq) : Waiting := { req := r, wait := 0, starved := false }

/-- R80: a requester's held request leaves the grant table or the wait list. -/
def Arbiter.remove (a : Arbiter) (who : Requester) : Arbiter :=
  { a with grants := a.grants.filter (fun r => r.who != who), waits := a.waits.filter (fun w => w.req.who != who) }

/-- R75: the requests held, granted and waiting. -/
def Arbiter.held (a : Arbiter) : List FlowReq := a.grants ++ a.waits.map (·.req)

/-- R75: a held request's number when the held requests are renumbered 1, 2, 3 in the order of their stamps. -/
def Arbiter.rank (a : Arbiter) (r : FlowReq) : Nat := 1 + (a.held.filter (fun x => x.stamp < r.stamp)).length

/-- R75: the renumbering a placement makes when it finds the counter at 65535. -/
def Arbiter.renumber (a : Arbiter) : Arbiter :=
  if a.counter ≥ 65535 then
    { a with
      grants := a.grants.map (fun r => { r with stamp := a.rank r })
      waits := a.waits.map (fun w => { w with req := { w.req with stamp := a.rank w.req } })
      counter := a.held.length }
  else a

/-- R78, R79: a placement or exchange, before its grant pass: the held request is given up, the new one takes the next stamp
and joins the wait list. -/
def Arbiter.submit (a : Arbiter) (who : Requester) (purpose : Purpose) (demand : Nat) : Arbiter :=
  let a := a.renumber
  let r : FlowReq := { who := who, purpose := purpose, cls := purpose.cls, demand := demand, stamp := a.counter + 1 }
  let a := a.remove who
  { a with counter := a.counter + 1, waits := joinWaits r.waiting a.waits }

/-- R82, R85: the grant preempted first among those of a class above `cls`: the highest class number, and within one class
the most recently granted. -/
def victim (cls : Nat) : List FlowReq → Option FlowReq
  | [] => none
  | r :: rs =>
    match victim cls rs with
    | some v => if r.cls > v.cls then (if r.cls > cls then some r else some v) else some v
    | none => if r.cls > cls then some r else none

/-- R83: a granted request returns to the wait list and begins a new wait. -/
def Arbiter.preempt (a : Arbiter) (r : FlowReq) : Arbiter :=
  { a with grants := a.grants.filter (fun x => x.who != r.who), waits := joinWaits r.waiting a.waits }

/-- R82: preempts grants of a class above `cls` one at a time until `need` is free. -/
def Arbiter.preemptFor (need cls : Nat) : Nat → Arbiter → Arbiter × List FlowNote
  | 0, a => (a, [])
  | n + 1, a =>
    if need ≤ a.free then (a, [])
    else
      match victim cls a.grants with
      | none => (a, [])
      | some r =>
        let x := Arbiter.preemptFor need cls n (a.preempt r)
        (x.1, ⟨r.who, false⟩ :: x.2)

/-- R82: the demands of the grants a head of class `cls` may preempt. -/
def Arbiter.candidateSum (a : Arbiter) (cls : Nat) : Nat := ((a.grants.filter (fun r => r.cls > cls)).map (·.demand)).sum

/-- R81: the head is granted and moves to the tail of the grant table. -/
def Arbiter.grantHead (a : Arbiter) (w : Waiting) : Arbiter := { a with grants := a.grants ++ [w.req] }

/-- R81, R82: the grant pass, over at most the given number of heads. One pass grants at most three requests. -/
def Arbiter.passFuel : Nat → Arbiter → Arbiter × List FlowNote
  | 0, a => (a, [])
  | n + 1, a =>
    match a.waits with
    | [] => (a, [])
    | w :: ws =>
      if w.req.demand ≤ a.free then
        let x := Arbiter.passFuel n (({ a with waits := ws } : Arbiter).grantHead w)
        (x.1, ⟨w.req.who, true⟩ :: x.2)
      else if w.req.cls ≥ 3 then (a, [])
      else if a.free + a.candidateSum w.req.cls < w.req.demand then (a, [])
      else
        let y := Arbiter.preemptFor w.req.demand w.req.cls a.grants.length { a with waits := ws }
        let x := Arbiter.passFuel n (y.1.grantHead w)
        (x.1, y.2 ++ ⟨w.req.who, true⟩ :: x.2)

/-- R81: the grant pass. Each head granted is of a class no lower in number than the one before it, so a request is granted
at most once in a pass and the bound of 8 is never reached with three requesters. -/
def Arbiter.pass (a : Arbiter) : Arbiter × List FlowNote := a.passFuel 8

/-- R85: preempts grants, highest class number first and most recent first, until their sum lies within the budget. -/
def Arbiter.fitBudget : Nat → Arbiter → Arbiter × List FlowNote
  | 0, a => (a, [])
  | n + 1, a =>
    if a.grantedSum ≤ a.budget then (a, [])
    else
      match victim 0 a.grants with
      | none => (a, [])
      | some r =>
        let x := Arbiter.fitBudget n (a.preempt r)
        (x.1, ⟨r.who, false⟩ :: x.2)

/-- R89: sets the starved mark of a requester's waiting request. -/
def Arbiter.markStarved (a : Arbiter) (who : Requester) (limit : Nat) : Arbiter :=
  { a with
    waits := a.waits.map (fun w => if w.req.who = who then { w with starved := true, wait := max w.wait limit } else w) }

/-- R77: one millisecond of waiting. -/
def Arbiter.tick (a : Arbiter) : Arbiter := { a with waits := a.waits.map (fun w => { w with wait := w.wait + 1 }) }

end Sys2Proof.Machine
end

