-- ==== Sys2Proof/Machine/Pairs.lean ====
section
/-! DEFINITION. The valve drivers (chapter 6): what a request, a gate change, the dead time, a response event and a
millisecond do to a coil pair. Owners act on pairs through `State.request` only. -/
namespace Sys2Proof.Machine

/-- R106: the monitor instruction of a drive request. -/
inductive Arming
  | arm | continue | none
deriving DecidableEq, Repr

/-- R106: the two kinds of request; an off request says whether it HOLDs the monitor. -/
inductive PairRequest
  | drive (d : Dir) (duty : Nat) (m : Arming)
  | off (hold : Bool)
deriving DecidableEq, Repr

/-- R109: the applied duty of commanded duty `c` under minimum duty `m`. -/
def appliedDuty (m c : Nat) : Nat := if c = 0 then 0 else m + c * (1000 - m) / 1000

/-- R109: the on-time of a pulse period, in microseconds. -/
def Pulse.onTime (p : Pulse) : Nat := p.period * p.duty

/-- R107: the coil of the pair stops, now that its request or gate is as given. -/
def Pair.stops (p : Pair) (gate : Bool) : Bool :=
  match p.coil with
  | .driving d => !(gate && p.dir == some d)
  | _ => false

/-- R107, R108: decides the pair afresh on the request it holds, its gate and its timer. A coil that stops loads the dead
time; the requested coil drives when the timer is idle or the last direction is the requested one, and is DEAD otherwise; a
coil that begins to drive begins a new period (R109). -/
def Pair.settle (gate : Bool) (deadTime period : Nat) (p : Pair) : Pair :=
  let dead := if p.stops gate then deadTime else p.dead
  match p.dir with
  | some d =>
    if gate then
      if dead = 0 ∨ p.last = some d then
        { p with
          coil := .driving d
          last := some d
          dead := 0
          pulse := if p.coil = .driving d then p.pulse else { duty := p.applied, period := period, elapsed := 0 } }
      else { p with coil := .dead, dead := dead }
    else { p with coil := .off, dead := dead }
  | none => { p with coil := .off, dead := dead }

/-- R119: what the monitor instruction of a drive request does; a freeze by HOLD ends with any drive request. -/
def PairMonitor.onDrive (m : PairMonitor) (a : Arming) (response : Nat) (ref : Int) : PairMonitor :=
  match a, m with
  | .arm, _ => .armed response ref false
  | .continue, .armed c r _ => .armed c r false
  | .continue, .disarmed => .disarmed
  | .none, _ => .disarmed

/-- R119: what an off request does to the monitor. -/
def PairMonitor.onOff (m : PairMonitor) (hold : Bool) : PairMonitor :=
  match hold, m with
  | true, .armed c r _ => .armed c r true
  | _, _ => .disarmed

/-- R119: the monitor counts: armed, not frozen, its coil DRIVING (which the open gate is part of). -/
def Pair.counting (p : Pair) : Bool :=
  match p.monitor, p.coil with
  | .armed _ _ false, .driving _ => true
  | _, _ => false

/-- R121: the monitor expires: it counts, and its count stands at 0. A monitor that an ARM or a response has reloaded first, or
that NONE has disarmed, has no expiry. -/
def Pair.expires (p : Pair) : Bool :=
  match p.monitor with
  | .armed 0 _ _ => p.counting
  | _ => false

/-- R106: records a request, before the coils are decided. -/
def Pair.record (p : Pair) (r : PairRequest) (minDuty response : Nat) (ref : Int) : Pair :=
  match r with
  | .drive d duty m =>
    { p with dir := some d, duty := duty, applied := appliedDuty minDuty duty, monitor := p.monitor.onDrive m response ref }
  | .off hold => { p with dir := none, duty := 0, applied := 0, monitor := p.monitor.onOff hold }

/-- R119: the reference an ARM takes: the present published value of the CANOPY channel. Only the CANOPY pair's monitor
reads it. -/
def State.armRef (s : State) (p : PairId) : Int :=
  match p with
  | .canopy => (s.analog .canopy).val
  | .boom _ _ => 0

/-- Decides one pair afresh (R111: after a gate change; R108: when its dead time ends). -/
def State.settlePair (s : State) (p : PairId) : State :=
  s.setPair p ((s.pair p).settle (s.gateOpen p) (s.cal.deadTime p) (s.cal.period p))

/-- R106: hands a pair a request, in the event of the owner's decision. -/
def State.request (s : State) (p : PairId) (r : PairRequest) : State :=
  s.setPair p
    (((s.pair p).record r (s.cal.minDuty p) (s.cal.response p) (s.armRef p)).settle (s.gateOpen p) (s.cal.deadTime p)
      (s.cal.period p))

/-- Decides the three pairs of a boom afresh. -/
def State.settleBoom (s : State) (b : BoomId) : State :=
  ((s.settlePair (.boom b .rot)).settlePair (.boom b .feed)).settlePair (.boom b .ins)

/-- Decides all seven pairs afresh. -/
def State.settleAll (s : State) : State := ((s.settleBoom .A).settleBoom .B).settlePair .canopy

/-- Hands the three pairs of a boom off requests. -/
def State.boomOff (s : State) (b : BoomId) (hold : Bool) : State :=
  ((s.request (.boom b .rot) (.off hold)).request (.boom b .feed) (.off hold)).request (.boom b .ins) (.off hold)

/-- R120: a response event reloads a counting monitor's count, and on the CANOPY pair its reference. -/
def Pair.respond (p : Pair) (response : Nat) (ref : Option Int) : Pair :=
  if p.counting then
    match p.monitor with
    | .armed _ r f => { p with monitor := .armed response (ref.getD r) f }
    | .disarmed => p
  else p

def State.respond (s : State) (p : PairId) (ref : Option Int) : State :=
  s.setPair p ((s.pair p).respond (s.cal.response p) ref)

/-- R120: the CANOPY response: a published value at or above the reference plus 20, which becomes the reference. -/
def State.canopyResponse (s : State) : State :=
  match (s.pair .canopy).monitor with
  | .armed _ r _ => if (s.analog .canopy).val ≥ r + 20 then s.respond .canopy (some (s.analog .canopy).val) else s
  | .disarmed => s

/-- R110: an accepted CALIBRATE computes the applied duty of a pair with a request again. -/
def State.recomputeDuty (s : State) (p : PairId) : State :=
  s.setPair p { s.pair p with applied := appliedDuty (s.cal.minDuty p) (s.pair p).duty }

/-- One millisecond of a pair (R107, R109, R119): the dead-time timer and a counting monitor count down, and the period of a
driving coil runs; the next period takes the applied duty and the period then in force. -/
def Pair.tick (period : Nat) (p : Pair) : Pair :=
  let pulse :=
    match p.coil with
    | .driving _ =>
      if p.pulse.elapsed + 1 ≥ p.pulse.period then { duty := p.applied, period := period, elapsed := 0 }
      else { p.pulse with elapsed := p.pulse.elapsed + 1 }
    | _ => p.pulse
  let monitor :=
    match p.monitor with
    | .armed c r f => if p.counting then .armed (c - 1) r f else .armed c r f
    | .disarmed => .disarmed
  { p with dead := p.dead - 1, pulse := pulse, monitor := monitor }

/-- R123: a warm reset hands a pair off with NONE; its last direction stays. -/
def State.releasePair (s : State) (p : PairId) : State := s.request p (.off false)

end Sys2Proof.Machine
end

