-- ==== Sys2Proof/Machine/Flow.lean ====
section
/-! DEFINITION. Drive within a step (table of 2.1, R22, R94, R99) and the telling of grants and preemptions to the
requesters (R86, R87): the one place where the arbiter moves the valve pairs. -/
namespace Sys2Proof.Machine

/-- The row of the table of 2.1 for the present step: the drive of each pair, and the pair whose monitor is armed. -/
structure StepDrive where
  rot : Option (Dir × Nat) := none
  feed : Option (Dir × Nat) := none
  ins : Option (Dir × Nat) := none
  monitored : Option PairFn := none
deriving DecidableEq, Repr

/-- R22: the restricted cap on a commanded feed duty. -/
def capFeed (restricted : Bool) (duty : Nat) : Nat := if restricted then min duty 500 else duty

/-- R168: the direction of a stroke's leg: ADV on the advance, RET on the homing and return legs. -/
def Leg.dir : Leg → Dir
  | .advance => .first
  | .homing | .back => .second

/-- The table of 2.1, with the feed duties of R22 under the restricted cap and the DRILL duty of the logger's choice. -/
def State.stepDrive (s : State) (b : BoomId) : StepDrive :=
  let e := s.engine b
  let p := s.activePlan b
  let feed (d : Dir) (duty : Nat) : Option (Dir × Nat) := some (d, capFeed e.restricted duty)
  match e.state, e.sub with
  | .collar, .approach => { feed := feed .first p.approachFeed, monitored := some .feed }
  | .collar, .backoff => { rot := some (.first, p.collarRot), feed := feed .second p.retractDuty, monitored := some .rot }
  | .collar, _ => { rot := some (.first, p.collarRot), feed := feed .first p.collarFeed, monitored := some .rot }
  | .drill, .backoff => { rot := some (.first, p.drillRot), feed := feed .second p.retractDuty, monitored := some .rot }
  | .drill, _ => { rot := some (.first, p.drillRot), feed := feed .first (s.logger b).feedChoice, monitored := some .rot }
  | .retract, _ => { feed := feed .second p.retractDuty, monitored := some .feed }
  | .insert, .awaitingResin => {}
  | .insert, _ =>
    match e.leg with
    | some l => { ins := some (l.dir, s.cal.strokeDuty), monitored := some .ins }
    | none => {}
  | .push, _ => { feed := feed .first p.pushFeed, monitored := some .feed }
  | .mix, _ => { rot := some (.first, p.mixRot), feed := feed .first p.holdFeed, monitored := some .rot }
  | .gelHold, _ => { feed := feed .first p.holdFeed }
  | .torque, _ => { rot := some (.first, p.torqueRot), feed := feed .first p.holdFeed, monitored := some .rot }
  | .release, _ => { feed := feed .second p.releaseDuty, monitored := some .feed }
  | _, _ => {}

/-- The request one pair gets from a row of the table: its drive, its monitor under `m` if the row arms it, or off. -/
def StepDrive.toRequest (d : StepDrive) (f : PairFn) (m : Arming) : PairRequest :=
  let drive := match f with
    | .rot => d.rot
    | .feed => d.feed
    | .ins => d.ins
  match drive with
  | some (dir, duty) => .drive dir duty (if d.monitored = some f then m else .none)
  | none => .off false

/-- R22: issues the drive requests of a boom's step to its three pairs. -/
def State.issueStep (s : State) (b : BoomId) (m : Arming) : State :=
  let d := s.stepDrive b
  ((s.request (.boom b .rot) (d.toRequest .rot m)).request (.boom b .feed) (d.toRequest .feed m)).request (.boom b .ins)
    (d.toRequest .ins m)

/-- R52: the row of a jog: one pair, no monitor. -/
def Jog.drive (j : Jog) (restricted : Bool) : StepDrive :=
  match j.fn with
  | .rot => { rot := some (j.dir, j.duty) }
  | .feed => { feed := some (j.dir, capFeed restricted j.duty) }
  | .ins => { ins := some (j.dir, j.duty) }

/-- R52: drives the jogged pair; the boom's other pairs are off. -/
def State.issueJog (s : State) (b : BoomId) (j : Jog) : State :=
  let d := j.drive (s.engine b).restricted
  ((s.request (.boom b .rot) (d.toRequest .rot .none)).request (.boom b .feed) (d.toRequest .feed .none)).request
    (.boom b .ins) (d.toRequest .ins .none)

/-- R86, R106: a boom's request is granted: a jog drives its pair; a step's first drive arms the marked monitor and a
reissue lets it count on. -/
def State.onBoomGrant (s : State) (b : BoomId) : State :=
  match (s.engine b).jog with
  | some j => s.issueJog b j
  | none =>
    let s' := s.issueStep b (if (s.engine b).armOnGrant then .arm else .continue)
    s'.setEngine b { s'.engine b with armOnGrant := false }

/-- R87, R21: a boom's grant is preempted: coils off, monitors frozen; a preempted MIX is marked in the record. -/
def State.onBoomPreempt (s : State) (b : BoomId) : State :=
  let s' := s.boomOff b true
  if (s.engine b).state = .mix then s'.flagRecord b .mixInterrupted else s'

/-- R94, R99: the canopy's drive when its request is granted. While a set confirm run is present the raise carries NONE. -/
def State.onCanopyGrant (s : State) : State :=
  match s.canopy.state with
  | .raising =>
    let m : Arming := if s.canopy.setRun.isSome then .none else if s.canopy.armOnGrant then .arm else .continue
    let s' := s.request .canopy (.drive .first s.cal.raiseDuty m)
    { s' with canopy := { s'.canopy with armOnGrant := false } }
  | .lowering => s.request .canopy (.drive .second s.cal.lowerDuty .none)
  | _ => s

/-- R94, R99: the canopy's grant is preempted: the pair is off and its monitor holds its count. -/
def State.onCanopyPreempt (s : State) : State := s.request .canopy (.off true)

/-- R86, R87: tells one requester. -/
def State.tell (s : State) (n : FlowNote) : State :=
  match n.who, n.granted with
  | .boom b, true => s.onBoomGrant b
  | .boom b, false => s.onBoomPreempt b
  | .canopy, true => s.onCanopyGrant
  | .canopy, false => s.onCanopyPreempt

/-- Runs the grant pass once and tells the requesters, in the order of the pass. -/
def State.runPass (s : State) : State :=
  let x := s.arb.pass
  x.2.foldl State.tell { s with arb := x.1 }

/-- R78, R79: a placement or exchange with its grant pass. The demand is read from the working set now (R74). -/
def State.place (s : State) (who : Requester) (purpose : Purpose) : State :=
  State.runPass { s with arb := s.arb.submit who purpose (s.cal.demand who purpose) }

/-- R80: a withdrawal with its grant pass; one from a requester that holds no request changes nothing (R73). -/
def State.withdraw (s : State) (who : Requester) : State :=
  if s.granted who || s.flowWait who then State.runPass { s with arb := s.arb.remove who } else s

/-- R21, R80: a boom enters a state that takes no flow: its coils go off and its request is withdrawn. -/
def State.noFlow (s : State) (b : BoomId) : State := (s.boomOff b false).withdraw (.boom b)

/-- R21, R22: a boom's step begins: its request is placed or exchanged, and it drives on its first grant or stands in flow
wait with its coils off. The engine's state is already that of the step. -/
def State.beginFlow (s : State) (b : BoomId) (purpose : Purpose) : State :=
  let s1 := (s.setEngine b { s.engine b with armOnGrant := true }).place (.boom b) purpose
  if s1.granted (.boom b) then s1 else s1.boomOff b false

/-- R22, R29, R168: the drive of a step changes within the step (a sub-condition or a stroke's leg): granted, the new drives
go out with ARM; in flow wait, the old row's monitors are disarmed and the next grant arms the new row's (log 11). -/
def State.changeDrive (s : State) (b : BoomId) : State :=
  if s.granted (.boom b) then s.issueStep b .arm
  else (s.setEngine b { s.engine b with armOnGrant := true }).boomOff b false

/-- R22, R66: the feed duty of a running step or jog changes: a drive in the direction already requested, with CONTINUE. -/
def State.reissueFeed (s : State) (b : BoomId) : State :=
  let d := match (s.engine b).jog with
    | some j => j.drive (s.engine b).restricted
    | none => s.stepDrive b
  match (s.pair (.boom b .feed)).dir, d.feed with
  | some _, some (dir, duty) => s.request (.boom b .feed) (.drive dir duty .continue)
  | _, _ => s

end Sys2Proof.Machine
end

