-- ==== Sys2Proof/Machine/Logger.lean ====
section
/-! DEFINITION. The drill logger and resin sizer (chapter 3), as computations on a logger, its plan, the values in force
and one scan. What a closing raises comes back beside the logger; Engine.lean carries it to the event set and the record. -/
namespace Sys2Proof.Machine

/-- What the logger reads with a scan (R59, R62, R126): the published and filtered pressures and the scan timestamp. -/
structure ScanValues where
  rot : Nat
  feed : Nat
  rotFilt : Nat
  feedFilt : Nat
  stamp : Timestamp
deriving DecidableEq, Repr

/-- R56: the logger at an accepted START. -/
def Logger.started (p : HolePlan) : Logger := { feedChoice := p.drillFeed }

/-- R57: collar zero is taken and slice 0 opens in time. -/
def Logger.takeCollarZero (l : Logger) (pos : Nat) (stamp : Timestamp) : Logger :=
  { l with collarZero := some pos, h := 0, slice := { l.slice with openedAt := stamp } }

/-- R67: the start of the bond zone, Z. -/
def bondZone (d bond : Nat) : Nat := d - bond

/-- R67: the part of slice `i` of length `len` inside the zone from `z` to `d`. -/
def zonePart (i len z d : Nat) : Nat := min (20 * i + len) d - max (20 * i) z

/-- R62: the mean pressures of the closing slice; with no contribution, the filtered values. -/
def Slice.means (x : Slice) (v : ScanValues) : Nat × Nat :=
  if x.n = 0 then (v.rotFilt, v.feedFilt) else (x.rotSum / x.n, x.feedSum / x.n)

/-- R62: the rotation count scaled for a slice shorter than 20 mm. -/
def scaledQ (q len : Nat) : Nat := if len = 20 then q else q * 20 / len

/-- R63: the strata index. -/
def strataIndex (pr q' kf pf : Nat) : Nat := min ((pr * q' + kf * pf) / 64) 65535

/-- R64: the class of a slice. -/
def classify (p : HolePlan) (len time se : Nat) : SliceClass :=
  if len = 20 ∧ p.dropTime.any (fun t => time < t) then .void
  else if se ≤ p.voidMax then .void
  else if se ≤ p.softMax then .soft
  else if se < p.hardMin then .firm
  else .hard

/-- R66: the feed choice a class sets. -/
def feedChoiceOf (p : HolePlan) : SliceClass → Nat
  | .hard => p.hardFeed.getD p.drillFeed
  | .void => p.voidFeed.getD p.drillFeed
  | .soft | .firm => p.drillFeed

/-- R62 to R68: the entry of a closing slice of length `len`, with the slice time of its last contributing scan (R59; log 48). -/
def closingEntry (p : HolePlan) (x : Slice) (len : Nat) (v : ScanValues) : SliceEntry :=
  let m := x.means v
  let se := strataIndex m.1 (scaledQ x.q len) p.kf m.2
  { cls := classify p len x.time se, se := se, time := x.time, q := x.q }

/-- R65, R66, R68: closes the open slice with length `len`. The zone of the job is that of the hole length in force `hl`. -/
def Logger.close (l : Logger) (p : HolePlan) (hl len : Nat) (v : ScanValues) : Logger :=
  let e := closingEntry p l.slice len v
  let inZone := e.cls = .void ∧ zonePart l.slice.index len (bondZone hl p.bondLength) hl > 0
  { l with
    log := l.log ++ [e]
    hard := if e.cls = .hard then l.hard + 1 else l.hard
    feedChoice := feedChoiceOf p e.cls
    voidFound := l.voidFound || decide inZone }

/-- R60: closes `k` full slices in rising order, the first with its contributions and the others empty. -/
def Logger.closeFull (p : HolePlan) (hl : Nat) (v : ScanValues) : Nat → Logger → Logger
  | 0, l => l
  | k + 1, l =>
    let l := l.close p hl 20 v
    Logger.closeFull p hl v k { l with slice := { index := l.slice.index + 1, openedAt := v.stamp } }

/-- R59: a scan contributes to the open slice. -/
def Slice.contribute (x : Slice) (tally : Nat) (v : ScanValues) : Slice :=
  { x with
    rotSum := x.rotSum + v.rot
    feedSum := x.feedSum + v.feed
    n := x.n + 1
    q := min (x.q + tally) 4095
    time := min (since v.stamp x.openedAt) 65535 }

/-- R58 to R66: the logger takes a scan of depth `depth`. -/
def Logger.take (l : Logger) (p : HolePlan) (hl : Nat) (depth : Int) (v : ScanValues) : Logger :=
  if depth > (l.h : Int) then
    let h := min depth.toNat hl
    let l := { l with slice := l.slice.contribute l.tally v, tally := 0, h := h }
    Logger.closeFull p hl v (h / 20 - l.slice.index) l
  else if depth = (l.h : Int) then l
  else { l with tally := 0 }

/-- R61: closes the open slice at RETRACT or FAULTED entry, if it has at least 1 mm. DESIGN CHOICE (log 48, unsafe): a slice closed
without a contributing scan, as a FAULTED entry out of HOLD, flow wait or backoff closes it, is logged with the time of its last
contributing scan (R59), not with the time that has gone on growing since (R60). -/
def Logger.closeOpen (l : Logger) (p : HolePlan) (hl : Nat) (v : ScanValues) : Logger :=
  let len := l.h - 20 * l.slice.index
  if len = 0 then l else l.close p hl len v

/-- R69: the millimetres of class `c` inside the bond zone of a log of final depth `d`. -/
def zoneSum (c : SliceClass) (z d : Nat) : Nat → List SliceEntry → Nat
  | _, [] => 0
  | i, e :: es => (if e.cls = c then zonePart i (min 20 (d - 20 * i)) z d else 0) + zoneSum c z d (i + 1) es

/-- R70: the required fill. -/
def requiredFill (p : HolePlan) (voidMm softMm : Nat) : Nat := p.bondLength + voidMm * p.wv / 4 + softMm * p.ws / 4

/-- R71: the cartridge count before its bounds; this division rounds up. -/
def rawCount (p : HolePlan) (rf : Nat) : Nat := (rf + p.fill - 1) / p.fill

/-- R71: the cartridge count N, and whether UNDER_RESIN is set. -/
def cartridgeCount (p : HolePlan) (base rf : Nat) : Nat × Bool :=
  let n := max (rawCount p rf) base
  if n > p.maxCart then (p.maxCart, true) else (n, false)

/-- R69: the sizer measures the bond zone of the log. -/
def Logger.measured (l : Logger) (p : HolePlan) : Logger :=
  let z := bondZone l.h p.bondLength
  { l with voidMm := zoneSum .void z l.h 0 l.log, softMm := zoneSum .soft z l.h 0 l.log }

/-- R59, R136: a qualified rotation pulse joins the tally. -/
def Logger.pulse (l : Logger) : Logger := { l with tally := l.tally + 1 }

end Sys2Proof.Machine
end

