-- ==== Sys2Proof/Machine/Engine.lean ====
section
/-! DEFINITION. The bolt cycle engine (chapter 2) with the record it writes (chapter 11): filing, faults, the steps from
COLLAR to FILING, holds, and what a scan, a switch, a pulse or an expiry does to it. The requests of the host are in
EngineRequests.lean. -/
namespace Sys2Proof.Machine

/-! ## Small moves -/

/-- The engine takes a state and sub-condition; no stroke is in progress in the new state. -/
def State.goto (s : State) (b : BoomId) (st : EngineState) (sub : SubCond) : State :=
  s.setEngine b { s.engine b with state := st, sub := sub, leg := none, resume := none }

/-- R18: the choice between PARKED, READY and IDLE. -/
def State.choose (s : State) (b : BoomId) : State :=
  s.goto b (if (s.engine b).park then .parked else if (s.boom b).queue.isEmpty then .idle else .ready) .none

/-- The pressures a logger or sizer reads now (R59, R62), with the timestamp of the scan in progress. -/
def State.scanValues (s : State) (b : BoomId) : ScanValues :=
  { rot := (s.analog (rotChannel b)).val.toNat
    feed := (s.analog (feedChannel b)).val.toNat
    rotFilt := (s.analog (rotChannel b)).filt.toNat
    feedFilt := (s.analog (feedChannel b)).filt.toNat
    stamp := scanStamp s.now }

/-- R68: stores a logger; a void found by it raises VOID_FOUND and sets VOID_IN_BOND. -/
def State.putLogger (s : State) (b : BoomId) (l : Logger) : State :=
  let s' := s.setLogger b l
  if l.voidFound && !(s.logger b).voidFound then (s'.raise (.voidFound b)).flagRecord b .voidInBond else s'

/-! ## Filing (R16, R40, R187, R188) -/

/-- R187 step 4, R40, R72: the engine is told of the filing of its record. -/
def State.filed (s : State) (b : BoomId) (outcome : Option JobOutcome) : State :=
  let e := s.engine b
  let s1 := ((s.setEngine b { e with resinRunning := false, n := none, record := none }).setActive b none).setLogger b {}
  if e.state = .filing then
    let s2 := s1.raise (.jobDone b)
    let s3 := if outcome = some .good then s2.setEngine b { s2.engine b with lastFault := none } else s2
    s3.choose b
  else s1

/-- R187: files the record of a boom. -/
def State.file (s : State) (b : BoomId) : State :=
  match (s.engine b).record with
  | none => s
  | some r =>
    let s1 : State :=
      { s with
        store :=
          { s.store with records := s.store.records ++ [{ r with number := some s.store.next }], next := s.store.next + 1 } }
    (s1.raise .recordReady).filed b r.outcome

/-- R187, R188, R184: the engine offers its record: filed at once, or into the room queue with STORE_FULL. -/
def State.offer (s : State) (b : BoomId) : State :=
  let s1 := s.modRecord b (fun r => { r with retries := (s.engine b).retries })
  if s1.store.records.length < 8 then s1.file b
  else ({ s1 with store := { s1.store with room := s1.store.room ++ [b] } } : State).raise .storeFull

/-- R40: enters FILING. -/
def State.enterFiling (s : State) (b : BoomId) : State :=
  let s1 := (s.goto b .filing .none).noFlow b
  (s1.modRecord b (fun r => { r with endTime := some s.now })).offer b

/-! ## Faults (R45) -/

/-- R61: the logger closes its open slice at FAULTED entry and gives the record its log and final depth (R72, R184). -/
def State.closeLog (s : State) (b : BoomId) : State :=
  let s1 := s.putLogger b ((s.logger b).closeOpen (s.activePlan b) (s.activeValues b).holeLength (s.scanValues b))
  let l := s1.logger b
  s1.modRecord b (fun r => { r with finalDepth := l.h, hard := l.hard, log := l.log })

/-- R45, R184: what FAULTED entry from state `st` writes to the record. -/
def faultRecord (e : Engine) (st : EngineState) (cause : FaultCause) (now : Timestamp) (r : InstRecord) : InstRecord :=
  { r with
    outcome := some .failed
    fault := some cause
    endTime := some now
    mixQ := if st = .mix then some e.q else r.mixQ
    torque := if st = .torque then some e.highest else r.torque
    passed := if st = .retract ∨ st = .insert then some e.passed else r.passed }

/-- R45: enters FAULTED from an engaged state or from HOLD. A jog in progress keeps its drive and its request. DESIGN CHOICE (log
45, unsafe): a stroke in hand is not judged, so its passages set no RESIN_EXTRA. -/
def State.enterFaulted (s : State) (b : BoomId) (cause : FaultCause) : State :=
  let e := s.engine b
  let st := if e.state = .hold then e.resume.getD .idle else e.state
  let s1 := s.goto b .faulted .none
  let s2 := s1.setEngine b { s1.engine b with lastFault := some cause, causes := {}, armOnGrant := false }
  let s3 := if e.jog.isSome then s2 else s2.noFlow b
  let s4 := (s3.modRecord b (faultRecord e st cause s.now)).raise (.jobFault b)
  let s5 := if st = .collar ∨ st = .drill then s4.closeLog b else s4
  s5.offer b

/-! ## Holds (R41, R42) -/

/-- R41: an engaged engine enters HOLD. -/
def State.enterHold (s : State) (b : BoomId) (c : HoldCause) : State :=
  let e := s.engine b
  let s1 := if e.state = .mix then s.flagRecord b .mixInterrupted else s
  let s2 := s1.setEngine b { s1.engine b with state := .hold, resume := some e.state, causes := HoldCauses.add {} c }
  (s2.noFlow b).raise (.holdEntered b)

/-- R41, R42: a hold cause reaches an engine. -/
def State.holdCause (s : State) (b : BoomId) (c : HoldCause) : State :=
  let e := s.engine b
  if e.state.engaged then s.enterHold b c
  else if e.state = .hold then s.setEngine b { e with causes := e.causes.add c }
  else s

/-- R49: one of the boom's channels enters FAILED. -/
def State.channelFailed (s : State) (b : BoomId) : State :=
  let e := s.engine b
  if e.state.engaged ∨ e.state = .hold then (s.holdCause b .channel).enterFaulted b .channelFailed else s

/-! ## The steps, last to first -/

/-- R39: enters RELEASE; a home switch already closed ends it in the entry event. -/
def State.enterRelease (s : State) (b : BoomId) : State :=
  let s1 := (s.goto b .release .none).beginFlow b (.step .release)
  if s1.closed (.home b) then s1.enterFiling b else s1

/-- R38: the torque phase ends. -/
def State.endTorque (s : State) (b : BoomId) (o : JobOutcome) (t : Nat) : State :=
  (s.modRecord b (fun r => { r with outcome := some o, torque := some t })).enterRelease b

/-- R37: enters TORQUE. -/
def State.enterTorque (s : State) (b : BoomId) : State :=
  let s1 := s.goto b .torque .none
  (s1.setEngine b { s1.engine b with torqueTimer := 0, consecutive := 0, highest := 0, lastT := none }).beginFlow b
    (.step .torque)

/-- R36: the torque window test. -/
def State.windowTest (s : State) (b : BoomId) : State :=
  let p := s.activePlan b
  if (s.engine b).resinClock < p.gelTime + p.torqueWindow then s.enterTorque b
  else (s.modRecord b (fun r => { r with outcome := some .torqueSkipped })).enterRelease b

/-- R36: enters GEL_HOLD. -/
def State.enterGelHold (s : State) (b : BoomId) : State := (s.goto b .gelHold .none).beginFlow b (.step .gelHold)

/-- R35: the end of MIX writes q to the record, with MIX_SHORT where the count was not reached. -/
def State.mixEnded (s : State) (b : BoomId) (short : Bool) : State :=
  let s1 := s.modRecord b (fun r => { r with mixQ := some (s.engine b).q })
  if short then s1.flagRecord b .mixShort else s1

/-- R35: MIX ends and GEL_HOLD begins. -/
def State.endMix (s : State) (b : BoomId) (short : Bool) : State := (s.mixEnded b short).enterGelHold b

/-- R35, R34: enters MIX; the resin clock starts at 0. -/
def State.enterMix (s : State) (b : BoomId) : State :=
  let s1 := s.goto b .mix .none
  let s2 := s1.setEngine b { s1.engine b with resinClock := 0, resinRunning := true, q := 0 }
  (s2.modRecord b (fun r => { r with mixStart := some s.now })).beginFlow b (.step .mix)

/-- R33, R32: enters PUSH; the bolt-loaded mark is cleared. -/
def State.enterPush (s : State) (b : BoomId) : State :=
  let s1 := s.goto b .push .none
  (s1.setEngine b { s1.engine b with boltLoaded := false }).beginFlow b (.step .push)

/-- R32: enters AWAIT_BOLT. -/
def State.enterAwaitBolt (s : State) (b : BoomId) : State := ((s.goto b .awaitBolt .none).noFlow b).raise (.boltNeeded b)

/-- R31: the last cartridge is completed: the passed count is written and AWAIT_BOLT entered. -/
def State.finishInsert (s : State) (b : BoomId) : State :=
  (s.modRecord b (fun r => { r with passed := some (s.engine b).passed })).enterAwaitBolt b

/-! ### Inserter strokes (R31, R168 to R170) -/

/-- R168: the leg a due stroke begins with. -/
def State.firstLeg (s : State) (b : BoomId) : Leg := if s.closed (.ihome b) then .advance else .homing

/-- R168: a leg begins: a drive request with ARM. -/
def State.setLeg (s : State) (b : BoomId) (l : Leg) : State :=
  (s.setEngine b { s.engine b with leg := some l }).changeDrive b

/-- R31, R71: the cartridge count N of the job. -/
def State.cartridges (s : State) (b : BoomId) : Nat := (s.engine b).n.getD 0

/-- R169, R170: the cartridge in hand is completed, with RESIN_EXTRA for two passages or more. DESIGN CHOICE (log 45, unsafe):
R31 names no moment for the flag, and the model sets it only here, as a stroke is judged or resumed; a stroke that a fault ends
before that sets none. -/
def State.completeCartridge (s : State) (b : BoomId) : State :=
  let e := s.engine b
  let s1 := if e.tally ≥ 2 then s.flagRecord b .resinExtra else s
  s1.setEngine b { s1.engine b with completed := e.completed + 1, tally := 0, restrokes := 0 }

/-- R168, R169: carries a stroke through every leg whose switch already stands closed, judging it at the end of its return
leg. The bound covers three strokes whose legs all end at once. A homing leg after which no cartridge is left to complete is
no stroke and is not judged (log 40). -/
def State.runStroke : Nat → State → BoomId → State
  | 0, s, _ => s
  | k + 1, s, b =>
    match (s.engine b).leg with
    | none => s
    | some .homing =>
      if s.closed (.ihome b) then
        if (s.engine b).completed ≥ s.cartridges b then s.finishInsert b else State.runStroke k (s.setLeg b .advance) b
      else s
    | some .advance => if s.closed (.iend b) then State.runStroke k (s.setLeg b .back) b else s
    | some .back =>
      if s.closed (.ihome b) then
        if (s.engine b).tally ≥ 1 then
          let s1 := s.completeCartridge b
          if (s1.engine b).completed ≥ s1.cartridges b then s1.finishInsert b
          else State.runStroke k (s1.setLeg b (s1.firstLeg b)) b
        else if (s.engine b).restrokes < 2 then
          let s1 := s.setEngine b { s.engine b with restrokes := (s.engine b).restrokes + 1 }
          State.runStroke k (s1.setLeg b (s1.firstLeg b)) b
        else s.enterFaulted b .resinFeed
      else s

/-- R168: the strokes take an event: the bound is more than any chain of legs that end at once. -/
def State.strokes (s : State) (b : BoomId) : State := State.runStroke 24 s b

/-- R31: the strokes begin: the INSERT request is placed with the first leg due. -/
def State.beginStrokes (s : State) (b : BoomId) : State :=
  let s1 := s.goto b .insert .none
  ((s1.setEngine b { s1.engine b with leg := some (s.firstLeg b) }).beginFlow b (.step .insert)).strokes b

/-- R31: compares the magazine with N: awaiting resin, or the strokes. -/
def State.insertOrWait (s : State) (b : BoomId) : State :=
  if (s.sensing b).magazine < s.cartridges b then ((s.goto b .insert .awaitingResin).noFlow b).raise (.resinNeeded b)
  else s.beginStrokes b

/-- R31: enters INSERT. -/
def State.enterInsert (s : State) (b : BoomId) : State :=
  (s.setEngine b { s.engine b with tally := 0, restrokes := 0, completed := 0, passed := 0 }).insertOrWait b

/-! ### Drilling -/

/-- R30: the RETRACT step; a home switch already closed ends it in the entry event. -/
def State.beginRetract (s : State) (b : BoomId) : State :=
  let s1 := (s.goto b .retract .none).beginFlow b (.step .retract)
  if s1.closed (.home b) then s1.enterInsert b else s1

/-- R30, R61, R69 to R72: enters RETRACT at the end of DRILL: the log is closed, the charge sized, the record written. -/
def State.enterRetract (s : State) (b : BoomId) : State :=
  let p := s.activePlan b
  let v := s.activeValues b
  let s1 := s.putLogger b ((s.logger b).closeOpen p v.holeLength (s.scanValues b))
  let l := (s1.logger b).measured p
  let c := cartridgeCount p v.base (requiredFill p l.voidMm l.softMm)
  let s2 := (s1.setLogger b l).setEngine b { s1.engine b with n := some c.1, completed := 0, tally := 0, restrokes := 0, passed := 0 }
  let s3 := s2.modRecord b (fun r =>
    { r with drillEnd := some s.now, finalDepth := l.h, assigned := some c.1, voidMm := l.voidMm, softMm := l.softMm,
             hard := l.hard, log := l.log })
  (if c.2 then s3.flagRecord b .underResin else s3).beginRetract b

/-- R25: enters DRILL. -/
def State.enterDrill (s : State) (b : BoomId) : State := (s.goto b .drill .none).beginFlow b (.step .drill)

/-- R28: the step's stall fault. -/
def stallFault (st : EngineState) : FaultCause := if st = .collar then .stallCollar else .stallDrill

/-- R28, R29: a stall at feed position `pos`: backoff, or FAULTED. DESIGN CHOICE (log 47, unsafe): the backoff goes on where the
home switch is closed already. -/
def State.stall (s : State) (b : BoomId) (pos : Nat) : State :=
  let e := s.engine b
  let p := s.activePlan b
  if p.autoRetry = 1 ∧ e.retries < p.retryLimit ∧ !e.restricted then
    (s.setEngine b { e with sub := .backoff, backoffTarget := (pos : Int) - 20 }).changeDrive b
  else s.enterFaulted b (stallFault e.state)

/-- R29: the end of a backoff. -/
def State.endBackoff (s : State) (b : BoomId) : State :=
  let e := s.engine b
  (s.setEngine b { e with sub := if e.state = .collar then .cut else .none, retries := e.retries + 1 }).changeDrive b

/-! ## Events taken by an engine -/

/-- R58, R66: the logger takes the scan while the engine is in the cut or in DRILL; in DRILL outside backoff a new choice
goes to a granted feed pair at once. -/
def State.loggerScan (s : State) (b : BoomId) : State :=
  let e := s.engine b
  if (e.state = .collar ∧ e.sub ≠ .approach) ∨ e.state = .drill then
    let l := s.logger b
    let l' := l.take (s.activePlan b) (s.activeValues b).holeLength (s.scanDepth b) (s.scanValues b)
    let s1 := s.putLogger b l'
    if e.state = .drill ∧ e.sub ≠ .backoff ∧ l'.log.length ≠ l.log.length ∧ s1.granted (.boom b) then s1.reissueFeed b
    else s1
  else s

/-- R24: a scan in the approach. -/
def State.scanApproach (s : State) (b : BoomId) : State :=
  if (s.analog (feedChannel b)).filt ≥ ((s.activePlan b).contact : Int) then
    let s1 := s.setLogger b ((s.logger b).takeCollarZero (s.motion b).scanPos (scanStamp s.now))
    (s1.setEngine b { s1.engine b with sub := .cut }).changeDrive b
  else s

/-- R29: a scan in backoff. -/
def State.scanBackoff (s : State) (b : BoomId) : State :=
  if ((s.motion b).scanPos : Int) ≤ (s.engine b).backoffTarget then s.endBackoff b else s

/-- R26, R28: a scan in DRILL: the hole length first, then the backoff target or the jam pressure. -/
def State.scanDrill (s : State) (b : BoomId) : State :=
  if s.scanDepth b ≥ ((s.activeValues b).holeLength : Int) then s.enterRetract b
  else if (s.engine b).sub = .backoff then s.scanBackoff b
  else if (s.analog (rotChannel b)).filt ≥ ((s.activePlan b).jam : Int) then s.stall b (s.motion b).scanPos
  else s

/-- R38: a tested scan of TORQUE. -/
def State.scanTorque (s : State) (b : BoomId) : State :=
  let t := (s.motion b).torqueEst
  let v := s.activeValues b
  let e := s.engine b
  let s1 := s.setEngine b
    { e with lastT := some t, highest := max e.highest t, consecutive := if t ≥ v.target then e.consecutive + 1 else 0 }
  if t ≥ v.limit then (s.setEngine b { e with lastT := some t, highest := max e.highest t }).endTorque b .overTorque t
  else if t ≥ v.target ∧ e.consecutive + 1 ≥ 3 then s1.endTorque b .good t
  else s1

/-- R24 to R29, R33, R37, R38: the engine's own test of a scan of its boom. -/
def State.engineScan (s : State) (b : BoomId) : State :=
  let e := s.engine b
  match e.state, e.sub with
  | .collar, .approach => s.scanApproach b
  | .collar, .backoff => s.scanBackoff b
  | .collar, _ => if s.scanDepth b ≥ ((s.activePlan b).collarDepth : Int) then s.enterDrill b else s
  | .drill, _ => s.scanDrill b
  | .push, _ => if (s.analog (feedChannel b)).filt ≥ ((s.activePlan b).pushContact : Int) then s.enterMix b else s
  | .torque, _ => if s.granted (.boom b) then s.scanTorque b else s
  | _, _ => s

/-- R30, R39, R29: the boom's home switch is qualified closed. That only this event ends a backoff, and not a home switch closed
already when the backoff is entered or taken up again, is a DESIGN CHOICE (log 47, unsafe). -/
def State.homeClosed (s : State) (b : BoomId) : State :=
  match (s.engine b).state, (s.engine b).sub with
  | .retract, _ => s.enterInsert b
  | .release, _ => s.enterFiling b
  | .collar, .backoff => s.endBackoff b
  | .drill, .backoff => s.endBackoff b
  | _, _ => s

/-- R168, R169: an inserter switch is qualified closed: the leg it ends, in flow wait too (log 12). -/
def State.inserterClosed (s : State) (b : BoomId) : State := if (s.engine b).state = .insert then s.strokes b else s

/-- R23: a motion monitor expiry of one of the boom's pairs. A stall reads the position of the boom's last scan record (R134). -/
def State.engineExpiry (s : State) (b : BoomId) (f : PairFn) : State :=
  let e := s.engine b
  match e.state, e.sub, f with
  | .collar, .approach, .feed => s.enterFaulted b .feedNoResponse
  | .push, _, .feed => s.enterFaulted b .feedNoResponse
  | .retract, _, .feed => s.enterFaulted b .feedNoResponse
  | .release, _, .feed => s.enterFaulted b .feedNoResponse
  | .collar, .backoff, .rot => s.enterFaulted b .stallCollar
  | .drill, .backoff, .rot => s.enterFaulted b .stallDrill
  | .collar, .cut, .rot => s.stall b (s.motion b).scanPos
  | .drill, _, .rot => s.stall b (s.motion b).scanPos
  | .insert, .none, .ins => s.enterFaulted b .inserterNoResponse
  | .mix, _, .rot => s.endMix b true
  | .torque, _, .rot => s.endTorque b .torqueLow e.highest
  | _, _, _ => s

/-- R35: a qualified rotation pulse reaches the engine's mix count. -/
def State.mixPulse (s : State) (b : BoomId) : State :=
  let e := s.engine b
  let p := s.activePlan b
  if e.state = .mix then
    let s1 := s.setEngine b { e with q := e.q + 1 }
    if e.q + 1 ≥ p.mixCount then s1.endMix b false else s1
  else if e.state = .hold ∧ e.resume = some .mix ∧ e.resinClock < p.mixLimit ∧ e.q < p.mixCount then
    s.setEngine b { e with q := e.q + 1 }
  else s

/-- R59: a qualified rotation pulse reaches the logger's tally, in the cut and in DRILL. -/
def State.tallyPulse (s : State) (b : BoomId) : State :=
  let e := s.engine b
  if (e.state = .collar ∧ e.sub ≠ .approach) ∨ e.state = .drill then s.setLogger b (s.logger b).pulse else s

/-- R170: a passage is handed to the engine. -/
def State.enginePassage (s : State) (b : BoomId) : State :=
  let e := s.engine b
  if (e.state = .insert ∨ (e.state = .hold ∧ e.resume = some .insert)) ∧ e.sub ≠ .awaitingResin then
    s.setEngine b { e with tally := e.tally + 1, passed := min (e.passed + 1) 255 }
  else s

/-- R48: the restricted flag as the channels and the head data now give it. -/
def State.restrictedNow (s : State) (b : BoomId) : Bool :=
  let bad (h : Health) : Bool := h == .degraded || h == .failed
  bad (s.analog (rotChannel b)).health || bad (s.analog (feedChannel b)).health || bad (s.head b).health || (s.head b).stale

/-- R48, R22: the engine updates its restricted flag; a change to set raises RESTRICTED and marks the record, and any change
re-issues the feed drive under the cap. -/
def State.updateRestricted (s : State) (b : BoomId) : State :=
  let r := s.restrictedNow b
  if r = (s.engine b).restricted then s
  else
    let s1 := s.setEngine b { s.engine b with restricted := r }
    (if r then (s1.raise (.restricted b)).flagRecord b .restrictedRun else s1).reissueFeed b

/-- R53: a jog ends: its drive and its request are withdrawn. -/
def State.endJog (s : State) (b : BoomId) : State :=
  if (s.engine b).jog.isSome then (s.setEngine b { s.engine b with jog := none }).noFlow b else s

/-- R50: a park request reaches an engine, with the hold cause of its source. -/
def State.parkBoom (s : State) (b : BoomId) (c : HoldCause) : State :=
  let s1 := s.setEngine b { s.engine b with park := true }
  match (s.engine b).state with
  | .idle | .ready => s1.goto b .parked .none
  | .collar | .drill | .retract | .insert | .awaitBolt | .push => s1.enterHold b c
  | _ => s1

end Sys2Proof.Machine
end

