-- ==== Sys2Proof/Machine/Cartridge.lean ====
section
/-! DEFINITION. Resin cartridge sensing (chapter 9): the mark of a measurement, baselines, tube presence, passages, and the
restart of a block. -/
namespace Sys2Proof.Machine

def Sensing.get (x : Sensing) : Setting → SettingState
  | .s1 => x.s1
  | .s2 => x.s2
  | .s3 => x.s3

def Sensing.put (x : Sensing) (i : Setting) (y : SettingState) : Sensing :=
  match i with
  | .s1 => { x with s1 := y }
  | .s2 => { x with s2 := y }
  | .s3 => { x with s3 := y }

/-- R163: the mark of a count against the baseline of its setting. -/
def marked (baseline : Option Nat) (threshold c : Nat) : Bool :=
  match baseline with
  | none => false
  | some b => c < b - threshold

/-- R164: the baseline after a measurement taken at home with the tube ABSENT; the division rounds toward zero. -/
def baselineStep (baseline : Option Nat) (c : Nat) : Nat :=
  match baseline with
  | none => c
  | some b => ((b : Int) + Int.tdiv ((c : Int) - b) 16).toNat

/-- R162: the setting of the measurement after one of setting `i`. -/
def Setting.next (hop : Bool) : Setting → Setting
  | .s1 => if hop then .s2 else .s1
  | .s2 => if hop then .s3 else .s1
  | .s3 => .s1

/-- R165: at least two of the last-three marks are present. -/
def Sensing.twoOfThree (x : Sensing) : Bool :=
  (x.s1.mark && x.s2.mark) || (x.s1.mark && x.s3.mark) || (x.s2.mark && x.s3.mark)

/-- R165: the tube presence and the agreement run after a mark, in the mode in force; in hop mode the setting's last-three
mark is already replaced. -/
def Sensing.decide (x : Sensing) (mark : Bool) : Sensing :=
  if x.hop then { x with present := x.twoOfThree }
  else if mark = x.present then { x with agree := 0 }
  else if x.agree + 1 ≥ 2 then { x with present := !x.present, agree := 0 }
  else { x with agree := x.agree + 1 }

/-- R162 to R165, R171: a block at the end of a measurement of `c` counts, before any passage. The threshold that the measurement
was begun with marks it; the next one begins with that in force, `threshold`. -/
def Sensing.measured (x : Sensing) (threshold : Nat) (home : Bool) (c : Nat) : Sensing :=
  let y := x.get x.setting
  let mark := marked y.baseline x.threshold c
  let y' : SettingState :=
    { baseline := if home && !x.present then some (baselineStep y.baseline c) else y.baseline
      lastC := some c
      mark := if x.hop then mark else y.mark }
  let next := if x.restart then Setting.s1 else x.setting.next x.hop
  Sensing.decide { x.put x.setting y' with setting := next, restart := false, threshold := threshold } mark

/-- R166: a passage. -/
def State.passage (s : State) (b : BoomId) : State :=
  let x := s.sensing b
  (s.setSensing b { x with passages := x.passages + 1, magazine := x.magazine - 1 }).enginePassage b

/-- R162 to R166: a measurement of `cycles` oscillator cycles ends. -/
def State.measurementEnd (s : State) (b : BoomId) (cycles : Nat) : State :=
  let x := s.sensing b
  let s1 := s.setSensing b (x.measured (s.cal.threshold b) (s.closed (.ihome b)) (min cycles 65535))
  if x.present && !(s1.sensing b).present && !s.closed (.ihome b) then s1.passage b else s1

/-- R171, R172: the baselines, the last C, the marks, the agreement run and the tube presence start afresh; the magazine
and the passage counter are kept. R171 names the last C; that a warm reset clears it too is the model's choice (log 21). -/
def Sensing.cleared (x : Sensing) : Sensing := { x with s1 := {}, s2 := {}, s3 := {}, agree := 0, present := false }

/-- R171: an accepted CALIBRATE reaches the block of a boom; the measurement in progress completes (log 20). -/
def State.calibrateSensing (s : State) (b : BoomId) : State :=
  let x := s.sensing b
  if x.hop = s.cal.hop b ∧ x.window = s.cal.window b then s
  else s.setSensing b { x.cleared with hop := s.cal.hop b, window := s.cal.window b, restart := true }

/-- R172: a warm reset abandons the measurement in progress and begins one with setting 1 and the threshold in force. The last C
of each setting becomes absent: the model's choice (log 21). -/
def State.restartSensing (s : State) (b : BoomId) : State :=
  s.setSensing b { (s.sensing b).cleared with setting := .s1, restart := false, threshold := s.cal.threshold b }

end Sys2Proof.Machine
end

