-- ==== Sys2Proof/Machine/Canopy.lean ====
section
/-! DEFINITION. The canopy controller (chapter 5): its states, the confirm runs, the lowered switch, the trip and the
channel. The two requests are in CanopyRequests.lean. -/
namespace Sys2Proof.Machine

/-- The controller issues its pair off with NONE and withdraws its request. -/
def State.canopyStop (s : State) : State := (s.request .canopy (.off false)).withdraw .canopy

/-- The canopy takes a state with both confirm runs absent and the given fault reason. -/
def State.canopyGoto (s : State) (st : CanopyState) (f : CanopyFault) : State :=
  { s with canopy := { s.canopy with state := st, setRun := none, lossRun := none, fault := f, armOnGrant := false } }

/-- R97: sends the hold cause CANOPY to both booms. -/
def State.holdBooms (s : State) (c : HoldCause) : State := (s.holdCause .A c).holdCause .B c

/-- R97: a SET canopy is lost: CANOPY_LOST, and the hold to each boom in the same event. -/
def State.canopyLoss (s : State) : State := ((s.canopyGoto .lost .none).raise .canopyLost).holdBooms .canopy

/-- R96, R99: enters FAULT from a motion. -/
def State.canopyFail (s : State) (f : CanopyFault) : State := ((s.canopyGoto .fault f).canopyStop).raise .canopyFault

/-- R95: the set condition is confirmed. -/
def State.canopyConfirm (s : State) : State := ((s.canopyGoto .set .none).canopyStop).raise .canopySet

/-- R99, R101: enters LOWERED, out of a motion or not. -/
def State.canopyLowered (s : State) : State :=
  if s.canopy.state = .lowering then (s.canopyGoto .lowered .none).canopyStop else s.canopyGoto .lowered .none

/-- R95: the sample meets the set condition. -/
def State.setCondition (s : State) : Bool :=
  let c := s.analog .canopy
  c.val ≥ (s.cal.setLevel : Int) && c.good && (c.health == .healthy || c.health == .suspect)

/-- R94: a set confirm run begins: the raise coil stays driven and the monitor is disarmed. -/
def State.beginSetRun (s : State) : State :=
  let s1 : State := { s with canopy := { s.canopy with setRun := some (scanStamp s.now) } }
  if s1.granted .canopy then s1.request .canopy (.drive .first s1.cal.raiseDuty .none) else s1.request .canopy (.off false)

/-- R94: a set confirm run is broken: the monitor is armed again, at once if granted, else at the next grant. -/
def State.breakSetRun (s : State) : State :=
  let s1 : State := { s with canopy := { s.canopy with setRun := none } }
  if s1.granted .canopy then s1.request .canopy (.drive .first s1.cal.raiseDuty .arm)
  else { s1 with canopy := { s1.canopy with armOnGrant := true } }

/-- R95, R97: the controller tests a scan of the CANOPY channel. A DEGRADED or FAILED channel confirms no loss (R102). -/
def State.canopyScan (s : State) : State :=
  let c := s.analog .canopy
  match s.canopy.state with
  | .raising =>
    if s.setCondition then
      match s.canopy.setRun with
      | none => s.beginSetRun
      | some t => if since (scanStamp s.now) t ≥ 500 then s.canopyConfirm else s
    else if s.canopy.setRun.isSome then s.breakSetRun else s
  | .set =>
    if c.val < (s.cal.lostLevel : Int) then
      match s.canopy.lossRun with
      | none => { s with canopy := { s.canopy with lossRun := some (scanStamp s.now) } }
      | some t =>
        if since (scanStamp s.now) t ≥ 200 ∧ (c.health = .healthy ∨ c.health = .suspect) then s.canopyLoss else s
    else { s with canopy := { s.canopy with lossRun := none } }
  | _ => s

/-- R96, R97, R102: the CANOPY channel enters FAILED. -/
def State.canopyChannelFailed (s : State) : State :=
  match s.canopy.state with
  | .set => s.canopyLoss
  | .raising => s.canopyFail .channel
  | _ => s

/-- R100: the trip latch is set. -/
def State.canopyTrip (s : State) : State :=
  match s.canopy.state with
  | .raising | .lowering => ((s.canopyGoto .lost .none).canopyStop).raise .canopyLost
  | _ => s

/-- R101, R99: a qualified change of the lowered switch. The first one after a power-on follows it too, whatever state a RAISE has
led to: the model's choice beside R104 (log 39). -/
def State.loweredSwitch (s : State) (closed : Bool) : State :=
  match s.canopy.state, closed with
  | .lowered, false => (s.canopyGoto .lost .none).raise .canopyLost
  | .lost, true => s.canopyLowered
  | .fault, true => s.canopyLowered
  | .lowering, true => s.canopyLowered
  | _, _ => s

/-- R96: the CANOPY pair's motion monitor expires. -/
def State.canopyExpiry (s : State) : State :=
  if s.canopy.state = .raising then s.canopyFail .noResponse else s

/-- R93: enters RAISING; the request is placed, or exchanged for a waiting lower request. -/
def State.beginRaise (s : State) : State :=
  let s1 := s.canopyGoto .raising .none
  let s2 : State := { s1 with canopy := { s1.canopy with armOnGrant := true } }
  let s3 := s2.place .canopy .canopyRaise
  if s3.granted .canopy then s3 else s3.request .canopy (.off false)

/-- R98, R99: enters LOWERING; a lowered switch already closed ends it in the entry event. Where the new motion waits for flow,
the off request carries NONE, so that a raise monitor that stood frozen is disarmed: the model's choice (log 44). -/
def State.beginLower (s : State) : State :=
  let s1 := s.canopyGoto .lowering .none
  let s2 : State := { s1 with canopy := { s1.canopy with lowerTimer := 0 } }
  let s3 := s2.place .canopy .canopyLower
  let s4 := if s3.granted .canopy then s3 else s3.request .canopy (.off false)
  if s4.closed .clow then s4.canopyLowered else s4

end Sys2Proof.Machine
end

