-- ==== Sys2Proof/Machine/Monitors.lean ====
section
/-! DEFINITION. The limit monitors (chapter 10): sources and their validity, the test with its hysteresis, level entries and
their actions, the horn. -/
namespace Sys2Proof.Machine

/-- R174: the value a source carries now. -/
def State.sourceValue (s : State) : Source → Int
  | .value c => (s.analog c).val
  | .filtered c => (s.analog c).filt
  | .torque b => ((s.motion b).torqueEst : Int)
  | .headTemp b => match (s.head b).data with
    | some d => d.temp
    | none => 0
  | .headVacuum b => match (s.head b).data with
    | some d => (d.vacuum : Int)
    | none => 0

/-- R179: the source is valid. -/
def State.sourceValid (s : State) : Source → Bool
  | .value c => (s.analog c).valid
  | .filtered c => (s.analog c).valid && (s.analog c).filtered.isSome
  | .torque b => (s.analog (rotChannel b)).valid
  | .headTemp b | .headVacuum b => (s.head b).valid && !(s.head b).stale && (s.head b).data.isSome

def State.monitor (s : State) (n : Nat) : Monitor := s.monitors.getD n default

def State.setMonitorAt (s : State) (n : Nat) (m : Monitor) : State := { s with monitors := s.monitors.set n m }

/-- R175: the value reaches a level. -/
def MonitorConfig.reaches (c : MonitorConfig) (level x : Int) : Bool := if c.below then x ≤ level else x ≥ level

/-- R175: the value comes back past a level. -/
def MonitorConfig.returns (c : MonitorConfig) (level x : Int) : Bool :=
  if c.below then x > level + c.hyst else x < level - c.hyst

/-- R175: the rising part enters WARN, and TRIP. -/
def Monitor.entersWarn (m : Monitor) (x : Int) : Bool := m.status == .normal && m.cfg.reaches m.cfg.warn x
def Monitor.entersTrip (m : Monitor) (x : Int) : Bool :=
  (m.status == .warn || m.entersWarn x) && m.cfg.reaches m.cfg.trip x

/-- R175: the falling part. -/
def Monitor.fallen (m : Monitor) (x : Int) : Level :=
  let st := if m.status = .trip ∧ m.cfg.returns m.cfg.trip x then Level.warn else m.status
  if st = .warn ∧ m.cfg.returns m.cfg.warn x then .normal else st

/-- R175: the real-time status after a test. -/
def Monitor.nextStatus (m : Monitor) (x : Int) : Level :=
  if m.entersTrip x then .trip else if m.entersWarn x then .warn else m.fallen x

/-- R175, R176 step 1: a monitor after a test of `x`: status, latches, last tested value. -/
def Monitor.tested (m : Monitor) (x : Int) : Monitor :=
  { m with
    status := m.nextStatus x
    warnSeen := m.warnSeen || m.entersWarn x
    tripSeen := m.tripSeen || m.entersTrip x
    last := some x }

/-- R173: the boom is in the scope. -/
def Scope.has : Scope → BoomId → Bool
  | .both, _ => true
  | .a, .A => true
  | .b, .B => true
  | _, _ => false

/-- R176: an action set reaches the engine of one boom; both hold actions together act as HOLD_ANY (R173). -/
def State.actOn (s : State) (b : BoomId) (acts : Actions) : State :=
  let e := s.engine b
  if acts.holdAny then s.holdCause b .monitor
  else if acts.holdDrill ∧ (e.state = .collar ∨ e.state = .drill ∨
      (e.state = .hold ∧ (e.resume = some .collar ∨ e.resume = some .drill))) then s.holdCause b .monitor
  else s

/-- R176: takes an action set on the booms in scope. -/
def State.act (s : State) (scope : Scope) (acts : Actions) : State :=
  let s1 := if scope.has .A then s.actOn .A acts else s
  if scope.has .B then s1.actOn .B acts else s1

/-- R175, R176: tests monitor `n` on `x`. -/
def State.testMonitor (s : State) (n : Nat) (x : Int) : State :=
  let m := s.monitor n
  let s1 := s.setMonitorAt n (m.tested x)
  let s2 := if m.entersWarn x then (s1.raise (.monitor n false)).act m.cfg.scope m.cfg.warnActs else s1
  if m.entersTrip x then (s2.raise (.monitor n true)).act m.cfg.scope m.cfg.tripActs else s2

/-- R179: monitor `n` records its source's valid mark. -/
def State.recordValid (s : State) (n : Nat) : State :=
  s.setMonitorAt n { s.monitor n with valid := s.sourceValid (s.monitor n).cfg.source }

/-- R174, R179: an event of the sources in `srcs` reaches monitor `n`; a publication also tests it. -/
def State.reachMonitor (srcs : List Source) (publication : Bool) (s : State) (n : Nat) : State :=
  let m := s.monitor n
  if m.cfg.source ∈ srcs then
    let s1 := s.recordValid n
    if publication && m.cfg.enable && s.sourceValid m.cfg.source then s1.testMonitor n (s.sourceValue m.cfg.source) else s1
  else s

/-- R174: a publication of the sources in `srcs`, to the twelve monitors in order of number. -/
def State.publish (s : State) (srcs : List Source) : State := (List.range 12).foldl (State.reachMonitor srcs true) s

/-- R179: a health or stale-mark change of the sources in `srcs` reaches the monitors. -/
def State.markValidity (s : State) (srcs : List Source) : State := (List.range 12).foldl (State.reachMonitor srcs false) s

/-- R178: the monitor stands in a level whose actions include HORN. -/
def Monitor.sounds (m : Monitor) : Bool :=
  match m.status with
  | .normal => false
  | .warn => m.cfg.warnActs.horn
  | .trip => m.cfg.tripActs.horn

/-- R115: the HORN output (log 29: read from the monitors). -/
def State.horn (s : State) : Bool := s.monitors.any Monitor.sounds

/-- R43 condition 4, R178: a monitor refuses RESUME of boom `b`, whose resume state is `st`. -/
def Monitor.refusesResume (m : Monitor) (b : BoomId) (st : EngineState) : Bool :=
  m.status == .trip && m.cfg.scope.has b
    && (m.cfg.tripActs.holdAny || (m.cfg.tripActs.holdDrill && (st == .collar || st == .drill)))

end Sys2Proof.Machine
end

