-- ==== Sys2Proof/Machine/Channels.lean ====
section
/-! DEFINITION. The measurement channels (chapter 7): conversion, filter, health, restore, the torque estimate, and the
publication of a scan group to its users. -/
namespace Sys2Proof.Machine

/-! ## One sample -/

/-- R127: a good sample. -/
def goodSample (r : RawSample) : Bool := 320 ≤ r.toNat && r.toNat ≤ 4032

/-- R128, R129: the scaled term of a raw sample. -/
def scaledTerm (r offset gain : Nat) : Nat := if r < offset then 0 else (r - offset) * gain / 4096

/-- R128: a pressure, in tenths of a bar. -/
def pressure (r offset gain : Nat) : Int := (min (scaledTerm r offset gain) 4000 : Nat)

/-- R129: the oil temperature, in °C. -/
def oilTemp (r offset gain : Nat) : Int := max (-40) (min 150 ((scaledTerm r offset gain : Int) - 40))

/-- R128, R129: the value of a good sample of a channel under the working set. -/
def CalStore.convert (c : CalStore) (ch : AnalogId) (r : RawSample) : Int :=
  match ch with
  | .oil => oilTemp r.toNat (c.offset ch) (c.gain ch)
  | _ => pressure r.toNat (c.offset ch) (c.gain ch)

/-- R131: the filter; the division rounds toward zero. -/
def filterStep (f x : Int) (k : Nat) : Int := f + Int.tdiv (x - f) (2 ^ k)

/-- R131: the filtered value after a published sample; channel 6 keeps none. -/
def Analog.filter (c : Analog) (ch : AnalogId) (k : Nat) (x : Int) : Option Int :=
  match ch, c.filtered with
  | .oil, f => f
  | _, none => some x
  | _, some f => some (filterStep f x k)

/-- R138: the fault count after a sample, outside FAILED. -/
def countAfter (count : Nat) (good : Bool) : Nat := if good then count - 1 else min (count + 8) 256

/-- R143: the restore progress after a sample of a FAILED channel. -/
def restoreAfter (restore : Option Nat) (good : Bool) : Option Nat :=
  restore.map (fun p => if good then p + 1 else 0)

/-- R141: a good sample's value is published and moves the filter. -/
def Analog.published (c : Analog) (ch : AnalogId) (k : Nat) (x : Int) : Analog :=
  { c with value := some x, filtered := c.filter ch k x }

/-- R132: the first good sample of a channel that has none sets F in any health state. -/
def Analog.firstFilter (c : Analog) (ch : AnalogId) (x : Int) : Analog :=
  match ch, c.filtered with
  | .oil, _ => c
  | _, none => { c with filtered := some x }
  | _, some _ => c

/-- R125, R127, R131, R132, R138, R141, R143: a channel takes a raw sample of value `x` if good. DESIGN CHOICE (log 19, unsafe): the
sample that completes the first restore of a channel that has published nothing moves F from the value that an earlier good
sample has set, as R132 and R143 say, and does not set it anew, as R131 says of the first good sample published. -/
def Analog.sample (c : Analog) (ch : AnalogId) (k : Nat) (raw : RawSample) (x : Int) : Analog :=
  let good := goodSample raw
  let c := { c with raw := raw, good := good }
  if c.health = .failed then
    let p := restoreAfter c.restore good
    if p = some 128 then Analog.published { c with count := 0, restore := none } ch k x
    else if good then Analog.firstFilter { c with restore := p } ch x
    else { c with restore := p }
  else
    let c := { c with count := countAfter c.count good }
    if good ∧ (c.health = .healthy ∨ c.health = .suspect ∨ c.value = none) then c.published ch k x else c

/-- R133: the torque estimate. -/
def torqueEstimate (f : Int) (idle kt : Nat) : Nat :=
  if f > (idle : Int) then min ((f - idle).toNat * kt / 256) 1000 else 0

/-! ## Health changes -/

/-- R140: the event of a health change. -/
def healthEvent : Health → Health → Option ChannelEvent
  | .healthy, .suspect => some .suspect
  | .suspect, .degraded => some .degraded
  | .degraded, .failed => some .failed
  | .suspect, .healthy => some .recovered
  | .failed, .healthy => some .recovered
  | _, _ => none

/-- R140: raises the event of a channel's health change. -/
def State.raiseHealth (s : State) (c : ChannelId) (old new : Health) : State :=
  match healthEvent old new with
  | some k => s.raise (.channel c k)
  | none => s

/-- R142, R48, R49: a boom's engine is told of a health change of one of its channels. -/
def State.tellEngine (s : State) (b : BoomId) (old new : Health) : State :=
  if old = new then s
  else
    let s1 := s.updateRestricted b
    if new = .failed then s1.channelFailed b else s1

/-- R142: the canopy controller is told of a health change of channel 5. -/
def State.tellCanopy (s : State) (old new : Health) : State :=
  if old ≠ new ∧ new = .failed then s.canopyChannelFailed else s

/-! ## Publications -/

/-- A channel takes its raw sample; its health event is raised. -/
def State.sampleAnalog (s : State) (ch : AnalogId) (raw : RawSample) : State :=
  let c := s.analog ch
  let c' := c.sample ch (s.cal.shift ch) raw (s.cal.convert ch raw)
  (s.setAnalog ch c').raiseHealth (.analog ch) c.health c'.health

/-- R133: the torque estimate of a boom follows its ROT channel at each publication. -/
def State.estimateTorque (s : State) (b : BoomId) : State :=
  s.setMotion b
    { s.motion b with
      torqueEst := torqueEstimate (s.analog (rotChannel b)).filt (s.cal.idlePressure b) (s.cal.torqueFactor b) }

/-- R124: the feed position of a boom, now at `pos`, at the sampling instant of its group: the one it held before it was last
set `later` times, and where the scan has seen fewer changes the one the scan began with. -/
def Scan.latched (x : Scan) (b : BoomId) (pos later : Nat) : Nat :=
  let held := pos :: x.left b
  held.getD later (held.getLastD pos)

/-- R124: a scan begins: no group of it has been published, and no feed has moved in it. -/
def State.beginScan (s : State) : State := { s with scan := {} }

/-- R124: group `i` of a scan completes. One that the scan in progress has published already, or has gone past, is the first
published group of a new scan (log 22). -/
def State.takeGroup (s : State) (i : Nat) : State :=
  let s1 := if i < s.scan.done then s.beginScan else s
  { s1 with scan := { s1.scan with done := i + 1 } }

/-- R124, R125: the record of a boom's scan carries the position latched at its group's sampling instant, which engine and
logger read (R134). -/
def State.recordPosition (s : State) (b : BoomId) (later : Nat) : State :=
  s.setMotion b { s.motion b with scanPos := s.scan.latched b (s.motion b).feedPos later }

/-- R125, R126, R142, R176: group G0 or G1. Both channels take their samples; then the logger accounts the scan, the engine
is told of health changes, the engine tests the scan, and the monitors test it (log 9, log 10). -/
def State.publishBoom (s : State) (b : BoomId) (rot feed : RawSample) (later : Nat) : State :=
  let s1 := ((((s.recordPosition b later).sampleAnalog (rotChannel b) rot).sampleAnalog (feedChannel b) feed).estimateTorque
    b).loggerScan b
  let s2 := s1.tellEngine b (s.analog (rotChannel b)).health (s1.analog (rotChannel b)).health
  let s3 := s2.tellEngine b (s.analog (feedChannel b)).health (s1.analog (feedChannel b)).health
  (s3.engineScan b).publish
    [.value (rotChannel b), .value (feedChannel b), .filtered (rotChannel b), .filtered (feedChannel b), .torque b]

/-- R125, R126: group G2: the CANOPY pair's monitor, the canopy controller and the limit monitors. -/
def State.publishCanopy (s : State) (pump canopy : RawSample) : State :=
  let s1 := ((s.sampleAnalog .pump pump).sampleAnalog .canopy canopy).canopyResponse
  let s2 := s1.tellCanopy (s.analog .canopy).health (s1.analog .canopy).health
  (s2.canopyScan).publish [.value .pump, .value .canopy, .filtered .pump, .filtered .canopy]

/-- R125: group G3, the last of its scan. -/
def State.publishOil (s : State) (oil : RawSample) : State :=
  let s1 := s.sampleAnalog .oil oil
  ({ s1 with lastScan := scanStamp s1.now } : State).publish [.value .oil]

end Sys2Proof.Machine
end

