-- ==== Sys2Proof/Machine/HeadBus.lean ====
section
/-! DEFINITION. The head module bus (chapter 8): check bytes, endings and their classes, head samples, staleness, rounds.
The five requests are in HeadRequests.lean. -/
namespace Sys2Proof.Machine

/-! ## Transactions and their endings -/

/-- R147: the address of a boom's head module. -/
def headAddr : BoomId → Byte
  | .A => 0x2A
  | .B => 0x2B

/-- R151, R157: the module a transaction reads the status block of (log 37: only the two head addresses hold one). -/
def Transaction.statusOf (t : Transaction) : Option BoomId :=
  if t.kind = .readBlock ∧ t.cmd = 0x10 then
    if t.addr = headAddr .A then some .A else if t.addr = headAddr .B then some .B else none
  else none

/-- R148: the sum of bytes, modulo 256. -/
def byteSum (bytes : List Byte) : Byte := bytes.foldl (· + ·) 0

/-- R148: the check byte that makes the sum of `bytes` and itself 0. -/
def checkByte (bytes : List Byte) : Byte := 0 - byteSum bytes

/-- R147, R148: the bytes the master sends after the address in a WRITE BLOCK. -/
def Transaction.wireBytes (t : Transaction) : List Byte :=
  let body := t.cmd :: BitVec.ofNat 8 t.data.length :: t.data
  body ++ [checkByte body]

/-- R149: how a transaction ended; a CHECK_ERROR on a count above 16 keeps the count (R158). -/
inductive Ending
  | done (data : List Byte)
  | error (e : BusError) (count : Option Byte)
deriving DecidableEq, Repr

/-- R148, 12.4: the checks of a status block whose sum is 0. -/
def goodBlock (data : List Byte) : Bool :=
  match data with
  | [_, temp, hi, lo, contact] => temp.toNat ≤ 190 && hi.toNat * 256 + lo.toNat ≤ 600 && contact.toNat ≤ 1
  | _ => false

/-- R148: the ending of a READ BLOCK whose partner returned `bytes`; `none` while bytes are still to come. -/
def readEnding (status : Bool) (bytes : List Byte) : Option Ending :=
  match bytes with
  | [] => none
  | count :: rest =>
    if count.toNat > 16 then some (.error .checkError (some count))
    else if rest.length < count.toNat + 1 then none
    else
      let data := rest.take count.toNat
      if byteSum (count :: rest.take (count.toNat + 1)) ≠ 0 then some (.error .checkError none)
      else if status && !goodBlock data then some (.error .checkError none)
      else some (.done data)

/-- R150: the bytes a partner returned stand in the transaction. -/
def Transaction.receive (t : Transaction) : BusEnding → Transaction
  | .noAck => t
  | .returned bytes => { t with received := bytes }

/-- R147 to R149: the ending that what the partner presents gives the transaction, whose returned bytes it has received. -/
def Transaction.ending (t : Transaction) (e : BusEnding) : Option Ending :=
  match e, t.kind with
  | .noAck, _ => some (.error .noAck none)
  | .returned _, .readBlock => readEnding t.statusOf.isSome t.received
  | .returned _, .ping => some (.done [])
  | .returned _, .writeBlock => some (.done [])

/-! ## Classes of a status-block read (R152) -/

/-- R152, R158: the class of a completion code. -/
inductive CodeClass
  | good | busy | sensorFault | unknown
deriving DecidableEq, Repr

def codeClass (code : Byte) : CodeClass :=
  if code = 0x40 then .good else if code = 0x80 then .busy else if code = 0x81 then .sensorFault else .unknown

/-- R139, R152: the sample of the head channel an ending is: good, bad or none. -/
def Ending.sample : Ending → Option Bool
  | .done data =>
    match codeClass (data.headD 0) with
    | .good => some true
    | .busy => none
    | .sensorFault | .unknown => some false
  | .error .killed _ => none
  | .error _ _ => some false

/-- R150: the poll ending an ending writes. -/
def Ending.poll : Ending → Option PollEnding
  | .done data =>
    match codeClass (data.headD 0) with
    | .good => some .good
    | .busy => some .busy
    | .sensorFault => some .sensorFault
    | .unknown => some (.unknown (data.headD 0))
  | .error .noAck _ => some .noAck
  | .error .timeout _ => some .timeout
  | .error .checkError _ => some .checkError
  | .error .killed _ => none

/-- 12.4: the head data of a status block. -/
def headData (data : List Byte) : HeadData :=
  { temp := ((data.getD 1 0).toNat : Int) - 40
    vacuum := (data.getD 2 0).toNat * 256 + (data.getD 3 0).toNat
    contact := data.getD 4 0 = 1 }

/-- R138, R143: a head channel takes a sample. -/
def Head.sampled (h : Head) (good : Bool) : Head :=
  if h.health = .failed then
    let p := restoreAfter h.restore good
    if p = some 128 then { h with count := 0, restore := none, hasGood := true }
    else { h with restore := p, hasGood := h.hasGood || good }
  else { h with count := countAfter h.count good, hasGood := h.hasGood || good }

/-- R152: the head record after an ending: the count first, then the data published or held by the state after it. -/
def Head.after (h : Head) (e : Ending) (now : Timestamp) : Head :=
  match e.sample, e with
  | some true, .done data =>
    let h := h.sampled true
    if h.health = .healthy ∨ h.health = .suspect then
      { h with data := some (headData data), published := some now, stale := false }
    else h
  | some good, _ => h.sampled good
  | none, _ => h

/-! ## Users of a head record -/

/-- The sources of a head module (R174). -/
def headSources (b : BoomId) : List Source := [.headTemp b, .headVacuum b]

/-- R142, R153: the boom's engine is told of a change of its head channel's health or of the stale mark. -/
def State.headChanged (s : State) (b : BoomId) (old : Head) : State :=
  let h := s.head b
  let s1 := if h.health ≠ old.health ∨ h.stale ≠ old.stale then s.updateRestricted b else s
  if h.health = .failed ∧ old.health ≠ .failed then s1.channelFailed b else s1

/-- R152, R153: a status-block read of a module is classified: count, event, data, then the engine and the monitors. -/
def State.classify (s : State) (b : BoomId) (e : Ending) : State :=
  let old := s.head b
  let h := old.after e s.now
  let s1 := ((s.setHead b h).raiseHealth (.head b) old.health h.health).headChanged b old
  if e.sample = some true ∧ (h.health = .healthy ∨ h.health = .suspect) then s1.publish (headSources b)
  else if h.health ≠ old.health then s1.markValidity (headSources b)
  else s1

/-- R153: the stale mark changes, and the change is handed on. -/
def State.setStale (s : State) (b : BoomId) (x : Bool) : State :=
  let old := s.head b
  if old.stale = x then s
  else ((s.setHead b { old with stale := x }).headChanged b old).markValidity (headSources b)

/-- R153: head data is stale: its age exceeds the limit in force, or it has no publication timestamp. -/
def State.isStale (s : State) (b : BoomId) : Bool :=
  match (s.head b).published with
  | none => true
  | some t => since s.now t > s.cal.staleLimit

/-- R153, R160: an accepted CALIBRATE decides the stale mark afresh. -/
def State.decideStale (s : State) (b : BoomId) : State := s.setStale b (s.isStale b)

/-! ## Rounds (R151, R154) -/

/-- R151: the poll read of a module. -/
def pollRead (b : BoomId) : Transaction :=
  { manual := false, kind := .readBlock, addr := headAddr b, cmd := 0x10, data := [], received := [] }

/-- R151: the round's read of a module begins. -/
def State.beginRead (s : State) (b : BoomId) : State :=
  { s with bus := { s.bus with round := some b, txn := some (pollRead b) } }

/-- R151, R155, R161: a round begins with the read of 0x2A. -/
def State.beginRound (s : State) : State := s.beginRead .A

/-- R151, R155, R161: the poll timer is loaded with the poll period in force. -/
def State.loadPollTimer (s : State) : State := { s with bus := { s.bus with pollTimer := s.cal.pollPeriod } }

/-- R154: the round ends; a pending pause takes effect. -/
def State.endRound (s : State) : State :=
  { s with
    bus :=
      { s.bus with
        round := none
        schedule := if s.bus.schedule = .pausePending then .paused else s.bus.schedule } }

/-- R151, R154: the round moves on after the ending of a poll read. -/
def State.roundOn (s : State) : State :=
  if s.bus.round = some .A ∧ s.bus.schedule = .polling then s.beginRead .B else s.endRound

/-- R152: a poll ending is written to the module's record, with HEAD_POLL_ERROR on a bad sample. -/
def State.pollEnded (s : State) (b : BoomId) (e : Ending) : State :=
  let s1 := s.setHead b { s.head b with lastPoll := e.poll }
  if e.sample = some false then s1.raise .headPollError else s1

/-- R158: the manual result an ending gives. -/
def Ending.manual : Ending → ManualResult
  | .done data => .done data
  | .error e count => .error e count

/-- R149, R152, R156: the transaction in flight ends. -/
def State.endTransaction (s : State) (t : Transaction) (e : Ending) : State :=
  let s1 : State := { s with bus := { s.bus with txn := none } }
  let s2 := match t.statusOf with
    | some b => s1.classify b e
    | none => s1
  if t.manual then { s2 with bus := { s2.bus with manual := { s2.bus.manual with result := e.manual } } }
  else
    match t.statusOf with
    | some b => (s2.pollEnded b e).roundOn
    | none => s2.roundOn

end Sys2Proof.Machine
end

