-- ==== Sys2Proof/Machine/Frame.lean ====
section
/-! DEFINITION. The frame of the link (12.1): the CRC-16, the bytes of a frame, the receiver byte by byte, and the bytes of
reply fields (R198). -/
namespace Sys2Proof.Machine

/-! ## CRC-16 (R194) -/

/-- One bit of the CRC register, polynomial 0x8005, most significant bit first. -/
def crcBit (c : BitVec 16) : BitVec 16 := if c.msb then (c <<< 1) ^^^ 0x8005#16 else c <<< 1

/-- One byte of the CRC. -/
def crcByte (c : BitVec 16) (b : Byte) : BitVec 16 :=
  crcBit (crcBit (crcBit (crcBit (crcBit (crcBit (crcBit (crcBit (c ^^^ (b.setWidth 16 <<< 8)))))))))

/-- R194: the CRC-16 of bytes, initial value 0xFFFF, no final inversion. -/
def crc16 (bytes : List Byte) : BitVec 16 := bytes.foldl crcByte 0xFFFF#16

/-- High byte first. -/
def be16 (n : Nat) : List Byte := [BitVec.ofNat 8 (n / 256), BitVec.ofNat 8 n]

/-- R194: the bytes of a frame after SYNC: LEN, SEQ, CODE, the payload and the CRC. -/
def frameBody (seq code : Byte) (payload : List Byte) : List Byte :=
  let covered := BitVec.ofNat 8 payload.length :: seq :: code :: payload
  covered ++ be16 (crc16 covered).toNat

/-- R194: the bytes of a frame, SYNC first. -/
def frame (seq code : Byte) (payload : List Byte) : List Byte := 0xC3 :: frameBody seq code payload

/-! ## The receiver (R194) -/

/-- The receiver after a byte, with the frame (LEN, SEQ, CODE, payload) the byte completes as a valid one. -/
structure Taken where
  receiver : Receiver
  valid : Option (List Byte)
deriving DecidableEq, Repr

/-- R194: the bytes of a completed frame carry a matching CRC in their last two. -/
def crcMatches (bytes : List Byte) : Bool :=
  bytes.drop (bytes.length - 2) == be16 (crc16 (bytes.take (bytes.length - 2))).toNat

/-- R194: the receiver takes one byte. -/
def Receiver.take (r : Receiver) (b : Byte) : Taken :=
  match r with
  | .hunting => ⟨if b = 0xC3 then .assembling [] else .hunting, none⟩
  | .assembling [] => ⟨if b.toNat > 250 then .hunting else .assembling [b], none⟩
  | .assembling (len :: rest) =>
    let bytes := len :: rest ++ [b]
    if bytes.length < len.toNat + 5 then ⟨.assembling bytes, none⟩
    else ⟨.hunting, if crcMatches bytes then some (bytes.take (bytes.length - 2)) else none⟩

/-- R194: the receiver takes bytes in turn; the valid frames among them in order. -/
def Receiver.feed : Receiver → List Byte → Receiver × List (List Byte)
  | r, [] => (r, [])
  | r, b :: bs =>
    let t := r.take b
    let x := Receiver.feed t.receiver bs
    (x.1, t.valid.toList ++ x.2)

/-! ## Reply fields (R198) -/

/-- R198: the bytes of one reply value, high byte first; signed values in two's complement. -/
def Wire.bytes : Wire → List Byte
  | .u8 n => [BitVec.ofNat 8 n]
  | .u16 n => be16 n
  | .u32 n => be16 (n / 65536) ++ be16 n
  | .s16 i => be16 (BitVec.ofInt 16 i).toNat

/-- A yes or no, and a mark that is set or clear, as 1 and 0: the model's choice, R198 giving it no code (log 38). -/
def Wire.flag (b : Bool) : Wire := .u8 (if b then 1 else 0)

/-- R198: an optional value of one byte, behind its presence byte. -/
def Wire.opt8 (x : Option Nat) : List Wire := [Wire.flag x.isSome, .u8 (x.getD 0)]
def Wire.opt16 (x : Option Nat) : List Wire := [Wire.flag x.isSome, .u16 (x.getD 0)]
def Wire.optS16 (x : Option Int) : List Wire := [Wire.flag x.isSome, .s16 (x.getD 0)]

/-- R197: the code of a refusal reason. -/
def Reason.num : Reason → Nat
  | .badLength => 0x01
  | .unknownCode => 0x02
  | .badField => 0x03
  | .noPlan => 0x04
  | .planInUse => 0x05
  | .planTableFull => 0x06
  | .queueFull => 0x07
  | .duplicateTag => 0x08
  | .noJob => 0x09
  | .wrongState => 0x0A
  | .interlock => 0x0B
  | .busy => 0x0C
  | .empty => 0x0D

/-- R195: the CODE of a reply frame. -/
def Reply.frameCode (r : Reply) : Byte :=
  match r.answer with
  | .accepted _ => r.code + 0x80
  | .refused _ _ => 0x7F

/-- R195: the payload of a reply frame. -/
def Reply.payload (r : Reply) : List Byte :=
  match r.answer with
  | .accepted fields => r.summary :: (fields.map Wire.bytes).flatten
  | .refused reason detail => [r.summary, r.code, BitVec.ofNat 8 reason.num, BitVec.ofNat 8 detail]

/-- R195: the frame the part sends. -/
def Reply.frame (r : Reply) : List Byte := Machine.frame r.seq r.frameCode r.payload

end Sys2Proof.Machine
end

