-- ==== Sys2Proof/Machine/Operands.lean ====
section
/-! DEFINITION. The operand forms of the requests: how each field is read from a payload (R198 and the layouts of 12.4), the
range checks of plans, jobs, monitors and calibration sets, and the calibration image as bytes. -/
namespace Sys2Proof.Machine

/-! ## Fields of a payload (R198) -/

def byteAt (p : List Byte) (i : Nat) : Nat := (p.getD i 0).toNat
def u16At (p : List Byte) (i : Nat) : Nat := byteAt p i * 256 + byteAt p (i + 1)
def u32At (p : List Byte) (i : Nat) : Nat := u16At p i * 65536 + u16At p (i + 2)
def s16At (p : List Byte) (i : Nat) : Int := (BitVec.ofNat 16 (u16At p i)).toInt

/-- R198: a value behind a presence bit. -/
def optAt (present : Bool) (n : Nat) : Option Nat := if present then some n else none

/-- R198: a boom is 0 for A and 1 for B; any other value is out of range. -/
def boomOf (n : Nat) : Option BoomId := if n = 0 then some .A else if n = 1 then some .B else none

/-- A number lies in a range. -/
def within (lo n hi : Nat) : Bool := lo ≤ n && n ≤ hi

/-! ## Hole plans (R1 to R3, 12.4) -/

/-- The `k`-th two-byte value of a plan record before the two four-byte values (byte 1 onward). -/
def planValue (p : List Byte) (k : Nat) : Nat := u16At p (1 + 2 * k)

/-- The `k`-th two-byte value of a plan record after the two four-byte values (byte 71 onward). -/
def planTail (p : List Byte) (k : Nat) : Nat := u16At p (71 + 2 * k)

/-- 12.4: the plan of a LOAD PLAN payload. -/
def planOf (p : List Byte) : HolePlan :=
  let v := planValue p
  let t := planTail p
  let has (i : Nat) : Bool := (byteAt p 0).testBit i
  { id := v 0, holeLength := v 1, bondLength := v 2, contact := v 3, collarDepth := v 4
    approachFeed := v 5, collarFeed := v 6, collarRot := v 7, drillFeed := v 8, drillRot := v 9
    hardFeed := optAt (has 0) (v 10), voidFeed := optAt (has 1) (v 11), jam := v 12, retryLimit := v 13
    autoRetry := v 14, drillLimit := v 15, kf := v 16, voidMax := v 17, softMax := v 18, hardMin := v 19
    dropTime := optAt (has 2) (v 20), fill := v 21, wv := v 22, ws := v 23, base := v 24, maxCart := v 25
    pushFeed := v 26, pushContact := v 27, mixRot := v 28, mixCount := v 29, mixLimit := v 30
    gelTime := u32At p 63, torqueWindow := u32At p 67
    holdFeed := t 0, torqueRot := t 1, torqueTarget := t 2, torqueLimit := optAt (has 3) (t 3), torqueTime := t 4
    retractDuty := t 5, releaseDuty := t 6 }

/-- 12.4: the plan record of a READ PLAN reply. -/
def planWire (p : HolePlan) : List Wire :=
  let bit (x : Option Nat) (i : Nat) : Nat := if x.isSome then i else 0
  .u8 (bit p.hardFeed 1 + bit p.voidFeed 2 + bit p.dropTime 4 + bit p.torqueLimit 8)
    :: ([p.id, p.holeLength, p.bondLength, p.contact, p.collarDepth, p.approachFeed, p.collarFeed, p.collarRot, p.drillFeed,
        p.drillRot, p.hardFeed.getD 0, p.voidFeed.getD 0, p.jam, p.retryLimit, p.autoRetry, p.drillLimit, p.kf, p.voidMax,
        p.softMax, p.hardMin, p.dropTime.getD 0, p.fill, p.wv, p.ws, p.base, p.maxCart, p.pushFeed, p.pushContact, p.mixRot,
        p.mixCount, p.mixLimit].map .u16
      ++ [.u32 p.gelTime, .u32 p.torqueWindow]
      ++ [p.holdFeed, p.torqueRot, p.torqueTarget, p.torqueLimit.getD 0, p.torqueTime, p.retractDuty, p.releaseDuty].map
        .u16)

/-- An optional field is absent or in range. -/
def optWithin (lo : Nat) (x : Option Nat) (hi : Nat) : Bool := x.all (fun n => within lo n hi)

/-- R1: field `n` (1 to 30) of a plan lies in its range. -/
def HolePlan.fieldOk (p : HolePlan) : Nat → Bool
  | 1 => within 1 p.id 255
  | 2 => within 300 p.holeLength 2400
  | 3 => within 100 p.bondLength p.holeLength
  | 4 => within 50 p.contact 1500
  | 5 => within 20 p.collarDepth 200
  | 6 => p.approachFeed ≤ 1000 && p.collarFeed ≤ 1000 && p.collarRot ≤ 1000
  | 7 => p.drillFeed ≤ 1000 && p.drillRot ≤ 1000
  | 8 => optWithin 0 p.hardFeed 1000
  | 9 => optWithin 0 p.voidFeed 1000
  | 10 => within 500 p.jam 4000
  | 11 => p.retryLimit ≤ 3
  | 12 => p.autoRetry ≤ 1
  | 13 => within 10 p.drillLimit 600
  | 14 => p.kf ≤ 255
  | 15 => p.hardMin ≤ 65535 && p.voidMax < p.softMax && p.softMax < p.hardMin
  | 16 => optWithin 1 p.dropTime 2000
  | 17 => within 100 p.fill 1200
  | 18 => p.wv ≤ 15 && p.ws ≤ 15
  | 19 => within 1 p.base 6
  | 20 => within p.base p.maxCart 6
  | 21 => p.pushFeed ≤ 1000 && within 100 p.pushContact 3000
  | 22 => p.mixRot ≤ 1000 && within 4 p.mixCount 800
  | 23 => within 1000 p.mixLimit 60000
  | 24 => within (p.mixLimit + 1) p.gelTime 120000
  | 25 => within 1000 p.torqueWindow 120000
  | 26 => p.holdFeed ≤ 1000
  | 27 => p.torqueRot ≤ 1000 && within 50 p.torqueTarget 900
  | 28 => optWithin (p.torqueTarget + 10) p.torqueLimit 1000
  | 29 => within 1000 p.torqueTime 30000
  | 30 => p.retractDuty ≤ 1000 && p.releaseDuty ≤ 1000
  | _ => true

/-- R3: the first field of a plan, in table order, that fails its check. -/
def HolePlan.firstBad (p : HolePlan) : Option Nat := (List.range' 1 30).find? (fun n => !p.fieldOk n)

/-! ## Jobs (R10, 12.4) -/

/-- 12.4: the job of a QUEUE JOB payload (byte 0 is the boom). -/
def jobOf (p : List Byte) : Job :=
  let has (i : Nat) : Bool := (byteAt p 4).testBit i
  { tag := u16At p 1, planId := byteAt p 3
    holeLength := optAt (has 0) (u16At p 5), torqueTarget := optAt (has 1) (u16At p 7), base := optAt (has 2) (u16At p 9) }

/-- R10, R12 step 6: the first override of a job out of its range on plan `p`. -/
def Job.firstBad (j : Job) (p : HolePlan) : Option Nat :=
  if !j.holeLength.all (fun n => within 300 n 2400 && p.bondLength ≤ n) then some 4
  else if !j.torqueTarget.all (fun n => within 50 n 900 && n + 10 ≤ (inForce p j).limit) then some 5
  else if !j.base.all (fun n => within 1 n p.maxCart) then some 6
  else none

/-! ## Monitors (R173, R174, R177) -/

/-- R174: the nineteen sources in the order of the table. -/
def allSources : List Source :=
  [.value .aRot, .value .aFeed, .value .bRot, .value .bFeed, .value .pump, .value .canopy, .value .oil,
    .filtered .aRot, .filtered .aFeed, .filtered .bRot, .filtered .bFeed, .filtered .pump, .filtered .canopy,
    .torque .A, .torque .B, .headTemp .A, .headTemp .B, .headVacuum .A, .headVacuum .B]

/-- R198, R174: the number of a source (log 17). -/
def Source.num (x : Source) : Nat := allSources.idxOf x

/-- R174: the range of a source's values. -/
def Source.range : Source → Int × Int
  | .value .oil | .headTemp _ => (-40, 150)
  | .torque _ => (0, 1000)
  | .headVacuum _ => (0, 600)
  | .value _ | .filtered _ => (0, 4000)

/-- R198: levels on temperature sources are signed. -/
def Source.signed : Source → Bool
  | .value .oil | .headTemp _ => true
  | _ => false

/-- R198: a level of a SET MONITOR payload for a source. -/
def Source.levelAt (x : Source) (p : List Byte) (i : Nat) : Int := if x.signed then s16At p i else (u16At p i : Int)

/-- R198: a level of a source in a reply. -/
def Source.wire (x : Source) (level : Int) : Wire := if x.signed then .s16 level else .u16 level.toNat

def scopeOf (n : Nat) : Option Scope :=
  if n = 0 then some .a else if n = 1 then some .b else if n = 2 then some .both else none

def Scope.num : Scope → Nat
  | .a => 0
  | .b => 1
  | .both => 2

/-- The configuration a SET MONITOR payload carries, for a payload whose fields pass (log 18: on is 0, off is 1). -/
def monitorOf (p : List Byte) : MonitorConfig :=
  let src := allSources.getD (byteAt p 2) (.value .pump)
  { enable := byteAt p 1 = 0
    source := src
    below := byteAt p 3 = 1
    warn := src.levelAt p 4
    trip := src.levelAt p 6
    hyst := u16At p 8
    warnActs := .ofNum (byteAt p 10)
    tripActs := .ofNum (byteAt p 11)
    scope := (scopeOf (byteAt p 12)).getD .both }

/-- R177: field `n` (1 to 10) of a SET MONITOR payload passes. -/
def monitorFieldOk (p : List Byte) : Nat → Bool
  | 1 => byteAt p 0 ≤ 11
  | 2 => byteAt p 1 ≤ 1
  | 3 => byteAt p 2 ≤ 18
  | 4 => byteAt p 3 ≤ 1
  | 5 => (monitorOf p).source.range.1 ≤ (monitorOf p).warn && (monitorOf p).warn ≤ (monitorOf p).source.range.2
  | 6 =>
    let c := monitorOf p
    c.source.range.1 ≤ c.trip && c.trip ≤ c.source.range.2 && (if c.below then c.trip < c.warn else c.trip > c.warn)
  | 7 => u16At p 8 ≤ 500
  | 8 => byteAt p 10 ≤ 7
  | 9 => byteAt p 11 ≤ 7
  | 10 => byteAt p 12 ≤ 2
  | _ => true

/-- R177: the first field that fails. -/
def monitorFirstBad (p : List Byte) : Option Nat := (List.range' 1 10).find? (fun n => !monitorFieldOk p n)

/-! ## Calibration sets (12.7) -/

/-- The 96 values of a CALIBRATE payload or of the non-volatile image. -/
def calValues (p : List Byte) : List Nat := (List.range 96).map (fun i => u16At p (2 * i))

/-- R201: the bytes of a set in payload order. -/
def calBytes (vals : List Nat) : List Byte := (vals.map be16).flatten

/-- The range of value `n` in the table of 12.7, values 53 and 96 apart. -/
def calRange (n : Nat) : Nat × Nat :=
  if n ≤ 7 then (0, 1023)
  else if n ≤ 14 then (0, 8191)
  else if n ≤ 20 then (0, 6)
  else if n ≤ 22 then (0, 1000)
  else if n ≤ 24 then (0, 1023)
  else if n ≤ 50 then (1, 120)
  else if n = 51 then (1000, 60000)
  else if n = 52 then (100, 4000)
  else if n = 53 then (50, 3990)
  else if n ≤ 55 then (0, 1000)
  else if n = 56 then (1000, 60000)
  else if n ≤ 63 then (2, 20)
  else if n ≤ 70 then (0, 400)
  else if n ≤ 77 then (0, 500)
  else if n ≤ 84 then (50, 2000)
  else if n = 85 then (1, 20)
  else if n = 86 then (1, 50)
  else if n = 87 then (0, 1000)
  else if n = 88 then (20, 1000)
  else if n = 89 then (200, 5000)
  else if n ≤ 91 then (256, 16383)
  else if n ≤ 93 then (0, 1)
  else if n ≤ 95 then (1, 4095)
  else (100, 5000)

/-- R202 step 3: value `n` of a set passes. -/
def calValueOk (vals : List Nat) (n : Nat) : Bool :=
  let v := vals.getD (n - 1) 0
  if n = 53 then within 50 v 3990 && v < vals.getD 51 0
  else if n = 96 then v = 0 || within 100 v 5000
  else within (calRange n).1 v (calRange n).2

/-- R202: the first value that fails, in number order. -/
def calFirstBad (vals : List Nat) : Option Nat := (List.range' 1 96).find? (fun n => !calValueOk vals n)

end Sys2Proof.Machine
end

