-- ==== Sys2Proof/Machine/Link.lean ====
section
/-! DEFINITION. The link port (12.1, 12.2, 12.6): taking a valid frame, the length check, the reply, and link silence. -/
namespace Sys2Proof.Machine

/-- R194, R205, R206: the port takes frames: the part runs, no reply is on the line, no accepted RESET stands. -/
def State.takesFrames (s : State) : Bool :=
  s.phase == .running && !s.link.sending && s.link.resetStage == .none

/-- R195 step 1, R194: a valid frame has been taken: the link is LIVE, the silence timer restarts, the receiver hunts. -/
def State.frameTaken (s : State) : State :=
  { s with link := { s.link with live := true, silence := 0, receiver := .hunting } }

/-- R195: the reply goes out, with the given status summary; the part drives LKDE while it sends. That the sending begins in the
request's own event is the model's choice (log 46): R195 gives the reply up to 3 ms to begin, and R194 discards only the bytes
that arrive while it is sent. -/
def State.replyWith (s : State) (seq code summary : Byte) (a : Answer) : State :=
  { s with
    link := { s.link with sending := true, reply := some { seq := seq, code := code, summary := summary, answer := a } } }

/-- R195, R196: the reply, its summary formed after the request's own effect. -/
def State.reply (s : State) (seq code : Byte) (a : Answer) : State := s.replyWith seq code s.summary a

/-- A request's own decision: the state after its effect, and the answer. -/
structure Decision where
  state : State
  answer : Answer

def State.accept (s : State) (fields : List Wire) : Decision := ⟨s, .accepted fields⟩
def State.refuse (s : State) (r : Reason) : Decision := ⟨s, .refused r 0⟩
def State.badField (s : State) (n : Nat) : Decision := ⟨s, .refused .badField n⟩
def State.interlock (s : State) (detail : Nat) : Decision := ⟨s, .refused .interlock detail⟩

/-- R197: the interlock details. -/
def interlockCalibration : Nat := 1
def interlockTrip : Nat := 2
def interlockCanopy : Nat := 3
def interlockPresence : Nat := 4
def interlockRestricted : Nat := 5
def interlockHead : Nat := 6
def interlockParked : Nat := 7
def interlockMonitor : Nat := 9
def interlockChannel : Nat := 10
def interlockBoomEngaged : Nat := 11
def interlockEstop : Nat := 12

/-- R195: a valid frame is taken and its request decided by `decide`; a frame that the port does not take has no effect
(log 6), and a payload above 250 bytes is no frame (log 33). DESIGN CHOICE (log 7, unsafe): a request taken while the bytes of an
earlier FRAME_DISCARDED or INTER_BYTE_GAP leave the receiver assembling is the whole valid frame that it stands for; R194 would
take its bytes as data of the frame begun. -/
def State.serve (s : State) (seq code : Byte) (payload : List Byte) (decide : State → Decision) : State :=
  if s.takesFrames && payload.length ≤ 250 then
    let d := decide s.frameTaken
    d.state.reply seq code d.answer
  else s

/-- R195 step 3: the length check of the catalogue, before the request goes to its block. -/
def checkLength (n : Nat) (payload : List Byte) (decide : State → Decision) (s : State) : Decision :=
  if payload.length = n then decide s else s.refuse .badLength

/-- R198: the boom field of a request, its field 1. -/
def withBoom (n : Nat) (decide : BoomId → State → Decision) (s : State) : Decision :=
  match boomOf n with
  | some b => decide b s
  | none => s.badField 1

/-- R195 to R198: a request of fixed length. -/
def State.serveFixed (s : State) (seq code : Byte) (n : Nat) (payload : List Byte) (decide : State → Decision) : State :=
  s.serve seq code payload (checkLength n payload decide)

/-- A request whose one field is a boom. -/
def State.serveBoom (s : State) (seq code : Byte) (payload : List Byte) (decide : BoomId → State → Decision) : State :=
  s.serveFixed seq code 1 payload (withBoom (byteAt payload 0) decide)

/-- R200: the link timeout that a carried value puts in force. -/
def clampTimeout (v : Nat) : Nat := if v = 0 then 0 else max 100 (min v 5000)

/-- R200: the link becomes SILENT: LINK_LOST, and the park request reaches both engines. That boom A takes it before boom B is the
model's choice (log 9). -/
def State.linkSilent (s : State) : State :=
  let s1 := ({ s with link := { s.link with live := false, silence := s.link.timeout } } : State).raise .linkLost
  (s1.parkBoom .A .link).parkBoom .B .link

end Sys2Proof.Machine
end

