-- ==== Sys2Proof/Machine/Calibration.lean ====
section
/-! DEFINITION. The calibration store (R201 to R204) and the two resets (R205, R206): what a new working set does to every
block, the end of a write, the power-on load, the warm reset; with the five requests of the store. -/
namespace Sys2Proof.Machine

/-! ## Starvation marks (R89) -/

/-- R89: a waiting request's starved mark is set, once per wait; a boom's raises FLOW_STARVED. -/
def State.starve (s : State) (who : Requester) : State :=
  if s.arb.waits.any (fun w => w.req.who == who && !w.starved) then
    let s1 : State := { s with arb := s.arb.markStarved who s.cal.starvation }
    match who with
    | .boom b => s1.raise (.flowStarved b)
    | .canopy => s1
  else s

/-- R89: the waiting request has waited for the limit in force. -/
def State.starveDue (s : State) (who : Requester) : Bool :=
  s.arb.waits.any (fun w => w.req.who == who && !w.starved && s.cal.starvation ≤ w.wait)

/-- R89: a CALIBRATE that lowers the limit below a wait time sets the mark in its event. -/
def State.starveIfDue (s : State) (who : Requester) : State := if s.starveDue who then s.starve who else s

/-! ## A new working set (R202, R204) -/

/-- R92: an accepted CALIBRATE ends both confirm runs. -/
def State.endConfirmRuns (s : State) : State := { s with canopy := { s.canopy with setRun := none, lossRun := none } }

/-- R202: a set replaces the working set whole, the absent mark is cleared, and each block takes the new values: the link
timeout (R200), the confirm runs (R92), the pairs (R110), the starvation limit (R89), the stale marks (R160) and the sensing
blocks (R171). The channels (R130) and the arbiter's held demands (R74) take nothing in the event. -/
def State.applySet (s : State) (vals : List Nat) : State :=
  let s1 : State := { s with cal := { s.cal with working := vals, absent := false } }
  let s2 : State := { s1 with link := { s1.link with timeout := s1.cal.linkTimeout } }
  let s3 := allPairs.foldl State.recomputeDuty s2.endConfirmRuns
  let s4 := ((s3.starveIfDue (.boom .A)).starveIfDue (.boom .B)).starveIfDue .canopy
  (((s4.decideStale .A).decideStale .B).calibrateSensing .A).calibrateSensing .B

/-- R202 step 2: the engine is in IDLE, READY, PARKED or FAULTED. -/
def EngineState.calibratable : EngineState → Bool
  | .idle | .ready | .parked | .faulted => true
  | _ => false

/-- R202 step 2: CALIBRATE and RECALL may be taken. -/
def State.calibratable (s : State) : Bool :=
  (s.engine .A).state.calibratable && (s.engine .B).state.calibratable && s.canopy.state != .raising
    && s.canopy.state != .lowering

def decideCalibrate (payload : List Byte) (s : State) : Decision :=
  if s.cal.writing.isSome then s.refuse .busy
  else if !s.calibratable then s.refuse .wrongState
  else
    match calFirstBad (calValues payload) with
    | some n => s.badField n
    | none =>
      let s1 := s.applySet (calValues payload)
      s1.accept [.flag s1.cal.absent]

/-- R204: the copy's CRC matches its image. -/
def CalStore.copyMatches (c : CalStore) : Bool := crc16 c.image == c.crc

def decideRecall (s : State) : Decision :=
  if s.cal.writing.isSome then s.refuse .busy
  else if !s.calibratable then s.refuse .wrongState
  else if s.cal.copyMatches then (s.applySet (calValues s.cal.image)).accept []
  else s.refuse .empty

def decideStore (s : State) : Decision :=
  if s.cal.writing.isSome then s.refuse .busy
  else
    ({ s with cal := { s.cal with writing := some s.cal.working, writeTimer := 0, copyValid := false } } : State).accept
      [.u8 1]

def decideReadCalibration (s : State) : Decision :=
  s.accept
    (s.cal.working.map .u16
      ++ [.flag s.cal.absent, .flag s.cal.writing.isSome, .flag s.cal.copyValid,
        .u8 (match s.cal.last with
          | .none => 0
          | .done => 1
          | .failed => 2)])

/-! ## The end of a write (R203) -/

/-- R203: the memory confirms the image. -/
def State.storeConfirmed (s : State) (vals : List Nat) : State :=
  ({ s with
      cal :=
        { s.cal with
          image := calBytes vals
          crc := crc16 (calBytes vals)
          copyValid := true
          writing := none
          writeTimer := 0
          last := .done } } : State).raise .storeDone

/-- R203: a write that fails, or that a power-on reset cuts short, leaves the copy as partly written: a free value (log 8). -/
def State.tearCopy (s : State) : State :=
  { s with
    cal :=
      { s.cal with
        image := Config.tornImage s.freeCount
        crc := Config.tornCrc s.freeCount
        copyValid := false
        writing := none
        writeTimer := 0 }
    freeCount := s.freeCount + 1 }

/-- R203: 50 ms pass without confirmation. -/
def State.storeFailed (s : State) : State :=
  let s1 := s.tearCopy
  ({ s1 with cal := { s1.cal with last := .failed } } : State).raise .storeFailed

/-! ## Warm reset (R206 and each block's own rule) -/

/-- R104: the canopy controller at a warm reset. -/
def Canopy.warmReset (c : Canopy) : Canopy :=
  { state := if c.state = .raising ∨ c.state = .lowering then .lost else c.state
    fault := if c.state = .fault then c.fault else .none }

/-- R182: a monitor at a warm reset: the configuration and the recorded valid mark are kept. -/
def Monitor.warmReset (m : Monitor) : Monitor := { cfg := m.cfg, valid := m.valid }

/-- R17, R55, R56: the queue, active place, engine and logger of a boom at a warm reset; the restricted flag is taken afresh
without an event. -/
def State.warmBoom (s : State) (b : BoomId) : State :=
  s.setBoom b
    { s.boom b with queue := [], active := none, engine := { restricted := s.restrictedNow b }, logger := {} }

/-- R161: the head bus at a warm reset: the transaction and the round are abandoned, and a round begins at once. -/
def State.warmBus (s : State) : State :=
  (({ s with bus := { s.bus with schedule := .polling, txn := none, round := none, manual := {} } } : State).beginRound
    ).loadPollTimer

/-- R9, R17, R55, R56, R91, R104, R123, R146, R161, R172, R182, R193, R199, R200, R206: the warm reset. The plans, the
pairs' last directions, the switches, the channels, the head records, the magazines, the filed records, the calibration
store, the pump budget, the trip latch and the timestamp are kept. -/
def State.warmReset (s : State) : State :=
  let s1 := allPairs.foldl State.releasePair s
  let s2 := ((s1.warmBoom .A).warmBoom .B).warmBus
  let s3 := (s2.restartSensing .A).restartSensing .B
  { s3 with
    arb := { budget := s3.arb.budget }
    canopy := s3.canopy.warmReset
    monitors := s3.monitors.map Monitor.warmReset
    store := { s3.store with room := [] }
    events := 0
    link :=
      { s3.link with
        live := true
        timeout := s3.cal.linkTimeout
        silence := 0
        receiver := .hunting
        sending := false
        resetStage := .none } }

/-- R206: the reset an accepted RESET has made due, once no write is in progress. -/
def State.resetIfDue (s : State) : State :=
  if s.link.resetStage = .due ∧ s.cal.writing = none then s.warmReset else s

/-! ## Power-on reset and load (R205) -/

/-- R116, R205: a switch at power-on: its line stands, its qualified level starts at `level`, no run goes on. -/
def SwitchInput.powerOn (x : SwitchInput) (level : Bool) : SwitchInput := { line := x.line, level := level }

/-- R116: the first run begins where the line differs from the starting level. -/
def SwitchInput.firstRun (x : SwitchInput) : SwitchInput :=
  { x with run := if x.line = x.level then none else some 0 }

/-- R105, R116, R118, R145, R150, R172: what a power-on reset makes of a boom: its reset state with its lines as they are. -/
def BoomState.powerOn (b : BoomState) : BoomState :=
  { switches :=
      { prs := b.switches.prs.powerOn false, home := b.switches.home.powerOn false
        iend := b.switches.iend.powerOn false, ihome := b.switches.ihome.powerOn false }
    motion := { encI := b.motion.encI, encQ := b.motion.encQ, pickup := { line := b.motion.pickup.line } } }

/-- R205: the strap setting of IDENTIFY for the levels of BDS1 and BDS0. -/
def strapOf (bds1 bds0 : Bool) : Nat := if bds1 == bds0 then 0 else if bds1 then 2 else 1

/-- R205: a power-on reset: every output off and no block running, until the load has ended. A write cut short leaves the
copy torn; the non-volatile copy, the lines and the queue of waiting commands are all that outlast it. -/
def State.powerOn (s : State) (bds1 bds0 : Bool) : State :=
  let c := if s.cal.writing.isSome then s.tearCopy else s
  { phase := .loading
    link := { strap := strapOf bds1 bds0 }
    boomA := s.boomA.powerOn
    boomB := s.boomB.powerOn
    estop := s.estop.powerOn true
    clow := s.clow.powerOn false
    cal := { image := c.cal.image, crc := c.cal.crc, copyValid := c.cal.copyValid }
    freeCount := c.freeCount
    pending := s.pending }

/-- R205 step 2: the load of the copy, or of the defaults. -/
def CalStore.load (c : CalStore) : CalStore :=
  if c.copyMatches then { image := c.image, crc := c.crc, working := calValues c.image, absent := false, copyValid := true }
  else { image := c.image, crc := c.crc }

/-- R118: the first run of a pickup begins where its line differs from the starting level. -/
def Pickup.firstRun (x : Pickup) : Pickup := { x with run := if x.line = x.level then none else some 0 }

/-- R116, R118, R172: a boom when the load has ended: its first runs begin, its sensing takes the loaded mode and window. -/
def BoomState.loaded (x : BoomState) (c : CalStore) (b : BoomId) : BoomState :=
  { x with
    switches :=
      { prs := x.switches.prs.firstRun, home := x.switches.home.firstRun, iend := x.switches.iend.firstRun
        ihome := x.switches.ihome.firstRun }
    motion := { x.motion with pickup := x.motion.pickup.firstRun }
    sensing := { x.sensing with hop := c.hop b, window := c.window b, threshold := c.threshold b } }

/-- R205: the load ends; every other block stands in its power-on state and runs, a scan begins (R124), and the port begins
hunting. -/
def State.loadComplete (s : State) : State :=
  let c := s.cal.load
  { s.beginScan with
    phase := .running
    loadTimer := 0
    now := 0
    cal := c
    boomA := s.boomA.loaded c .A
    boomB := s.boomB.loaded c .B
    estop := s.estop.firstRun
    clow := s.clow.firstRun
    link := { s.link with live := true, timeout := c.linkTimeout, silence := 0, receiver := .hunting } }

end Sys2Proof.Machine
end

