-- ==== Sys2Proof/Machine/CanopyRequests.lean ====
section
/-! DEFINITION. The requests of the canopy controller (chapter 5), CLEAR TRIP (R113), and the two requests of the flow
arbiter (chapter 4). -/
namespace Sys2Proof.Machine

/-! ## CANOPY RAISE, CANOPY LOWER, CLEAR TRIP -/

/-- R198: the canopy states as numbered by R92. -/
def CanopyState.num : CanopyState → Nat
  | .lowered => 0
  | .raising => 1
  | .set => 2
  | .lost => 3
  | .lowering => 4
  | .fault => 5

/-- R93; the reply gives the canopy state and whether the raise request stands granted. -/
def decideCanopyRaise (s : State) : Decision :=
  if s.canopy.state = .lowering ∧ s.granted .canopy then s.refuse .wrongState
  else if s.trip then s.interlock interlockTrip
  else if (s.analog .canopy).health = .failed then s.interlock interlockChannel
  else
    let s1 := if s.canopy.state = .raising ∨ s.canopy.state = .set then s else s.beginRaise
    s1.accept [.u8 s1.canopy.state.num, .flag (s1.canopy.state == .raising && s1.granted .canopy)]

def execCanopyRaise (seq : Byte) (payload : List Byte) (s : State) : Host.Outcome State Fault Refusal :=
  .next (s.serveFixed seq 0x17 0 payload decideCanopyRaise)

/-- R98 step 3: a boom keeps the canopy from being lowered. -/
def State.keepsCanopy (s : State) (b : BoomId) : Bool :=
  let st := (s.engine b).state
  st.engaged || ((st == .hold || st == .faulted) && !s.closed (.home b))

/-- R98: an accepted LOWER by state. -/
def State.lower (s : State) : State :=
  match s.canopy.state with
  | .lowering | .lowered => s
  | .raising => s.beginLower
  | .set | .lost | .fault => if s.closed .clow then s.canopyLowered else s.beginLower

/-- R98; the reply gives the canopy state. -/
def decideCanopyLower (s : State) : Decision :=
  if s.canopy.state = .raising ∧ s.granted .canopy then s.refuse .wrongState
  else if s.trip then s.interlock interlockTrip
  else if s.keepsCanopy .A || s.keepsCanopy .B then s.interlock interlockBoomEngaged
  else
    let s1 := s.lower
    s1.accept [.u8 s1.canopy.state.num]

def execCanopyLower (seq : Byte) (payload : List Byte) (s : State) : Host.Outcome State Fault Refusal :=
  .next (s.serveFixed seq 0x18 0 payload decideCanopyLower)

/-- R113, R111: a latch that is set is cleared, and the gates that open decide their pairs afresh; with the latch clear already
nothing changes. -/
def State.clearTrip (s : State) : State := if s.trip then ({ s with trip := false } : State).settleAll else s

/-- R113; the reply says whether this request cleared the latch. -/
def decideClearTrip (s : State) : Decision :=
  if s.closed .estop then s.interlock interlockEstop else s.clearTrip.accept [.flag s.trip]

def execClearTrip (seq : Byte) (payload : List Byte) (s : State) : Host.Outcome State Fault Refusal :=
  .next (s.serveFixed seq 0x19 0 payload decideClearTrip)

/-! ## SET PUMP BUDGET, READ FLOW -/

/-- R84: the clamp of the pump budget. -/
def clampBudget (v : Nat) : Nat := max 20 (min v 240)

/-- R84, R85: the grants a new budget no longer holds, as notes, with the arbiter after their preemption. -/
def Arbiter.setBudget (a : Arbiter) (v : Nat) : Arbiter × List FlowNote :=
  ({ a with budget := clampBudget v } : Arbiter).fitBudget a.grants.length

/-- R84, R85: the new budget, its preemptions and the grant pass. -/
def State.setBudget (s : State) (v : Nat) : State :=
  let x := s.arb.setBudget v
  (x.2.foldl State.tell { s with arb := x.1 }).runPass

/-- R84; the reply gives the budget, the grants preempted by the change (log 16) and the free flow. -/
def decideSetBudget (payload : List Byte) (s : State) : Decision :=
  let v := u16At payload 0
  let s1 := s.setBudget v
  s1.accept [.u8 s1.arb.budget, .u8 (s.arb.setBudget v).2.length, .u8 s1.arb.free]

def execSetPumpBudget (seq : Byte) (payload : List Byte) (s : State) : Host.Outcome State Fault Refusal :=
  .next (s.serveFixed seq 0x1A 2 payload (decideSetBudget payload))

def requesterNum : Requester → Nat
  | .boom b => b.num
  | .canopy => 2

/-- R74, R90: the purposes in the order of the table of R74, with the steps in the order of R21 (log 17). -/
def Purpose.num : Purpose → Nat
  | .canopyRaise => 0
  | .canopyLower => 1
  | .step .push => 2
  | .step .mix => 3
  | .step .gelHold => 4
  | .step .torque => 5
  | .step .collar => 6
  | .step .drill => 7
  | .step .retract => 8
  | .step .insert => 9
  | .step .release => 10
  | .step _ => 6
  | .jog f => 11 + f.num

/-- R90: the fields of one request. -/
def FlowReq.wire (r : FlowReq) : List Wire :=
  [.u8 (requesterNum r.who), .u8 r.purpose.num, .u8 r.cls, .u8 r.demand, .u16 r.stamp]

/-- R90. -/
def decideReadFlow (s : State) : Decision :=
  let a := s.arb
  s.accept
    ([.u8 a.budget, .u8 a.grantedSum, .u8 a.free, .u16 s.cal.starvation]
      ++ .u8 a.grants.length :: (a.grants.map FlowReq.wire).flatten
      ++ .u8 a.waits.length
        :: (a.waits.map (fun w => w.req.wire ++ [.u16 (min w.wait 65535), Wire.flag w.starved])).flatten)

def execReadFlow (seq : Byte) (payload : List Byte) (s : State) : Host.Outcome State Fault Refusal :=
  .next (s.serveFixed seq 0x1B 0 payload decideReadFlow)

end Sys2Proof.Machine
end

