-- ==== Sys2Proof/Machine/ChannelRequests.lean ====
section
/-! DEFINITION. The requests of the measurement channels (R143, R144) and of the limit monitors (R177, R180, R181). -/
namespace Sys2Proof.Machine

/-! ## READ CHANNELS -/

def Health.num : Health → Nat
  | .healthy => 0
  | .suspect => 1
  | .degraded => 2
  | .failed => 3

/-- The seven analog channels in order of number. -/
def allAnalogs : List AnalogId := [.aRot, .aFeed, .bRot, .bFeed, .pump, .canopy, .oil]

/-- R144: an analog channel; the value of channel 6 is signed. -/
def Analog.wire (c : Analog) (ch : AnalogId) : List Wire :=
  [.u16 c.raw.toNat, Wire.flag c.good, if ch = .oil then .s16 c.val else .u16 c.val.toNat, Wire.flag c.valid, .u16 c.count,
    .u8 c.health.num] ++ Wire.opt8 c.restore

/-- R144: the filtered value of channels 0 to 5, absent before the first good sample. -/
def Analog.filterWire (c : Analog) : List Wire := Wire.opt16 (c.filtered.map Int.toNat)

/-- R153: the age of a module's head data, saturating at 65535. -/
def Head.age (h : Head) (now : Timestamp) : Option Nat := h.published.map (fun t => min (since now t) 65535)

/-- R144, R153: a head channel with its head data, age and stale mark. -/
def Head.wire (h : Head) (now : Timestamp) : List Wire :=
  [.u16 h.count, .u8 h.health.num] ++ Wire.opt8 h.restore ++ [Wire.flag h.valid]
    ++ [.u8 (if h.data.isSome then 7 else 0), .s16 ((h.data.map (·.temp)).getD 0), .u16 ((h.data.map (·.vacuum)).getD 0),
      Wire.flag (h.data.any (·.contact))]
    ++ Wire.opt16 (h.age now) ++ [Wire.flag h.stale]

/-- R144: the motion inputs of a boom; the level of its home switch is 1 for closed, the model's choice (log 38). -/
def State.motionWire (s : State) (b : BoomId) : List Wire :=
  [.u16 (s.motion b).torqueEst, Wire.flag (s.analog (rotChannel b)).valid, .u16 (s.motion b).feedPos,
    Wire.flag (s.closed (.home b)), .u16 (s.motion b).pulses.toNat]

/-- R144: the timestamp of the reply and that of the last completed scan, the channels, the head data and the motion inputs. -/
def State.channelsWire (s : State) : List Wire :=
  [.u32 s.now.toNat, .u32 s.lastScan.toNat]
    ++ (allAnalogs.map (fun c => (s.analog c).wire c)).flatten
    ++ ((allAnalogs.take 6).map (fun c => (s.analog c).filterWire)).flatten
    ++ (s.head .A).wire s.now ++ (s.head .B).wire s.now ++ s.motionWire .A ++ s.motionWire .B

def decideReadChannels (s : State) : Decision := s.accept s.channelsWire

def execReadChannels (seq : Byte) (payload : List Byte) (s : State) : Host.Outcome State Fault Refusal :=
  .next (s.serveFixed seq 0x1C 0 payload decideReadChannels)

/-! ## RESTORE CHANNEL -/

/-- The health state of a channel. -/
def State.health (s : State) : ChannelId → Health
  | .analog c => (s.analog c).health
  | .head b => (s.head b).health

/-- R143: the restore progress of a channel is set to 0 and begins counting. -/
def State.beginRestore (s : State) : ChannelId → State
  | .analog c => s.setAnalog c { s.analog c with restore := some 0 }
  | .head b => s.setHead b { s.head b with restore := some 0 }

/-- R143; the reply gives the channel and its progress, 0. -/
def decideRestore (payload : List Byte) (s : State) : Decision :=
  match ChannelId.ofNum (byteAt payload 0) with
  | none => s.badField 1
  | some c => if s.health c = .failed then (s.beginRestore c).accept [.u8 c.num, .u8 0] else s.refuse .wrongState

def execRestoreChannel (seq : Byte) (payload : List Byte) (s : State) : Host.Outcome State Fault Refusal :=
  .next (s.serveFixed seq 0x1D 1 payload (decideRestore payload))

/-! ## SET MONITOR, READ MONITORS, CLEAR MONITOR LATCH -/

def Level.num : Level → Nat
  | .normal => 0
  | .warn => 1
  | .trip => 2

/-- The latched status in a reply: warn-seen, then trip-seen. -/
def Monitor.latchWire (m : Monitor) : List Wire := [Wire.flag m.warnSeen, Wire.flag m.tripSeen]

/-- R177: the configuration is replaced whole, the status becomes NORMAL, the latches are kept, and an enabled monitor on a
valid source is tested at once (log 28: the valid mark is recorded). -/
def State.configureMonitor (s : State) (n : Nat) (c : MonitorConfig) : State :=
  let s1 := (s.setMonitorAt n { s.monitor n with cfg := c, status := .normal, last := none }).recordValid n
  if c.enable && s.sourceValid c.source then s1.testMonitor n (s.sourceValue c.source) else s1

/-- R177; the reply gives the number, the status after the test and the latched status. -/
def decideSetMonitor (payload : List Byte) (s : State) : Decision :=
  match monitorFirstBad payload with
  | some n => s.badField n
  | none =>
    let n := byteAt payload 0
    let s1 := s.configureMonitor n (monitorOf payload)
    s1.accept ([.u8 n, .u8 (s1.monitor n).status.num] ++ (s1.monitor n).latchWire)

def execSetMonitor (seq : Byte) (payload : List Byte) (s : State) : Host.Outcome State Fault Refusal :=
  .next (s.serveFixed seq 0x1E 13 payload (decideSetMonitor payload))

/-- R180: one slot. -/
def Monitor.wire (m : Monitor) (n : Nat) : List Wire :=
  let c := m.cfg
  [.u8 n, .u8 (if c.enable then 0 else 1), .u8 c.source.num, .u8 (if c.below then 1 else 0), c.source.wire c.warn,
    c.source.wire c.trip, .u16 c.hyst, .u8 c.warnActs.num, .u8 c.tripActs.num, .u8 c.scope.num, .u8 m.status.num]
    ++ m.latchWire
    ++ [Wire.flag m.last.isSome, c.source.wire (m.last.getD 0), Wire.flag m.valid]

/-- R180. -/
def decideReadMonitors (s : State) : Decision :=
  s.accept (((List.range 12).map (fun n => (s.monitor n).wire n)).flatten ++ [Wire.flag s.horn])

def execReadMonitors (seq : Byte) (payload : List Byte) (s : State) : Host.Outcome State Fault Refusal :=
  .next (s.serveFixed seq 0x1F 0 payload decideReadMonitors)

/-- R181: the latches of a monitor are cleared but for the level it stands in. -/
def Monitor.clearLatch (m : Monitor) : Monitor :=
  { m with warnSeen := m.warnSeen && m.status != .normal, tripSeen := m.tripSeen && m.status == .trip }

/-- R181: the monitors a request names. -/
def namedMonitors (n : Nat) : Option (List Nat) :=
  if n = 255 then some (List.range 12) else if n ≤ 11 then some [n] else none

/-- R181; the reply gives for each monitor named the latched status before and after. -/
def decideClearLatch (payload : List Byte) (s : State) : Decision :=
  match namedMonitors (byteAt payload 0) with
  | none => s.badField 1
  | some ns =>
    let s1 := ns.foldl (fun t n => t.setMonitorAt n (t.monitor n).clearLatch) s
    s1.accept (.u8 ns.length :: (ns.map (fun n => (s.monitor n).latchWire ++ (s1.monitor n).latchWire)).flatten)

def execClearMonitorLatch (seq : Byte) (payload : List Byte) (s : State) : Host.Outcome State Fault Refusal :=
  .next (s.serveFixed seq 0x20 1 payload (decideClearLatch payload))

end Sys2Proof.Machine
end

