-- ==== Sys2Proof/Machine/EngineRequests.lean ====
section
/-! DEFINITION. The requests of the bolt cycle engines (chapter 2): START, HOLD, RESUME, ABORT, PARK, UNPARK, BOLT LOADED,
CLEAR FAULT, JOG, READ BOOM, and MAGAZINE LOADED of chapter 9, whose report an engine takes. -/
namespace Sys2Proof.Machine

/-- R79, R53: a jog ends in the event of a placement: its drive is withdrawn, its request left to the exchange. -/
def State.dropJog (s : State) (b : BoomId) : State :=
  if (s.engine b).jog.isSome then (s.setEngine b { s.engine b with jog := none }).boomOff b false else s

/-! ## START (R19, R20) -/

/-- R19: the roof contact value of a boom reads yes. -/
def State.roofContact (s : State) (b : BoomId) : Bool := (s.head b).data.any (·.contact)

/-- R19: the first interlock of START that fails. -/
def State.startInterlock (s : State) (b : BoomId) : Option Nat :=
  if s.cal.absent then some interlockCalibration
  else if s.trip then some interlockTrip
  else if s.canopy.state ≠ .set then some interlockCanopy
  else if !s.closed (.prs b) then some interlockPresence
  else if (s.engine b).restricted then some interlockRestricted
  else if !s.roofContact b then some interlockHead
  else if (s.engine b).park then some interlockParked
  else none

/-- R20: the engine at the start of job `j`. -/
def Engine.started (e : Engine) (b : BoomId) (j : Job) (now : Timestamp) : Engine :=
  { e with
    state := .collar, sub := .approach, leg := none, resume := none
    record := some { boom := b, tag := j.tag, planId := j.planId, start := now }
    retries := 0, drillTimer := 0, torqueTimer := 0, resinClock := 0, resinRunning := false, boltLoaded := false }

/-- R16, R20: job `j`, the head of the queue, starts. -/
def State.startJob (s : State) (b : BoomId) (j : Job) (rest : List Job) : State :=
  let s1 := ((s.dropJog b).setQueue b rest).setActive b (some j)
  let s2 := s1.setEngine b ((s1.engine b).started b j s.now)
  (s2.setLogger b (.started (s2.activePlan b))).beginFlow b (.step .collar)

/-- R19, R20. -/
def decideStart (b : BoomId) (s : State) : Decision :=
  if (s.engine b).state = .ready ∨ (s.engine b).state = .parked then
    match s.startInterlock b, (s.boom b).queue with
    | some d, _ => s.interlock d
    | none, j :: rest => (s.startJob b j rest).accept [.u8 b.num, .u16 j.tag, .u8 j.planId]
    | none, [] => s.refuse .wrongState
  else s.refuse .wrongState

def execStart (seq : Byte) (payload : List Byte) (s : State) : Host.Outcome State Fault Refusal :=
  .next (s.serveBoom seq 0x0C payload decideStart)

/-! ## HOLD, ABORT, PARK, UNPARK, BOLT LOADED, CLEAR FAULT -/

/-- R42. -/
def decideHold (b : BoomId) (s : State) : Decision :=
  if (s.engine b).state.engaged ∨ (s.engine b).state = .hold then (s.holdCause b .host).accept [] else s.refuse .wrongState

def execHold (seq : Byte) (payload : List Byte) (s : State) : Host.Outcome State Fault Refusal :=
  .next (s.serveBoom seq 0x0D payload decideHold)

/-- R46. -/
def decideAbort (b : BoomId) (s : State) : Decision :=
  if (s.engine b).state.engaged ∨ (s.engine b).state = .hold then (s.enterFaulted b .aborted).accept []
  else s.refuse .wrongState

def execAbort (seq : Byte) (payload : List Byte) (s : State) : Host.Outcome State Fault Refusal :=
  .next (s.serveBoom seq 0x0F payload decideAbort)

/-- R50. -/
def decidePark (b : BoomId) (s : State) : Decision := (s.parkBoom b .host).accept []

def execPark (seq : Byte) (payload : List Byte) (s : State) : Host.Outcome State Fault Refusal :=
  .next (s.serveBoom seq 0x10 payload decidePark)

/-- R51: the park flag is cleared; a PARKED engine makes its choice. -/
def State.unpark (s : State) (b : BoomId) : State :=
  let s1 := s.setEngine b { s.engine b with park := false }
  if (s.engine b).state = .parked then s1.choose b else s1

def decideUnpark (b : BoomId) (s : State) : Decision := (s.unpark b).accept []

def execUnpark (seq : Byte) (payload : List Byte) (s : State) : Host.Outcome State Fault Refusal :=
  .next (s.serveBoom seq 0x11 payload decideUnpark)

/-- R32. -/
def decideBoltLoaded (b : BoomId) (s : State) : Decision :=
  if (s.engine b).state = .awaitBolt then (s.enterPush b).accept []
  else if (s.engine b).state = .hold ∧ (s.engine b).resume = some .awaitBolt then
    (s.setEngine b { s.engine b with boltLoaded := true }).accept []
  else s.refuse .wrongState

def execBoltLoaded (seq : Byte) (payload : List Byte) (s : State) : Host.Outcome State Fault Refusal :=
  .next (s.serveBoom seq 0x12 payload decideBoltLoaded)

/-- R47: a FAULTED engine whose record is filed makes its choice; the record it still holds is the pending one. -/
def decideClearFault (b : BoomId) (s : State) : Decision :=
  if (s.engine b).state = .faulted ∧ (s.engine b).record = none then (s.choose b).accept [] else s.refuse .wrongState

def execClearFault (seq : Byte) (payload : List Byte) (s : State) : Host.Outcome State Fault Refusal :=
  .next (s.serveBoom seq 0x13 payload decideClearFault)

/-! ## RESUME (R43, R44) -/

/-- R43: the first condition of RESUME that fails. -/
def State.resumeInterlock (s : State) (b : BoomId) : Option Nat :=
  if s.trip then some interlockTrip
  else if !s.closed (.prs b) then some interlockPresence
  else if s.canopy.state ≠ .set then some interlockCanopy
  else if s.monitors.any (fun m => m.refusesResume b ((s.engine b).resume.getD .idle)) then some interlockMonitor
  else none

/-- R44: the GEL_HOLD line. -/
def State.resumeGel (s : State) (b : BoomId) : State :=
  if (s.engine b).resinClock < (s.activePlan b).gelTime then s.enterGelHold b else s.windowTest b

/-- R44: the MIX lines. -/
def State.resumeMix (s : State) (b : BoomId) : State :=
  let e := s.engine b
  let p := s.activePlan b
  if e.q ≥ p.mixCount then (s.mixEnded b false).resumeGel b
  else if e.resinClock < p.mixLimit then (s.goto b .mix .none).beginFlow b (.step .mix)
  else (s.mixEnded b true).resumeGel b

/-- R44, R168, R170: the INSERT line. The interrupted stroke is settled, the inserter goes home first, and the strokes go
on. What passes on the way home after the last cartridge completes nothing more (log 40). -/
def State.resumeInsert (s : State) (b : BoomId) : State :=
  if (s.engine b).sub = .awaitingResin then s.insertOrWait b
  else
    let e := s.engine b
    let s1 := if e.tally ≥ 1 ∧ e.completed < s.cartridges b then s.completeCartridge b else s
    let s2 := s1.goto b .insert .none
    if (s2.engine b).completed ≥ s2.cartridges b then
      if s2.closed (.ihome b) then s2.finishInsert b
      else (s2.setEngine b { s2.engine b with leg := some .homing }).beginFlow b (.step .insert)
    else ((s2.setEngine b { s2.engine b with leg := some (s2.firstLeg b) }).beginFlow b (.step .insert)).strokes b

/-- R44: the engine enters its resume state `st`. DESIGN CHOICE (log 47, unsafe): a backoff taken up again goes on where the home
switch is closed already. -/
def State.resumeStep (s : State) (b : BoomId) (st : EngineState) : State :=
  let again := s.setEngine b { s.engine b with state := st, resume := none }
  match st with
  | .collar => again.beginFlow b (.step .collar)
  | .drill => again.beginFlow b (.step .drill)
  | .retract => s.beginRetract b
  | .insert => s.resumeInsert b
  | .awaitBolt => if (s.engine b).boltLoaded then s.enterPush b else s.enterAwaitBolt b
  | .push => s.enterPush b
  | .mix => s.resumeMix b
  | .gelHold => s.resumeGel b
  | .torque =>
    (again.setEngine b { again.engine b with sub := .none, leg := none, consecutive := 0 }).beginFlow b (.step .torque)
  | .release => s.enterRelease b
  | _ => s

/-- R44. -/
def State.resume (s : State) (b : BoomId) : State :=
  let s1 := s.dropJog b
  (s1.setEngine b { s1.engine b with causes := {} }).resumeStep b ((s.engine b).resume.getD .idle)

/-- The numbers of the enumerations READ BOOM and RESUME carry (R198). -/
def EngineState.num : EngineState → Nat
  | .idle => 0
  | .ready => 1
  | .parked => 2
  | .collar => 3
  | .drill => 4
  | .retract => 5
  | .insert => 6
  | .awaitBolt => 7
  | .push => 8
  | .mix => 9
  | .gelHold => 10
  | .torque => 11
  | .release => 12
  | .filing => 13
  | .hold => 14
  | .faulted => 15

/-- R43, R44; the reply gives the state entered. -/
def decideResume (b : BoomId) (s : State) : Decision :=
  if (s.engine b).state = .hold then
    match s.resumeInterlock b with
    | some d => s.interlock d
    | none =>
      let s1 := s.resume b
      s1.accept [.u8 (s1.engine b).state.num]
  else s.refuse .wrongState

def execResume (seq : Byte) (payload : List Byte) (s : State) : Host.Outcome State Fault Refusal :=
  .next (s.serveBoom seq 0x0E payload decideResume)

/-! ## JOG (R52) -/

/-- R52: the state allows a jog. -/
def EngineState.jogs : EngineState → Bool
  | .idle | .ready | .hold | .faulted | .parked => true
  | _ => false

def pairFnOf (n : Nat) : Option PairFn :=
  if n = 0 then some .rot else if n = 1 then some .feed else if n = 2 then some .ins else none

def dirOf (n : Nat) : Option Dir := if n = 0 then some .first else if n = 1 then some .second else none

/-- R52: an accepted jog replaces any running one; a duration of 0 ends it at once (log 14). -/
def State.startJog (s : State) (b : BoomId) (j : Jog) : State :=
  let s1 := s.dropJog b
  let s2 := (s1.setEngine b { s1.engine b with jog := some j }).place (.boom b) (.jog j.fn)
  let s3 := if s2.granted (.boom b) then s2 else s2.boomOff b false
  if j.left = 0 then s3.endJog b else s3

/-- R52. -/
def decideJog (payload : List Byte) (b : BoomId) (s : State) : Decision :=
  match pairFnOf (byteAt payload 1), dirOf (byteAt payload 2) with
  | none, _ => s.badField 2
  | some _, none => s.badField 3
  | some f, some d =>
    if !(s.engine b).state.jogs then s.refuse .wrongState
    else if s.trip then s.interlock interlockTrip
    else
      (s.startJog b { fn := f, dir := d, duty := min (u16At payload 3) 1000, left := min (u16At payload 5) 2000 }).accept []

def execJog (seq : Byte) (payload : List Byte) (s : State) : Host.Outcome State Fault Refusal :=
  .next (s.serveFixed seq 0x14 7 payload (withBoom (byteAt payload 0) (decideJog payload)))

/-! ## READ BOOM (R54) -/

def SubCond.num : SubCond → Option Nat
  | .none => Option.none
  | .approach => some 0
  | .cut => some 1
  | .backoff => some 2
  | .awaitingResin => some 3

/-- The codes of the fault causes (12.4); 0 is NONE. -/
def FaultCause.num : FaultCause → Nat
  | .aborted => 1
  | .stallCollar => 2
  | .stallDrill => 3
  | .stepTimeout => 4
  | .feedNoResponse => 5
  | .inserterNoResponse => 6
  | .resinFeed => 7
  | .channelFailed => 8

def faultNum (c : Option FaultCause) : Nat := (c.map FaultCause.num).getD 0

def Dir.num : Dir → Nat
  | .first => 0
  | .second => 1

/-- R54: the fields of READ BOOM; the values of one item of its list that may be absent form one group, behind a presence byte
with one bit for each (R198, log 17). -/
def State.boomWire (s : State) (b : BoomId) : List Wire :=
  let e := s.engine b
  let job := (s.boom b).active
  let inTorque := e.state = .torque
  let group (present : Bool) (bits : Nat) : Wire := .u8 (if present then bits else 0)
  [.u8 e.state.num]
    ++ Wire.opt8 e.sub.num
    ++ [Wire.flag (s.flowWait (.boom b))]
    ++ [group (e.state == .hold) 3, .u8 ((e.resume.map EngineState.num).getD 0), .u8 e.causes.num]
    ++ [Wire.flag e.park, Wire.flag e.restricted, .u8 (faultNum e.lastFault)]
    ++ [group job.isSome 3, .u16 ((job.map (·.tag)).getD 0), .u8 ((job.map (·.planId)).getD 0)]
    ++ [.u32 e.drillTimer, .u16 e.torqueTimer, .u32 e.resinClock, .u8 e.retries]
    ++ [.u8 ((if (s.depth b).isSome then 1 else 0) + (if job.isSome then 2 else 0)), .s16 ((s.depth b).getD 0),
      .u16 (s.logger b).h]
    ++ [group e.n.isSome 3, .u8 (e.n.getD 0), .u8 (if e.n.isSome then e.completed else 0)]
    ++ Wire.opt16 (if e.state = .mix then some e.q else none)
    ++ [.u8 (if inTorque then (if e.lastT.isSome then 7 else 6) else 0), .u16 (if inTorque then e.lastT.getD 0 else 0),
      .u16 (if inTorque then e.highest else 0), .u8 (if inTorque then e.consecutive else 0)]
    ++ [Wire.flag (e.state == .faulted && e.record.isSome)]
    ++ [group e.jog.isSome 7, .u8 ((e.jog.map (·.fn.num)).getD 0), .u8 ((e.jog.map (·.dir.num)).getD 0),
      .u16 ((e.jog.map (·.left)).getD 0)]

def decideReadBoom (b : BoomId) (s : State) : Decision := s.accept (s.boomWire b)

def execReadBoom (seq : Byte) (payload : List Byte) (s : State) : Host.Outcome State Fault Refusal :=
  .next (s.serveBoom seq 0x15 payload decideReadBoom)

/-! ## MAGAZINE LOADED (R167) -/

/-- R167: the count rises by `n`, clamped at 24; an engine awaiting resin whose count suffices begins its strokes. -/
def State.loadMagazine (s : State) (b : BoomId) (n : Nat) : State :=
  let s1 := s.setSensing b { s.sensing b with magazine := min ((s.sensing b).magazine + n) 24 }
  let e := s1.engine b
  if e.state = .insert ∧ e.sub = .awaitingResin ∧ s1.cartridges b ≤ (s1.sensing b).magazine then s1.beginStrokes b else s1

/-- R167; the reply gives the count and what the clamp left out. -/
def decideMagazineLoaded (payload : List Byte) (b : BoomId) (s : State) : Decision :=
  let n := byteAt payload 1
  if n < 1 ∨ n > 24 then s.badField 2
  else
    (s.loadMagazine b n).accept
      [.u8 b.num, .u8 (min ((s.sensing b).magazine + n) 24), .u8 ((s.sensing b).magazine + n - 24)]

def execMagazineLoaded (seq : Byte) (payload : List Byte) (s : State) : Host.Outcome State Fault Refusal :=
  .next (s.serveFixed seq 0x16 2 payload (withBoom (byteAt payload 0) (decideMagazineLoaded payload)))

end Sys2Proof.Machine
end

