-- ==== Sys2Proof/Machine/HeadRequests.lean ====
section
/-! DEFINITION. The five requests of the head module bus (R154 to R159). -/
namespace Sys2Proof.Machine

def Schedule.num : Schedule → Nat
  | .polling => 0
  | .pausePending => 1
  | .paused => 2

/-- R154: the schedule after a PAUSE: a poll transaction in flight makes it wait. -/
def State.pauseBus (s : State) : State :=
  { s with
    bus :=
      { s.bus with
        schedule :=
          if s.bus.schedule = .polling then (if s.bus.txn.isSome then .pausePending else .paused) else s.bus.schedule } }

/-- R154; the reply says whether the pause is in effect. -/
def decidePause (s : State) : Decision :=
  let s1 := s.pauseBus
  s1.accept [.flag (s1.bus.schedule == .paused)]

def execHeadBusPause (seq : Byte) (payload : List Byte) (s : State) : Host.Outcome State Fault Refusal :=
  .next (s.serveFixed seq 0x21 0 payload decidePause)

/-- R155: the schedule goes back to POLLING; out of PAUSED a round begins at once. -/
def State.resumeBus (s : State) : State :=
  let s1 : State := { s with bus := { s.bus with schedule := .polling } }
  if s.bus.schedule = .paused then s1.beginRound.loadPollTimer else s1

/-- R155; the reply gives the schedule state. -/
def decideBusResume (s : State) : Decision :=
  if s.bus.schedule = .paused ∧ s.bus.txn.isSome then s.refuse .busy
  else
    let s1 := s.resumeBus
    s1.accept [.u8 s1.bus.schedule.num]

def execHeadBusResume (seq : Byte) (payload : List Byte) (s : State) : Host.Outcome State Fault Refusal :=
  .next (s.serveFixed seq 0x22 0 payload decideBusResume)

def busKindOf (n : Nat) : Option BusKind :=
  if n = 0 then some .ping else if n = 1 then some .readBlock else if n = 2 then some .writeBlock else none

def BusKind.num : BusKind → Nat
  | .ping => 0
  | .readBlock => 1
  | .writeBlock => 2

/-- R156 step 5: the payload length of a kind. -/
def transactLength (k : BusKind) (payload : List Byte) : Nat :=
  match k with
  | .ping => 2
  | .readBlock => 3
  | .writeBlock => 4 + byteAt payload 3

/-- R156: an accepted request begins the transaction and sets the manual result to IN_PROGRESS. A PING, which carries no command,
is held with command 0: the model's choice (log 41). -/
def State.beginManual (s : State) (k : BusKind) (payload : List Byte) : State :=
  let addr := payload.getD 1 0
  let cmd := payload.getD 2 0
  { s with
    bus :=
      { s.bus with
        txn := some { manual := true, kind := k, addr := addr, cmd := cmd, data := payload.drop 4, received := [] }
        manual := { result := .inProgress, kind := k, addr := addr, cmd := cmd } } }

/-- R156, in its order; the reply gives the kind and address. -/
def decideTransact (payload : List Byte) (s : State) : Decision :=
  if payload.length < 2 then s.refuse .badLength
  else
    match busKindOf (byteAt payload 0) with
    | none => s.badField 1
    | some k =>
      if byteAt payload 1 > 0x7F then s.badField 2
      else if k = .writeBlock ∧ payload.length < 4 then s.refuse .badLength
      else if k = .writeBlock ∧ (byteAt payload 3 < 1 ∨ byteAt payload 3 > 16) then s.badField 4
      else if payload.length ≠ transactLength k payload then s.refuse .badLength
      else if s.bus.schedule ≠ .paused ∨ s.bus.txn.isSome then s.refuse .busy
      else (s.beginManual k payload).accept [.u8 k.num, .u8 (byteAt payload 1)]

def execHeadBusTransact (seq : Byte) (payload : List Byte) (s : State) : Host.Outcome State Fault Refusal :=
  .next (s.serve seq 0x23 payload (decideTransact payload))

/-- R150: the number of a poll ending, and the completion code that UNKNOWN carries. -/
def PollEnding.num : PollEnding → Nat
  | .good => 0
  | .busy => 1
  | .sensorFault => 2
  | .unknown _ => 3
  | .noAck => 4
  | .timeout => 5
  | .checkError => 6

def PollEnding.code : PollEnding → Option Byte
  | .unknown code => some code
  | _ => none

/-- R158: the last poll ending and, with UNKNOWN, its completion code: two optional values in one group (log 17). -/
def pollEndingWire (e : Option PollEnding) : List Wire :=
  let code := e.bind PollEnding.code
  [.u8 ((if e.isSome then 1 else 0) + (if code.isSome then 2 else 0)), .u8 ((e.map PollEnding.num).getD 0),
    .u8 ((code.map (·.toNat)).getD 0)]

def CodeClass.num : CodeClass → Nat
  | .good => 0
  | .busy => 1
  | .sensorFault => 2
  | .unknown => 3

/-- R149: the errors in the order of the table. -/
def BusError.num : BusError → Nat
  | .noAck => 0
  | .timeout => 1
  | .checkError => 2
  | .killed => 3

/-- R158: the manual transaction was a status-block read. -/
def Manual.isStatus (m : Manual) : Bool :=
  m.kind == .readBlock && m.cmd == 0x10 && (m.addr == headAddr .A || m.addr == headAddr .B)

/-- R158: the data bytes a DONE READ BLOCK returned; none in any other result. -/
def Manual.data (m : Manual) : List Byte :=
  match m.result, m.kind with
  | .done data, .readBlock => data
  | _, _ => []

/-- R158: the class of a status-block read that ended DONE. -/
def Manual.codeClass (m : Manual) : Option CodeClass :=
  match m.result with
  | .done data => if m.isStatus then some (Machine.codeClass (data.headD 0)) else none
  | _ => none

/-- R158: the error a manual transaction ended with. -/
def Manual.error (m : Manual) : Option BusError :=
  match m.result with
  | .error e _ => some e
  | _ => none

/-- R158: the count above 16 that a CHECK_ERROR was given for. -/
def Manual.count (m : Manual) : Option Byte :=
  match m.result with
  | .error _ c => c
  | _ => none

def ManualResult.num : ManualResult → Nat
  | .none => 0
  | .inProgress => 1
  | .done _ => 2
  | .error _ _ => 3

/-- R158: the manual result with what it returns, in one layout for every result: the result; kind, address and command, absent
with NONE; the data as a list, empty where there is none; class, error and count, each behind its presence bit. This layout, and
that the command of a PING is reported as present and 0, are the model's choice (log 41). -/
def Manual.wire (m : Manual) : List Wire :=
  let bit (x : Bool) (n : Nat) : Nat := if x then n else 0
  [.u8 m.result.num]
    ++ (if m.result = .none then [.u8 0, .u8 0, .u8 0, .u8 0] else [.u8 7, .u8 m.kind.num, .u8 m.addr.toNat, .u8 m.cmd.toNat])
    ++ .u8 m.data.length :: m.data.map (fun x => .u8 x.toNat)
    ++ [.u8 (bit m.codeClass.isSome 1 + bit m.error.isSome 2 + bit m.count.isSome 4),
      .u8 ((m.codeClass.map CodeClass.num).getD 0), .u8 ((m.error.map BusError.num).getD 0),
      .u8 ((m.count.map (·.toNat)).getD 0)]

/-- R158. One byte says whether a round is in progress and is the presence byte of its module: the model's choice (log 17). -/
def decideBusResult (s : State) : Decision :=
  let t := s.bus.txn
  s.accept
    ([.u8 s.bus.schedule.num, Wire.flag s.bus.round.isSome, .u8 ((s.bus.round.map BoomId.num).getD 0)]
      ++ [.u8 (if t.isSome then 7 else 0), Wire.flag (t.any (·.manual)), .u8 ((t.map (·.kind.num)).getD 0),
        .u8 ((t.map (·.addr.toNat)).getD 0)]
      ++ pollEndingWire (s.head .A).lastPoll ++ pollEndingWire (s.head .B).lastPoll ++ s.bus.manual.wire)

def execHeadBusResult (seq : Byte) (payload : List Byte) (s : State) : Host.Outcome State Fault Refusal :=
  .next (s.serveFixed seq 0x24 0 payload decideBusResult)

/-- R159; the reply says whether a transaction was killed. -/
def decideKill (s : State) : Decision :=
  match s.bus.txn with
  | some t => if t.manual then (s.endTransaction t (.error .killed none)).accept [.flag true] else s.accept [.flag false]
  | none => s.accept [.flag false]

def execHeadBusKill (seq : Byte) (payload : List Byte) (s : State) : Host.Outcome State Fault Refusal :=
  .next (s.serveFixed seq 0x25 0 payload decideKill)

end Sys2Proof.Machine
end

