-- ==== Sys2Proof/Machine/LinkRequests.lean ====
section
/-! DEFINITION. The requests of the link port (IDENTIFY, SET LINK, READ STATUS, READ EVENTS, RESET, a code that names no
request) and what the line does to it: discarded frames, gaps, the end of a reply, silence. -/
namespace Sys2Proof.Machine

/-! ## IDENTIFY, SET LINK -/

/-- R206. -/
def decideIdentify (s : State) : Decision :=
  s.accept
    [.u8 0x49, .u16 0x0240, .u8 0x01, .u8 Config.planCapacity, .u8 Config.queueCapacity, .u8 Config.recordCapacity,
      .u8 Config.sliceCapacity, .u8 Config.monitorCount, .u8 s.link.strap]

def execIdentify (seq : Byte) (payload : List Byte) (s : State) : Host.Outcome State Fault Refusal :=
  .next (s.serveFixed seq 0x01 0 payload decideIdentify)

/-- R200; the reply gives the timeout in force. -/
def decideSetLink (payload : List Byte) (s : State) : Decision :=
  let t := clampTimeout (u16At payload 0)
  ({ s with link := { s.link with timeout := t } } : State).accept [.u16 t]

def execSetLink (seq : Byte) (payload : List Byte) (s : State) : Host.Outcome State Fault Refusal :=
  .next (s.serveFixed seq 0x02 2 payload (decideSetLink payload))

/-! ## READ STATUS -/

/-- R198 item 1: link state (LIVE 0, SILENT 1), timeout, time since the last valid frame. The last valid frame is taken to be the
READ STATUS frame itself, so the time is 0: the model's choice (log 42). -/
def State.linkWire (s : State) : List Wire :=
  [.u8 (if s.link.live then 0 else 1), .u16 s.link.timeout, .u16 (min s.link.silence 65535)]

def CanopyFault.num : CanopyFault → Nat
  | .none => 0
  | .noResponse => 1
  | .channel => 2
  | .lowerTimeout => 3

/-- R103: the canopy items. That the elapsed times of the two confirm runs, one item of the rule's list, form one presence
group is the model's choice (log 17). -/
def State.canopyWire (s : State) : List Wire :=
  let c := s.canopy
  let elapsed (run : Option Timestamp) : Nat := (run.map (since s.now)).getD 0
  [.u8 c.state.num, .u8 c.fault.num]
    ++ [.u8 ((if c.setRun.isSome then 1 else 0) + (if c.lossRun.isSome then 2 else 0)), .u32 (elapsed c.setRun),
      .u32 (elapsed c.lossRun)]
    ++ Wire.opt16 (if c.state = .lowering then some c.lowerTimer else none)

/-- R122: a direction that may be none: 0, or 1 and 2 for the pair's two, the model's choice (log 17). -/
def dirWire : Option Dir → Wire
  | none => .u8 0
  | some d => .u8 (1 + d.num)

/-- R122: the coil output with its driving or pending direction. An OFF coil carries the direction 0, behind no presence byte:
the model's choice (log 43). -/
def Pair.coilWire (p : Pair) : List Wire :=
  match p.coil with
  | .off => [.u8 0, dirWire none]
  | .driving d => [.u8 1, dirWire (some d)]
  | .dead => [.u8 2, dirWire p.dir]

/-- R122: one pair. A disarmed monitor carries a count of 0 and a clear frozen mark, behind no presence byte: the model's choice
(log 43). -/
def State.pairWire (s : State) (i : PairId) : List Wire :=
  let p := s.pair i
  [dirWire p.dir, .u16 p.duty, .u16 p.applied] ++ p.coilWire ++ [.u16 p.dead, Wire.flag (s.gateOpen i)]
    ++ (match p.monitor with
      | .disarmed => [Wire.flag false, .u16 0, Wire.flag false]
      | .armed c _ _ => [Wire.flag true, .u16 c, Wire.flag (!p.counting)])

/-- R122: the valve driver and input items. A qualified level is 1 for ESTOP active, for a presence held and for any other switch
closed, and else 0: the model's choice (log 38). -/
def State.driversWire (s : State) : List Wire :=
  [Wire.flag s.trip] ++ allSwitches.map (fun i => Wire.flag (s.closed i)) ++ [Wire.flag s.horn]
    ++ (allPairs.map s.pairWire).flatten

/-- R171: the baseline and the last C of a setting, one group of optional values. -/
def SettingState.wire (x : SettingState) : List Wire :=
  [.u8 ((if x.baseline.isSome then 1 else 0) + (if x.lastC.isSome then 2 else 0)), .u16 (x.baseline.getD 0),
    .u16 (x.lastC.getD 0)]

/-- R171: the last-three marks as bits 0 to 2, or the agreement run in fixed mode, in one byte: the model's choice (log 17). -/
def Sensing.markByte (x : Sensing) : Nat :=
  if x.hop then (if x.s1.mark then 1 else 0) + (if x.s2.mark then 2 else 0) + (if x.s3.mark then 4 else 0) else x.agree

/-- R171: the cartridge sensing items of a boom. -/
def Sensing.wire (x : Sensing) : List Wire :=
  [Wire.flag x.hop] ++ x.s1.wire ++ x.s2.wire ++ x.s3.wire
    ++ [.u8 x.markByte, Wire.flag x.present, .u16 x.passages.toNat, .u8 x.magazine]

/-- R198: READ STATUS, in its four parts. -/
def State.statusWire (s : State) : List Wire :=
  s.linkWire ++ s.canopyWire ++ s.driversWire ++ (s.sensing .A).wire ++ (s.sensing .B).wire

def decideReadStatus (s : State) : Decision := s.accept s.statusWire

def execReadStatus (seq : Byte) (payload : List Byte) (s : State) : Host.Outcome State Fault Refusal :=
  .next (s.serveFixed seq 0x03 0 payload decideReadStatus)

/-! ## READ EVENTS -/

/-- R199, R196: the set is copied into the reply, whose summary is formed before the set is cleared. A frame of the wrong
length is refused with the set as it was. -/
def State.readEvents (s : State) (seq : Byte) (payload : List Byte) : State :=
  if s.takesFrames && payload.length ≤ 250 then
    let s1 := s.frameTaken
    if payload.length = 0 then
      ({ s1 with events := 0 } : State).replyWith seq 0x04 s1.summary (.accepted (eventBytes s1.events))
    else s1.reply seq 0x04 (.refused .badLength 0)
  else s

def execReadEvents (seq : Byte) (payload : List Byte) (s : State) : Host.Outcome State Fault Refusal :=
  .next (s.readEvents seq payload)

/-! ## RESET and codes that name no request -/

/-- R206: accepted in every state; the reply goes first, and until the reset the port takes no frame. -/
def decideReset (s : State) : Decision :=
  ({ s with link := { s.link with resetStage := .replying } } : State).accept []

def execReset (seq : Byte) (payload : List Byte) (s : State) : Host.Outcome State Fault Refusal :=
  .next (s.serveFixed seq 0x05 0 payload decideReset)

/-- R195: the codes that name a request are 0x01 to 0x2B. -/
def namesRequest (code : Byte) : Bool := 0x01 ≤ code.toNat && code.toNat ≤ 0x2B

/-- R195 step 2: refused with UNKNOWN_CODE; a code that names a request is no such command (log 33). -/
def execUnknownCode (seq code : Byte) (payload : List Byte) (s : State) : Host.Outcome State Fault Refusal :=
  .next (if namesRequest code then s else s.serve seq code payload (fun t => t.refuse .unknownCode))

/-! ## The line -/

/-- The receiver takes a state (R194). -/
def State.setReceiver (s : State) (r : Receiver) : State := { s with link := { s.link with receiver := r } }

/-- R194: bytes whose frame the receiver discards; bytes that would complete a valid frame are no such command (log 33). -/
def execFrameDiscarded (bytes : List Byte) (s : State) : Host.Outcome State Fault Refusal :=
  .next
    (if s.takesFrames then
      let x := s.link.receiver.feed bytes
      if x.2.isEmpty then s.setReceiver x.1 else s
    else s)

/-- R194: a gap longer than 5 ms discards the frame, and the byte that ends it is examined as a possible SYNC. -/
def execInterByteGap (byte : Byte) (s : State) : Host.Outcome State Fault Refusal :=
  .next (if s.takesFrames then s.setReceiver (Receiver.hunting.take byte).receiver else s)

/-- R194, R206: the last byte of a reply leaves the line; after a RESET's reply the warm reset is due. -/
def State.replySent (s : State) : State :=
  { s with
    link :=
      { s.link with
        sending := false
        resetStage := if s.link.resetStage = .replying then .due else s.link.resetStage } }

def execReplySent (s : State) : Host.Outcome State Fault Refusal := .next (if s.link.sending then s.replySent else s)

/-- R200: the silence timer reaches the timeout while the link is LIVE. -/
def execLinkSilent (s : State) : Host.Outcome State Fault Refusal :=
  .next (if s.phase = .running ∧ s.link.live ∧ s.link.timeout ≠ 0 then s.linkSilent else s)

end Sys2Proof.Machine
end

