-- ==== Sys2Proof/Machine/PlanRequests.lean ====
section
/-! DEFINITION. The requests of the plan table and the job queues (chapter 1): LOAD PLAN, DROP PLAN, READ PLAN with its
directory, QUEUE JOB, CANCEL JOB, READ QUEUE. -/
namespace Sys2Proof.Machine

/-! ## The plan table -/

/-- R4: a plan takes the position of its id, over a stored plan of the same id. -/
def insertPlan (p : HolePlan) : List HolePlan → List HolePlan
  | [] => [p]
  | x :: xs => if p.id < x.id then p :: x :: xs else if p.id = x.id then p :: xs else x :: insertPlan p xs

/-- R5: a plan is removed; the table closes up in id order. -/
def dropPlan (id : Nat) (plans : List HolePlan) : List HolePlan := plans.filter (fun p => p.id != id)

/-- R4: an accepted LOAD PLAN: plan id, added (0) or replaced (1), plans stored. -/
def State.loadPlan (s : State) (p : HolePlan) (replaced : Bool) : Decision :=
  let s1 : State := { s with plans := insertPlan p s.plans }
  s1.accept [.u8 p.id, .flag replaced, .u8 s1.plans.length]

/-- R3, R4. -/
def decideLoadPlan (payload : List Byte) (s : State) : Decision :=
  let p := planOf payload
  match p.firstBad with
  | some n => s.badField n
  | none =>
    if (findPlan s.plans p.id).isSome then
      if s.refs p.id > 0 then s.refuse .planInUse else s.loadPlan p true
    else if s.plans.length < Config.planCapacity then s.loadPlan p false
    else s.refuse .planTableFull

/-- R5. -/
def decideDropPlan (payload : List Byte) (s : State) : Decision :=
  let id := byteAt payload 0
  if id = 0 then s.badField 1
  else if (findPlan s.plans id).isNone then s.refuse .noPlan
  else if s.refs id > 0 then s.refuse .planInUse
  else
    let s1 : State := { s with plans := dropPlan id s.plans }
    s1.accept [.u8 id, .u8 s1.plans.length]

/-- R8: the directory. -/
def State.planDirectory (s : State) : List Wire :=
  .u8 s.plans.length :: (s.plans.map (fun p => [Wire.u8 p.id, .u8 (s.refs p.id)])).flatten

/-- R7, R8. -/
def decideReadPlan (payload : List Byte) (s : State) : Decision :=
  let id := byteAt payload 0
  if id = 0 then s.accept s.planDirectory
  else
    match findPlan s.plans id with
    | some p => s.accept (planWire p ++ [.u8 (s.refs id)])
    | none => s.refuse .noPlan

def execLoadPlan (seq : Byte) (payload : List Byte) (s : State) : Host.Outcome State Fault Refusal :=
  .next (s.serveFixed seq 0x06 85 payload (decideLoadPlan payload))

def execDropPlan (seq : Byte) (payload : List Byte) (s : State) : Host.Outcome State Fault Refusal :=
  .next (s.serveFixed seq 0x07 1 payload (decideDropPlan payload))

def execReadPlan (seq : Byte) (payload : List Byte) (s : State) : Host.Outcome State Fault Refusal :=
  .next (s.serveFixed seq 0x08 1 payload (decideReadPlan payload))

/-- R8: READ PLAN with plan id 0. -/
def execReadPlanDirectory (seq : Byte) (s : State) : Host.Outcome State Fault Refusal :=
  .next (s.serveFixed seq 0x08 1 [0] (decideReadPlan [0]))

/-! ## The job queues -/

/-- R12 steps 2 to 6: the refusal of a QUEUE JOB for boom `b`, if any. -/
def State.jobRefusal (s : State) (b : BoomId) (j : Job) : Option (Reason × Nat) :=
  if j.planId = 0 then some (.badField, 3)
  else
    match findPlan s.plans j.planId with
    | none => some (.noPlan, 0)
    | some p =>
      if (s.boom b).queue.length ≥ Config.queueCapacity then some (.queueFull, 0)
      else if (s.boom b).jobs.any (fun x => x.tag == j.tag) then some (.duplicateTag, 0)
      else (j.firstBad p).map (fun n => (.badField, n))

/-- R13: the job joins the tail; an engine in IDLE goes to READY. -/
def State.appendJob (s : State) (b : BoomId) (j : Job) : State :=
  let s1 := s.setQueue b ((s.boom b).queue ++ [j])
  if (s.engine b).state = .idle then s1.goto b .ready .none else s1

/-- R12, R13; position and jobs queued are equal, since the job joins the tail. -/
def decideQueueJob (payload : List Byte) (b : BoomId) (s : State) : Decision :=
  let j := jobOf payload
  match s.jobRefusal b j with
  | some (r, n) => ⟨s, .refused r n⟩
  | none =>
    let s1 := s.appendJob b j
    let n := (s1.boom b).queue.length
    s1.accept [.u8 b.num, .u16 j.tag, .u8 n, .u8 n]

/-- R14: a job leaves the queue; an engine in READY whose queue is then empty goes to IDLE. -/
def State.cancelJob (s : State) (b : BoomId) (tag : Nat) : State :=
  let s1 := s.setQueue b ((s.boom b).queue.filter (fun j => j.tag != tag))
  if (s1.boom b).queue.isEmpty ∧ (s.engine b).state = .ready then s1.goto b .idle .none else s1

/-- R14. -/
def decideCancelJob (payload : List Byte) (b : BoomId) (s : State) : Decision :=
  let tag := u16At payload 1
  if (s.boom b).active.any (fun j => j.tag == tag) then s.refuse .wrongState
  else if (s.boom b).queue.all (fun j => j.tag != tag) then s.refuse .noJob
  else
    let s1 := s.cancelJob b tag
    s1.accept [.u8 b.num, .u16 tag, .u8 (s1.boom b).queue.length]

/-- R15: the active place, six optional values (R198), the base in two bytes (log 17). -/
def State.activeWire (s : State) (b : BoomId) : List Wire :=
  match (s.boom b).active with
  | none => [.u8 0, .u16 0, .u8 0, .u16 0, .u16 0, .u16 0, .u16 0]
  | some j =>
    let v := s.activeValues b
    [.u8 0x3F, .u16 j.tag, .u8 j.planId, .u16 v.holeLength, .u16 v.target, .u16 v.limit, .u16 v.base]

/-- R15: one queued job. The base override takes the two bytes that the job record of 12.4 gives it, which is the model's choice
(log 17). -/
def jobWire (position : Nat) (j : Job) : List Wire :=
  let bit (x : Option Nat) (i : Nat) : Nat := if x.isSome then i else 0
  [.u8 position, .u16 j.tag, .u8 j.planId, .u8 (bit j.holeLength 1 + bit j.torqueTarget 2 + bit j.base 4),
    .u16 (j.holeLength.getD 0), .u16 (j.torqueTarget.getD 0), .u16 (j.base.getD 0)]

/-- R15: the queued jobs, oldest first, with their positions. -/
def queueWire : Nat → List Job → List Wire
  | _, [] => []
  | n, j :: js => jobWire n j ++ queueWire (n + 1) js

/-- R15. -/
def decideReadQueue (b : BoomId) (s : State) : Decision :=
  s.accept (s.activeWire b ++ .u8 (s.boom b).queue.length :: queueWire 1 (s.boom b).queue)

def execQueueJob (seq : Byte) (payload : List Byte) (s : State) : Host.Outcome State Fault Refusal :=
  .next (s.serveFixed seq 0x09 11 payload (withBoom (byteAt payload 0) (decideQueueJob payload)))

def execCancelJob (seq : Byte) (payload : List Byte) (s : State) : Host.Outcome State Fault Refusal :=
  .next (s.serveFixed seq 0x0A 3 payload (withBoom (byteAt payload 0) (decideCancelJob payload)))

def execReadQueue (seq : Byte) (payload : List Byte) (s : State) : Host.Outcome State Fault Refusal :=
  .next (s.serveBoom seq 0x0B payload decideReadQueue)

end Sys2Proof.Machine
end

