-- ==== Sys2Proof/Machine/RecordRequests.lean ====
section
/-! DEFINITION. The record store's requests (R189 to R191) with the record pages of 12.4, and the five requests of the
calibration store (R202 to R204), decided in Calibration.lean. -/
namespace Sys2Proof.Machine

/-! ## Record pages -/

/-- R185, 12.4: the outcome codes. -/
def JobOutcome.num : JobOutcome → Nat
  | .good => 1
  | .torqueLow => 2
  | .overTorque => 3
  | .torqueSkipped => 4
  | .failed => 5

def SliceClass.num : SliceClass → Nat
  | .void => 0
  | .soft => 1
  | .firm => 2
  | .hard => 3

/-- 12.4: the presence byte of a record header. -/
def InstRecord.presence (r : InstRecord) : Nat :=
  (if r.drillEnd.isSome then 1 else 0) + (if r.mixStart.isSome then 2 else 0) + (if r.assigned.isSome then 4 else 0)
    + (if r.mixQ.isSome then 8 else 0) + (if r.torque.isSome then 16 else 0)

def stampWire (t : Option Timestamp) : Wire := .u32 ((t.map (·.toNat)).getD 0)

/-- R190, 12.4: the header of a record, bytes 0 to 38. -/
def InstRecord.header (r : InstRecord) : List Wire :=
  [.u8 r.boom.num, .u16 r.tag, .u8 r.planId, .u8 ((r.outcome.map JobOutcome.num).getD 0), .u8 (faultNum r.fault),
    .u8 r.flags.num, .u8 r.presence, .u32 r.start.toNat, stampWire r.drillEnd, stampWire r.mixStart, stampWire r.endTime,
    .u16 r.finalDepth, .u8 r.retries, .u8 r.hard, .u16 r.voidMm, .u16 r.softMm, .u8 (r.assigned.getD 0),
    .u8 (r.passed.getD 0), .u16 (r.mixQ.getD 0), .u16 (r.torque.getD 0), .u8 r.log.length]

/-- 12.4: one slice entry, 6 bytes. -/
def SliceEntry.wire (e : SliceEntry) : List Wire := [.u16 (e.cls.num * 16384 + e.q % 4096), .u16 e.se, .u16 e.time]

/-- R189: the page count of a record of S slices. -/
def InstRecord.pages (r : InstRecord) : Nat := 1 + (r.log.length + 31) / 32

/-- R190: slice page `p`, from 1 onward. -/
def InstRecord.slicePage (r : InstRecord) (p : Nat) : List Wire :=
  let es := (r.log.drop (32 * (p - 1))).take 32
  .u8 (32 * (p - 1)) :: .u8 es.length :: (es.map SliceEntry.wire).flatten

/-- R189, R190: page `p` of a record. -/
def State.recordPage (s : State) (r : InstRecord) (p : Nat) : List Wire :=
  [.u16 ((r.number.map (·.toNat)).getD 0), .u8 p, .u8 r.pages, .u8 s.store.records.length, .u8 s.store.room.length]
    ++ (if p = 0 then r.header else r.slicePage p)

/-- R189. -/
def decideFetch (payload : List Byte) (s : State) : Decision :=
  match s.store.records with
  | [] => s.refuse .empty
  | r :: _ => if byteAt payload 0 ≥ r.pages then s.badField 1 else s.accept (s.recordPage r (byteAt payload 0))

def execFetchRecord (seq : Byte) (payload : List Byte) (s : State) : Host.Outcome State Fault Refusal :=
  .next (s.serveFixed seq 0x26 1 payload (decideFetch payload))

/-! ## RELEASE RECORD -/

/-- R191, R188: the oldest record is removed, and the head of the room queue is filed. -/
def State.release (s : State) : State :=
  let s1 : State := { s with store := { s.store with records := s.store.records.drop 1 } }
  match s.store.room with
  | [] => s1
  | b :: rest => ({ s1 with store := { s1.store with room := rest } } : State).file b

/-- R191; the reply gives the number released, the records stored, and the number given to a record filed by the release. -/
def decideRelease (payload : List Byte) (s : State) : Decision :=
  match s.store.records with
  | [] => s.refuse .empty
  | r :: _ =>
    let n := u16At payload 0
    if r.number ≠ some (BitVec.ofNat 16 n) then s.badField 1
    else
      let s1 := s.release
      s1.accept
        ([.u16 n, .u8 s1.store.records.length]
          ++ Wire.opt16 (if s.store.room.isEmpty then none else some s.store.next.toNat))

def execReleaseRecord (seq : Byte) (payload : List Byte) (s : State) : Host.Outcome State Fault Refusal :=
  .next (s.serveFixed seq 0x27 2 payload (decideRelease payload))

/-! ## The calibration store -/

def execCalibrate (seq : Byte) (payload : List Byte) (s : State) : Host.Outcome State Fault Refusal :=
  .next (s.serveFixed seq 0x28 192 payload (decideCalibrate payload))

def execReadCalibration (seq : Byte) (payload : List Byte) (s : State) : Host.Outcome State Fault Refusal :=
  .next (s.serveFixed seq 0x29 0 payload decideReadCalibration)

def execStoreCalibration (seq : Byte) (payload : List Byte) (s : State) : Host.Outcome State Fault Refusal :=
  .next (s.serveFixed seq 0x2A 0 payload decideStore)

def execRecallCalibration (seq : Byte) (payload : List Byte) (s : State) : Host.Outcome State Fault Refusal :=
  .next (s.serveFixed seq 0x2B 0 payload decideRecall)

end Sys2Proof.Machine
end

