-- ==== Sys2Proof/Machine/RigEvents.lean ====
section
/-! DEFINITION. The events of the part itself and of the rig: resets, the store's write, the scan, the switches, pickups and
encoders, the pairs' timers, the engines' timers, the arbiter's and the canopy's, the sensing blocks and the head bus. An
expiry command is the expiry itself (log 3): it is taken where its timer runs, which then stands at its limit; a motion
monitor's is taken only where its count stands at 0 (R121). While the power-on load goes on, no block runs and only lines change
(log 24). -/
namespace Sys2Proof.Machine

/-- R205: the blocks run. -/
def State.running (s : State) : Bool := s.phase == .running

/-- R205: an event of a block that runs only after the power-on load. -/
def State.whenRunning (s : State) (f : State → State) : State := if s.running then f s else s

/-! ## Resets and the store (R203, R205, R206) -/

def execPowerOnReset (bds1 bds0 : Bool) (s : State) : Host.Outcome State Fault Refusal := .next (s.powerOn bds1 bds0)

def execPowerOnLoadComplete (s : State) : Host.Outcome State Fault Refusal :=
  .next (if s.running then s else s.loadComplete)

/-- R206: the warm reset, which waits for a write in progress (log 31). -/
def execWarmReset (s : State) : Host.Outcome State Fault Refusal :=
  .next
    (s.whenRunning fun t => ({ t with link := { t.link with sending := false, resetStage := .due } } : State).resetIfDue)

/-- R203; a warm reset that awaits the write is performed in the event of its end (R206). -/
def execStoreWriteConfirmed (s : State) : Host.Outcome State Fault Refusal :=
  .next
    (s.whenRunning fun t => match t.cal.writing with
      | some vals => (t.storeConfirmed vals).resetIfDue
      | none => t)

def execStoreWriteTimeout (s : State) : Host.Outcome State Fault Refusal :=
  .next (s.whenRunning fun t => if t.cal.writing.isSome then t.storeFailed.resetIfDue else t)

/-! ## The scan (R125) -/

/-- R125, R124: a group is published as a scan record of the scan in progress. -/
def State.publishScan (s : State) : ScanSample → State
  | .g0 rot feed later => (s.takeGroup 0).publishBoom .A rot feed later
  | .g1 rot feed later => (s.takeGroup 1).publishBoom .B rot feed later
  | .g2 pump canopy => (s.takeGroup 2).publishCanopy pump canopy
  | .g3 oil => (s.takeGroup 3).publishOil oil

def execScanGroupPublished (sample : ScanSample) (s : State) : Host.Outcome State Fault Refusal :=
  .next (s.whenRunning fun t => t.publishScan sample)

/-! ## Switches (R112, R114, R116, R117) -/

/-- R112: the trip latch is set: the gates close, the engines hold, the jogs end, the canopy acts. -/
def State.latchTrip (s : State) : State :=
  if s.trip then s
  else
    let s1 := ({ s with trip := true } : State).settleAll
    let s2 := (s1.holdCause .A .trip).holdCause .B .trip
    (((s2.endJog .A).endJog .B).canopyTrip).raise .tripLatched

/-- R114: a presence change: the gates, and on a release the hold cause. -/
def State.presenceChanged (s : State) (b : BoomId) (held : Bool) : State :=
  let s1 := s.settleBoom b
  if held then s1 else s1.holdCause b .presence

/-- R135: a closing of the home switch zeroes the feed position; the engine takes it. -/
def State.homeChanged (s : State) (b : BoomId) (closed : Bool) : State :=
  if closed then (s.moveFeed b 0).homeClosed b else s

/-- R120, R168: an inserter switch change: the INS monitor, and on a closing the engine. -/
def State.inserterChanged (s : State) (b : BoomId) (closed : Bool) : State :=
  let s1 := s.respond (.boom b .ins) none
  if closed then s1.inserterClosed b else s1

/-- R117: a qualified change is handed to its users. -/
def State.switchChanged (s : State) (i : SwitchId) (level : Bool) : State :=
  match i with
  | .estop => if level then s.latchTrip else s
  | .prs b => s.presenceChanged b level
  | .home b => s.homeChanged b level
  | .iend b => s.inserterChanged b level
  | .ihome b => s.inserterChanged b level
  | .clow => s.loweredSwitch level

/-- R116: the qualified level of a switch changes to the level its line has held. -/
def State.qualify (s : State) (i : SwitchId) : State :=
  let level := !(s.switch i).level
  (s.setSwitch i { line := level, level := level, run := none }).switchChanged i level

def execSwitchQualifiedChange (i : SwitchId) (s : State) : Host.Outcome State Fault Refusal :=
  .next (s.whenRunning fun t => t.qualify i)

/-- R116: a line takes a level: a run begins where it differs from the qualified level, and is discarded where it returns. -/
def SwitchInput.take (x : SwitchInput) (level : Bool) : SwitchInput :=
  { x with
    line := level
    run := if level = x.level then none else if x.run.isSome then x.run else some 0 }

/-- R116; before the load has ended no run begins. -/
def execSwitchLineChange (i : SwitchId) (level : Bool) (s : State) : Host.Outcome State Fault Refusal :=
  .next (s.setSwitch i (if s.running then (s.switch i).take level else { s.switch i with line := level }))

/-! ## Rotation pickups (R118, R136) -/

/-- R118, R136: a qualified pulse: the ROT monitor, the pulse count, the engine's mix count and the logger's tally. -/
def State.pulse (s : State) (b : BoomId) : State :=
  let m := s.motion b
  let s1 := s.setMotion b
    { m with pulses := m.pulses + 1, pickup := { line := true, level := true } }
  ((s1.respond (.boom b .rot) none).tallyPulse b).mixPulse b

/-- R118: the pickup's line stands at `active`, its qualified level at the other, and the qualification run is in progress. -/
def Pickup.runs (x : Pickup) (active : Bool) : Bool := x.line == active && x.level != active && x.run.isSome

/-- R118: a pulse qualifies at the end of a run of an active line, while the qualified level is inactive; without such a run
there is none (log 3). -/
def execRotationPulse (b : BoomId) (s : State) : Host.Outcome State Fault Refusal :=
  .next (s.whenRunning fun t => if (t.motion b).pickup.runs true then t.pulse b else t)

/-- R118: the line takes a level: a run begins where it differs from the qualified level, and is discarded where it
returns. -/
def Pickup.take (x : Pickup) (active : Bool) : Pickup :=
  { x with
    line := active
    run := if active = x.level then none else if x.run.isSome then x.run else some 0 }

def execRotationPickupLineChange (b : BoomId) (active : Bool) (s : State) : Host.Outcome State Fault Refusal :=
  let m := s.motion b
  .next (s.setMotion b { m with pickup := if s.running then m.pickup.take active else { m.pickup with line := active } })

/-- R118: the qualified level returns to inactive at the end of a run of an inactive line. -/
def execRotationPickupReturn (b : BoomId) (s : State) : Host.Outcome State Fault Refusal :=
  .next
    (s.whenRunning fun t =>
      if (t.motion b).pickup.runs false then t.setMotion b { t.motion b with pickup := {} } else t)

/-! ## Depth encoders (R134) -/

/-- R134: the place of a line state in the up sequence, in which I leads Q: (0,0), (1,0), (1,1), (0,1). -/
def quadrature (i q : Bool) : Nat :=
  match i, q with
  | false, false => 0
  | true, false => 1
  | true, true => 2
  | false, true => 3

/-- R134: the direction of a change of the two lines; both lines at once, or none, is no count. -/
def encoderDir (i q i' q' : Bool) : Option Dir :=
  let d := (quadrature i' q' + 4 - quadrature i q) % 4
  if d = 1 then some .first else if d = 3 then some .second else none

/-- R134: a count applied to the feed position, unless it would leave 0 to 3000. -/
def countPos (pos : Nat) : Dir → Option Nat
  | .first => if pos < 3000 then some (pos + 1) else none
  | .second => if pos > 0 then some (pos - 1) else none

/-- R120: a count in the commanded direction is a response of the FEED monitor. -/
def State.feedResponse (s : State) (b : BoomId) (d : Dir) : State :=
  if (s.pair (.boom b .feed)).dir = some d then s.respond (.boom b .feed) none else s

/-- R134: the encoder lines are read. -/
def State.encoder (s : State) (b : BoomId) (i q : Bool) : State :=
  let m := s.motion b
  let s1 := s.setMotion b { m with encI := i, encQ := q }
  match encoderDir m.encI m.encQ i q with
  | none => s1
  | some d =>
    match countPos m.feedPos d with
    | none => s1
    | some pos => (s1.moveFeed b pos).feedResponse b d

/-- R134; before the load has ended the lines change and nothing counts (R145). -/
def execEncoderCount (b : BoomId) (lineI lineQ : Bool) (s : State) : Host.Outcome State Fault Refusal :=
  .next
    (if s.running then s.encoder b lineI lineQ
    else s.setMotion b { s.motion b with encI := lineI, encQ := lineQ })

/-! ## The pairs' timers (R108, R121) -/

/-- R107, R108: the dead-time timer becomes idle, and the pair is decided afresh. -/
def execDeadTimeExpiry (p : PairId) (s : State) : Host.Outcome State Fault Refusal :=
  .next
    (s.whenRunning fun t =>
      if (t.pair p).dead = 0 ∧ (t.pair p).coil ≠ .dead then t
      else (t.setPair p { t.pair p with dead := 0 }).settlePair p)

/-- R121: the expiry is handed to the pair's owner. -/
def State.ownerExpiry (s : State) : PairId → State
  | .boom b f => s.engineExpiry b f
  | .canopy => s.canopyExpiry

/-- R121: a monitor that expires is disarmed and its owner is told. An expiry that finds the monitor reloaded, by an ARM or a
response taken before it, or not counting changes nothing. -/
def execMotionMonitorExpiry (p : PairId) (s : State) : Host.Outcome State Fault Refusal :=
  .next
    (s.whenRunning fun t =>
      if (t.pair p).expires then (t.setPair p { t.pair p with monitor := .disarmed }).ownerExpiry p else t)

/-! ## The engines' timers (R27, R34, R36, R38, R53) -/

/-- R35: the resin clock reaches the mix limit; in any state but MIX the expiry is ignored (R34). -/
def State.mixLimit (s : State) (b : BoomId) : State :=
  if (s.engine b).state = .mix then
    (s.setEngine b { s.engine b with resinClock := max (s.engine b).resinClock (s.activePlan b).mixLimit }).endMix b true
  else s

def execMixLimitExpiry (b : BoomId) (s : State) : Host.Outcome State Fault Refusal :=
  .next (s.whenRunning fun t => t.mixLimit b)

/-- R36: the resin clock reaches the gel time; in any state but GEL_HOLD the expiry is ignored (R34). -/
def State.gelTime (s : State) (b : BoomId) : State :=
  if (s.engine b).state = .gelHold then
    (s.setEngine b { s.engine b with resinClock := max (s.engine b).resinClock (s.activePlan b).gelTime }).windowTest b
  else s

def execGelTimeExpiry (b : BoomId) (s : State) : Host.Outcome State Fault Refusal :=
  .next (s.whenRunning fun t => t.gelTime b)

/-- R27: the drill time limit, in ms. -/
def HolePlan.drillLimitMs (p : HolePlan) : Nat := p.drillLimit * 1000

/-- R27: the drill timer counts. -/
def State.drillCounts (s : State) (b : BoomId) : Bool :=
  ((s.engine b).state == .collar || (s.engine b).state == .drill) && s.granted (.boom b)

/-- R27: the drill timer reaches the limit while it counts. -/
def State.drillLimitReached (s : State) (b : BoomId) : State :=
  if s.drillCounts b then
    (s.setEngine b { s.engine b with drillTimer := max (s.engine b).drillTimer (s.activePlan b).drillLimitMs }).enterFaulted b
      .stepTimeout
  else s

def execDrillTimeLimit (b : BoomId) (s : State) : Host.Outcome State Fault Refusal :=
  .next (s.whenRunning fun t => t.drillLimitReached b)

/-- R37: the torque timer counts. -/
def State.torqueCounts (s : State) (b : BoomId) : Bool := (s.engine b).state == .torque && s.granted (.boom b)

/-- R38: the torque timer reaches the plan's limit while it counts. -/
def State.torqueLimitReached (s : State) (b : BoomId) : State :=
  if s.torqueCounts b then
    (s.setEngine b { s.engine b with torqueTimer := max (s.engine b).torqueTimer (s.activePlan b).torqueTime }).endTorque b
      .torqueLow (s.engine b).highest
  else s

def execTorqueTimeLimit (b : BoomId) (s : State) : Host.Outcome State Fault Refusal :=
  .next (s.whenRunning fun t => t.torqueLimitReached b)

/-- R53: a jog's duration expires. -/
def execJogDurationExpiry (b : BoomId) (s : State) : Host.Outcome State Fault Refusal :=
  .next (s.whenRunning fun t => t.endJog b)

/-! ## Starvation and lowering (R89, R99) -/

def execFlowStarved (who : Requester) (s : State) : Host.Outcome State Fault Refusal :=
  .next (s.whenRunning fun t => t.starve who)

/-- R99: the lowering timer counts while the lower request is granted. -/
def State.lowerCounts (s : State) : Bool := s.canopy.state == .lowering && s.granted .canopy

/-- R99: the lowering timer reaches the canopy lower limit. -/
def State.lowerLimitReached (s : State) : State :=
  if s.lowerCounts then
    ({ s with canopy := { s.canopy with lowerTimer := max s.canopy.lowerTimer s.cal.lowerLimit } } : State).canopyFail
      .lowerTimeout
  else s

def execCanopyLowerTimeout (s : State) : Host.Outcome State Fault Refusal :=
  .next (s.whenRunning fun t => t.lowerLimitReached)

/-! ## Cartridge sensing (R162 to R166) -/

def execCartridgeMeasurementEnd (b : BoomId) (cycles : Nat) (s : State) : Host.Outcome State Fault Refusal :=
  .next (s.whenRunning fun t => t.measurementEnd b cycles)

/-! ## The head bus (R149, R151 to R153) -/

/-- R151: the poll timer expires and is reloaded; a round begins if the schedule is POLLING and none is in progress. -/
def State.pollExpiry (s : State) : State :=
  let s1 := s.loadPollTimer
  if s.bus.schedule = .polling ∧ s.bus.round = none then s1.beginRound else s1

def execPollTimerExpiry (s : State) : Host.Outcome State Fault Refusal := .next (s.whenRunning State.pollExpiry)

/-- R147 to R149, R152: a transaction ends DONE, NO_ACK or CHECK_ERROR; bytes that do not reach the end of a READ BLOCK are
no ending (log 33). -/
def State.headEnd (s : State) (e : BusEnding) : State :=
  match s.bus.txn with
  | none => s
  | some t =>
    match (t.receive e).ending e with
    | some x => s.endTransaction (t.receive e) x
    | none => s

def execHeadTransactionEnd (ending : BusEnding) (s : State) : Host.Outcome State Fault Refusal :=
  .next (s.whenRunning fun t => t.headEnd ending)

/-- R149: a partner has held the clock low for more than 35 ms. -/
def State.headTimeout (s : State) : State :=
  match s.bus.txn with
  | none => s
  | some t => s.endTransaction t (.error .timeout none)

def execHeadBusTimeout (s : State) : Host.Outcome State Fault Refusal := .next (s.whenRunning State.headTimeout)

/-- R153: the age of a module's data passes the staleness limit. Data whose age does not exceed it stays fresh: a publication
taken first has put the age back to 0. -/
def execHeadDataStale (b : BoomId) (s : State) : Host.Outcome State Fault Refusal :=
  .next (s.whenRunning fun t => if t.isStale b then t.setStale b true else t)

end Sys2Proof.Machine
end

