-- ==== Sys2Proof/Machine/Dispatch.lean ====
section
/-! DEFINITION. One arm per command, each a direct call of its meaning. -/
namespace Sys2Proof.Machine

def exec (i : Instr) (s : State) : Host.Outcome State Fault Refusal :=
  match i with
  | .powerOnReset bds1 bds0 => Sys2Proof.Machine.execPowerOnReset bds1 bds0 s
  | .powerOnLoadComplete => Sys2Proof.Machine.execPowerOnLoadComplete s
  | .warmReset => Sys2Proof.Machine.execWarmReset s
  | .frameDiscarded bytes => Sys2Proof.Machine.execFrameDiscarded bytes s
  | .interByteGap byte => Sys2Proof.Machine.execInterByteGap byte s
  | .unknownCode seq code payload => Sys2Proof.Machine.execUnknownCode seq code payload s
  | .linkSilent => Sys2Proof.Machine.execLinkSilent s
  | .identify seq payload => Sys2Proof.Machine.execIdentify seq payload s
  | .setLink seq payload => Sys2Proof.Machine.execSetLink seq payload s
  | .readStatus seq payload => Sys2Proof.Machine.execReadStatus seq payload s
  | .readEvents seq payload => Sys2Proof.Machine.execReadEvents seq payload s
  | .reset seq payload => Sys2Proof.Machine.execReset seq payload s
  | .loadPlan seq payload => Sys2Proof.Machine.execLoadPlan seq payload s
  | .dropPlan seq payload => Sys2Proof.Machine.execDropPlan seq payload s
  | .readPlan seq payload => Sys2Proof.Machine.execReadPlan seq payload s
  | .readPlanDirectory seq => Sys2Proof.Machine.execReadPlanDirectory seq s
  | .queueJob seq payload => Sys2Proof.Machine.execQueueJob seq payload s
  | .cancelJob seq payload => Sys2Proof.Machine.execCancelJob seq payload s
  | .readQueue seq payload => Sys2Proof.Machine.execReadQueue seq payload s
  | .start seq payload => Sys2Proof.Machine.execStart seq payload s
  | .hold seq payload => Sys2Proof.Machine.execHold seq payload s
  | .resume seq payload => Sys2Proof.Machine.execResume seq payload s
  | .abort seq payload => Sys2Proof.Machine.execAbort seq payload s
  | .park seq payload => Sys2Proof.Machine.execPark seq payload s
  | .unpark seq payload => Sys2Proof.Machine.execUnpark seq payload s
  | .boltLoaded seq payload => Sys2Proof.Machine.execBoltLoaded seq payload s
  | .clearFault seq payload => Sys2Proof.Machine.execClearFault seq payload s
  | .jog seq payload => Sys2Proof.Machine.execJog seq payload s
  | .readBoom seq payload => Sys2Proof.Machine.execReadBoom seq payload s
  | .magazineLoaded seq payload => Sys2Proof.Machine.execMagazineLoaded seq payload s
  | .canopyRaise seq payload => Sys2Proof.Machine.execCanopyRaise seq payload s
  | .canopyLower seq payload => Sys2Proof.Machine.execCanopyLower seq payload s
  | .clearTrip seq payload => Sys2Proof.Machine.execClearTrip seq payload s
  | .setPumpBudget seq payload => Sys2Proof.Machine.execSetPumpBudget seq payload s
  | .readFlow seq payload => Sys2Proof.Machine.execReadFlow seq payload s
  | .readChannels seq payload => Sys2Proof.Machine.execReadChannels seq payload s
  | .restoreChannel seq payload => Sys2Proof.Machine.execRestoreChannel seq payload s
  | .setMonitor seq payload => Sys2Proof.Machine.execSetMonitor seq payload s
  | .readMonitors seq payload => Sys2Proof.Machine.execReadMonitors seq payload s
  | .clearMonitorLatch seq payload => Sys2Proof.Machine.execClearMonitorLatch seq payload s
  | .headBusPause seq payload => Sys2Proof.Machine.execHeadBusPause seq payload s
  | .headBusResume seq payload => Sys2Proof.Machine.execHeadBusResume seq payload s
  | .headBusTransact seq payload => Sys2Proof.Machine.execHeadBusTransact seq payload s
  | .headBusResult seq payload => Sys2Proof.Machine.execHeadBusResult seq payload s
  | .headBusKill seq payload => Sys2Proof.Machine.execHeadBusKill seq payload s
  | .fetchRecord seq payload => Sys2Proof.Machine.execFetchRecord seq payload s
  | .releaseRecord seq payload => Sys2Proof.Machine.execReleaseRecord seq payload s
  | .calibrate seq payload => Sys2Proof.Machine.execCalibrate seq payload s
  | .readCalibration seq payload => Sys2Proof.Machine.execReadCalibration seq payload s
  | .storeCalibration seq payload => Sys2Proof.Machine.execStoreCalibration seq payload s
  | .recallCalibration seq payload => Sys2Proof.Machine.execRecallCalibration seq payload s
  | .storeWriteConfirmed => Sys2Proof.Machine.execStoreWriteConfirmed s
  | .storeWriteTimeout => Sys2Proof.Machine.execStoreWriteTimeout s
  | .scanGroupPublished sample => Sys2Proof.Machine.execScanGroupPublished sample s
  | .switchQualifiedChange x => Sys2Proof.Machine.execSwitchQualifiedChange x s
  | .rotationPulse b => Sys2Proof.Machine.execRotationPulse b s
  | .encoderCount b lineI lineQ => Sys2Proof.Machine.execEncoderCount b lineI lineQ s
  | .deadTimeExpiry p => Sys2Proof.Machine.execDeadTimeExpiry p s
  | .motionMonitorExpiry p => Sys2Proof.Machine.execMotionMonitorExpiry p s
  | .mixLimitExpiry b => Sys2Proof.Machine.execMixLimitExpiry b s
  | .gelTimeExpiry b => Sys2Proof.Machine.execGelTimeExpiry b s
  | .drillTimeLimit b => Sys2Proof.Machine.execDrillTimeLimit b s
  | .torqueTimeLimit b => Sys2Proof.Machine.execTorqueTimeLimit b s
  | .jogDurationExpiry b => Sys2Proof.Machine.execJogDurationExpiry b s
  | .flowStarved who => Sys2Proof.Machine.execFlowStarved who s
  | .canopyLowerTimeout => Sys2Proof.Machine.execCanopyLowerTimeout s
  | .cartridgeMeasurementEnd b cycles => Sys2Proof.Machine.execCartridgeMeasurementEnd b cycles s
  | .pollTimerExpiry => Sys2Proof.Machine.execPollTimerExpiry s
  | .headTransactionEnd ending => Sys2Proof.Machine.execHeadTransactionEnd ending s
  | .headBusTimeout => Sys2Proof.Machine.execHeadBusTimeout s
  | .headDataStale b => Sys2Proof.Machine.execHeadDataStale b s
  | .switchLineChange x level => Sys2Proof.Machine.execSwitchLineChange x level s
  | .rotationPickupLineChange b active => Sys2Proof.Machine.execRotationPickupLineChange b active s
  | .rotationPickupReturn b => Sys2Proof.Machine.execRotationPickupReturn b s
  | .replySent => Sys2Proof.Machine.execReplySent s

end Sys2Proof.Machine
end

