-- ==== Sys2Proof/Machine/Time.lean ====
section
/-! DEFINITION. What an empty command queue does (log 1, log 2): the timer events that have come due, each as the command it
is, in a fixed order; and, when none is due, one millisecond of every timer of the part. -/
namespace Sys2Proof.Machine

def allBooms : List BoomId := [.A, .B]

/-- The first of a list of timers that is due, as its command. -/
def firstDue {α : Type} (xs : List α) (due : α → Bool) (c : α → Instr) : Option Instr := (xs.find? due).map c

/-- R116: a qualification run has lasted the switch qualify time in force. -/
def State.switchDue (s : State) (i : SwitchId) : Bool := (s.switch i).run.any (fun n => s.cal.switchQualify ≤ n)

/-- R108: a pending direction has waited out the dead time. -/
def State.deadDue (s : State) (p : PairId) : Bool := (s.pair p).coil == .dead && (s.pair p).dead == 0

def State.monitorDue (s : State) (p : PairId) : Bool := (s.pair p).expires

def State.mixDue (s : State) (b : BoomId) : Bool :=
  (s.engine b).state == .mix && (s.activePlan b).mixLimit ≤ (s.engine b).resinClock
def State.gelDue (s : State) (b : BoomId) : Bool :=
  (s.engine b).state == .gelHold && (s.activePlan b).gelTime ≤ (s.engine b).resinClock
def State.drillDue (s : State) (b : BoomId) : Bool :=
  s.drillCounts b && (s.activePlan b).drillLimitMs ≤ (s.engine b).drillTimer
def State.torqueDue (s : State) (b : BoomId) : Bool :=
  s.torqueCounts b && (s.activePlan b).torqueTime ≤ (s.engine b).torqueTimer
def State.jogDue (s : State) (b : BoomId) : Bool := (s.engine b).jog.any (fun j => j.left == 0)
def State.lowerDue (s : State) : Bool := s.lowerCounts && s.cal.lowerLimit ≤ s.canopy.lowerTimer
def State.storeDue (s : State) : Bool := s.cal.writing.isSome && 50 ≤ s.cal.writeTimer
/-- R118: the run of an active line has lasted the pulse qualify time in force. -/
def State.pulseDue (s : State) (b : BoomId) : Bool :=
  let x := (s.motion b).pickup
  x.runs true && x.run.any (fun n => s.cal.pulseQualify ≤ n)
/-- R118: the run of an inactive line has lasted the pulse qualify time in force. -/
def State.returnDue (s : State) (b : BoomId) : Bool :=
  let x := (s.motion b).pickup
  x.runs false && x.run.any (fun n => s.cal.pulseQualify ≤ n)
def State.staleDue (s : State) (b : BoomId) : Bool := !(s.head b).stale && s.isStale b
def State.silentDue (s : State) : Bool := s.link.live && s.link.timeout != 0 && s.link.timeout ≤ s.link.silence
def State.resetDue (s : State) : Bool := s.link.resetStage == .due && s.cal.writing == none

/-- A condition and its command. -/
def dueIf (c : Bool) (i : Instr) : Option Instr := if c then some i else none

/-- Log 2: the timer event that is due and comes first, while the blocks run. -/
def State.dueRunning (s : State) : Option Instr :=
  dueIf s.resetDue .warmReset
    <|> dueIf s.storeDue .storeWriteTimeout
    <|> firstDue allSwitches s.switchDue .switchQualifiedChange
    <|> firstDue allBooms s.pulseDue .rotationPulse
    <|> firstDue allBooms s.returnDue .rotationPickupReturn
    <|> firstDue allPairs s.deadDue .deadTimeExpiry
    <|> firstDue allPairs s.monitorDue .motionMonitorExpiry
    <|> firstDue allBooms s.mixDue .mixLimitExpiry
    <|> firstDue allBooms s.gelDue .gelTimeExpiry
    <|> firstDue allBooms s.drillDue .drillTimeLimit
    <|> firstDue allBooms s.torqueDue .torqueTimeLimit
    <|> firstDue allBooms s.jogDue .jogDurationExpiry
    <|> firstDue [.boom .A, .boom .B, .canopy] s.starveDue .flowStarved
    <|> dueIf s.lowerDue .canopyLowerTimeout
    <|> firstDue allBooms s.staleDue .headDataStale
    <|> dueIf (s.bus.pollTimer == 0) .pollTimerExpiry
    <|> dueIf s.silentDue .linkSilent

/-- R205: the load ends within 20 ms. -/
def loadLimit : Nat := 20

/-- The timer event that is due and comes first. -/
def State.due (s : State) : Option Instr :=
  if s.running then s.dueRunning else dueIf (loadLimit ≤ s.loadTimer) .powerOnLoadComplete

/-! ## One millisecond -/

/-- R27, R37, R34, R52: the timers of an engine. -/
def Engine.tick (e : Engine) (drill torque : Bool) : Engine :=
  { e with
    drillTimer := if drill then e.drillTimer + 1 else e.drillTimer
    torqueTimer := if torque then e.torqueTimer + 1 else e.torqueTimer
    resinClock := if e.resinRunning then min (e.resinClock + 1) 1000000 else e.resinClock
    jog := e.jog.map (fun j => { j with left := j.left - 1 }) }

/-- R116: a qualification run lasts one millisecond more. -/
def SwitchInput.tick (x : SwitchInput) : SwitchInput := { x with run := x.run.map (· + 1) }

/-- R118: a pickup's qualification run lasts ten tenths of a millisecond more. -/
def Pickup.tick (x : Pickup) : Pickup := { x with run := x.run.map (· + 10) }

/-- The timers of a boom. -/
def State.tickBoom (s : State) (b : BoomId) : BoomState :=
  let x := s.boom b
  { x with
    engine := x.engine.tick (s.drillCounts b) (s.torqueCounts b)
    pairs :=
      { rot := x.pairs.rot.tick (s.cal.period (.boom b .rot)), feed := x.pairs.feed.tick (s.cal.period (.boom b .feed))
        ins := x.pairs.ins.tick (s.cal.period (.boom b .ins)) }
    switches :=
      { prs := x.switches.prs.tick, home := x.switches.home.tick, iend := x.switches.iend.tick
        ihome := x.switches.ihome.tick }
    motion := { x.motion with pickup := x.motion.pickup.tick } }

/-- R200: the silence timer counts while the link is LIVE and the timeout is not 0. -/
def Link.tick (l : Link) : Link := { l with silence := if l.live && l.timeout != 0 then l.silence + 1 else l.silence }

/-- R124: a scan begins at each timestamp that is a multiple of 2. -/
def State.scanStarts (s : State) : State := if s.now.toNat % 2 = 0 then s.beginScan else s

/-- One millisecond of every timer of the running part (R27, R34, R37, R52, R77, R99, R107, R109, R116, R118, R119, R137, R151,
R200, R203). -/
def State.tickTimers (s : State) : State :=
  { s with
    now := s.now + 1
    link := s.link.tick
    boomA := s.tickBoom .A
    boomB := s.tickBoom .B
    arb := s.arb.tick
    canopy := { s.canopy with lowerTimer := if s.lowerCounts then s.canopy.lowerTimer + 1 else s.canopy.lowerTimer }
    canopyPair := s.canopyPair.tick (s.cal.period .canopy)
    estop := s.estop.tick
    clow := s.clow.tick
    bus := { s.bus with pollTimer := s.bus.pollTimer - 1 }
    cal := { s.cal with writeTimer := if s.cal.writing.isSome then s.cal.writeTimer + 1 else s.cal.writeTimer } }

/-- One millisecond of the running part, with the scan that begins at it. -/
def State.tickRunning (s : State) : State := s.tickTimers.scanStarts

/-- One millisecond; before the load has ended no block runs (R205). -/
def State.tick (s : State) : State := if s.running then s.tickRunning else { s with loadTimer := s.loadTimer + 1 }

end Sys2Proof.Machine
end

