-- ==== Sys2Proof/WellFormed.lean ====
section
/-! DEFINITION. What a command must be to be one: a request is the content of a frame the receiver can take, under the row
that its code and payload name; an event carries what its row can carry. -/
namespace Sys2Proof

/-- R194: a payload fits a frame. -/
def payloadFits (payload : List Byte) : Bool := payload.length ≤ 250

/-- The command is well formed. -/
def Instr.wellFormed : Instr → Bool
  | .unknownCode _ code payload => !Machine.namesRequest code && payloadFits payload
  | .readPlan _ payload => payload != [0] && payloadFits payload
  | .frameDiscarded bytes => !bytes.isEmpty && (Machine.Receiver.hunting.feed bytes).2.isEmpty
  | .headTransactionEnd (.returned bytes) => bytes.length ≤ 18
  | i =>
    match encodeFrame i with
    | some f => payloadFits f.payload
    | none => true

end Sys2Proof
end

