-- ==== Sys2Proof/Safety.lean ====
section
/-! DEFINITION. What statements about the part are said in: the state in which a request is answered, what the flow arbiter
may do to its requesters in one event, what one engine's act may touch, and the invariants of the rules' prose. -/
namespace Sys2Proof.Machine

/-! ## Answers -/

/-- R194 to R196: the part in state `u` after a valid frame has been taken and answered with summary `m`: the link is LIVE,
the silence timer restarts, the receiver hunts, and the reply is on the line, at once by the model's choice (log 46). -/
def answeredWith (m : Byte) (u : State) (seq code : Byte) (a : Answer) : State :=
  { u with
    link :=
      { u.link with
        live := true
        silence := 0
        receiver := .hunting
        sending := true
        reply := some { seq := seq, code := code, summary := m, answer := a } } }

/-- The part in state `u`, the request's own effect, with the reply whose summary that effect gives (R196). -/
def answered (u : State) (seq code : Byte) (a : Answer) : State := answeredWith u.summary u seq code a

/-- R195, R196: request `i`, taken in state `s`, is answered with `a` and leaves its own effect `u`. Whether the reply is on the
line yet, which the rules leave open and the model settles (log 46), stays open here. -/
def AnsweredIn (i : Instr) (s u : State) (seq code : Byte) (a : Answer) : Prop :=
  ∃ sending : Bool,
    exec i s =
      .next { answered u seq code a with link := { (answered u seq code a).link with sending := sending } }

/-! ## Timers -/

/-- Log 2: the timers of the running part in the order of the model's choice, each with whether it stands at its limit and the
event that its limit presents: the reset that awaits nothing more (R206), the 50 ms of a write (R203), the qualification runs
of the switches (R116) and of the pickups (R118), the dead times (R107), the motion monitors (R121), the resin clock against
mix limit and gel time (R35, R36), the drill and torque timers (R27, R38), the jogs (R53), the waits (R89), the lowering timer
(R99), the age of the head data (R153), the poll timer (R151) and the silence timer (R200). -/
def timersDue (s : State) : List (Bool × Instr) :=
  let atLeast (limit : Nat) (run : Option Nat) : Bool := run.any (fun n => limit ≤ n)
  let booms (due : BoomId → Bool) (c : BoomId → Instr) : List (Bool × Instr) := [(due .A, c .A), (due .B, c .B)]
  let pairs (due : PairId → Bool) (c : PairId → Instr) : List (Bool × Instr) := allPairs.map (fun p => (due p, c p))
  let granted (b : BoomId) : Bool := s.granted (.boom b)
  let pickup (b : BoomId) : Pickup := (s.motion b).pickup
  let inState (b : BoomId) (e : EngineState) : Bool := (s.engine b).state == e
  let age (b : BoomId) : Option Nat := (s.head b).published.map (fun x => (s.now - x).toNat)
  List.flatten
    [[(s.link.resetStage == .due && s.cal.writing.isNone, .warmReset)],
      [(s.cal.writing.isSome && 50 ≤ s.cal.writeTimer, .storeWriteTimeout)],
      allSwitches.map (fun i => (atLeast s.cal.switchQualify (s.switch i).run, .switchQualifiedChange i)),
      booms (fun b => (pickup b).line && !(pickup b).level && atLeast s.cal.pulseQualify (pickup b).run) .rotationPulse,
      booms (fun b => !(pickup b).line && (pickup b).level && atLeast s.cal.pulseQualify (pickup b).run) .rotationPickupReturn,
      pairs (fun p => (s.pair p).coil == .dead && (s.pair p).dead == 0) .deadTimeExpiry,
      pairs (fun p => (s.pair p).counting && (match (s.pair p).monitor with
        | .armed n _ _ => n == 0
        | .disarmed => false)) .motionMonitorExpiry,
      booms (fun b => inState b .mix && (s.activePlan b).mixLimit ≤ (s.engine b).resinClock) .mixLimitExpiry,
      booms (fun b => inState b .gelHold && (s.activePlan b).gelTime ≤ (s.engine b).resinClock) .gelTimeExpiry,
      booms (fun b => (inState b .collar || inState b .drill) && granted b &&
        (s.activePlan b).drillLimit * 1000 ≤ (s.engine b).drillTimer) .drillTimeLimit,
      booms (fun b => inState b .torque && granted b && (s.activePlan b).torqueTime ≤ (s.engine b).torqueTimer) .torqueTimeLimit,
      booms (fun b => (s.engine b).jog.any (fun j => j.left == 0)) .jogDurationExpiry,
      [Requester.boom .A, .boom .B, .canopy].map (fun who =>
        (s.arb.waits.any (fun w => w.req.who == who && !w.starved && s.cal.starvation ≤ w.wait), .flowStarved who)),
      [(s.canopy.state == .lowering && s.granted .canopy && s.cal.lowerLimit ≤ s.canopy.lowerTimer, .canopyLowerTimeout)],
      booms (fun b => !(s.head b).stale && (age b).all (fun n => s.cal.staleLimit < n)) .headDataStale,
      [(s.bus.pollTimer == 0, .pollTimerExpiry)],
      [(s.link.live && s.link.timeout != 0 && s.link.timeout ≤ s.link.silence, .linkSilent)]]

/-! ## What one event may touch besides what its rule names -/

/-- R86, R87, R21: what telling grants and preemptions may do to boom `b`: its pairs' requests, the engine's own mark of a
first drive, and MIX_INTERRUPTED in the record of a preempted MIX. Nothing else of the boom changes. -/
def FlowTouches (s t : State) (b : BoomId) : Prop :=
  t.boom b =
      { s.boom b with
        engine := { s.engine b with armOnGrant := (t.engine b).armOnGrant, record := (t.engine b).record }
        pairs := (t.boom b).pairs } ∧
    ((t.engine b).record = (s.engine b).record ∨
      (s.engine b).state = .mix ∧
        (t.engine b).record = (s.engine b).record.map (fun r => { r with flags := { r.flags with mixInterrupted := true } }))

/-- R82: of the grants of `a` that do not stay, `r` was preempted last: it has the least class number among them, and of its
class it stands first in the grant table. -/
def LastPreempted (a : Arbiter) (stay : List FlowReq) (r : FlowReq) : Prop :=
  r ∈ a.grants ∧ r ∉ stay ∧
    ∀ x ∈ a.grants, x ∉ stay → x = r ∨ r.cls < x.cls ∨ r.cls = x.cls ∧ a.grants.idxOf r < a.grants.idxOf x

/-- What a placement, an exchange, a withdrawal or a grant pass may do: the arbiter's tables, what it tells the two booms, and
what it tells the canopy controller (its pair and its mark of a first drive). -/
def FlowEffect (s t : State) : Prop :=
  t =
      { s with
        arb := t.arb
        boomA := t.boomA
        boomB := t.boomB
        canopy := { s.canopy with armOnGrant := t.canopy.armOnGrant }
        canopyPair := t.canopyPair } ∧
    t.arb.budget = s.arb.budget ∧ FlowTouches s t .A ∧ FlowTouches s t .B

/-- The boom that is not `b`. -/
def otherBoom : BoomId → BoomId
  | .A => .B
  | .B => .A

/-- What an act of boom `b`'s engine may touch: its own active place, engine, logger and pairs (not its queue, switches,
motion, head data or sensing), the record store and the event set, and through the arbiter what `FlowEffect` says. -/
def EngineMoves (b : BoomId) (s t : State) : Prop :=
  t =
      { s with
        arb := t.arb
        boomA := t.boomA
        boomB := t.boomB
        canopy := { s.canopy with armOnGrant := t.canopy.armOnGrant }
        canopyPair := t.canopyPair
        store := t.store
        events := t.events } ∧
    t.arb.budget = s.arb.budget ∧
    FlowTouches s t (otherBoom b) ∧
    t.boom b =
      { s.boom b with
        active := (t.boom b).active
        engine := t.engine b
        logger := t.logger b
        pairs := (t.boom b).pairs } ∧
    ((t.boom b).active = (s.boom b).active ∨ (t.boom b).active = none) ∧
    (t.engine b).restricted = (s.engine b).restricted

/-- An act of an engine that is not a START or a RESUME: it brings no engine into an engaged state. -/
def EngineEffect (b : BoomId) (s t : State) : Prop :=
  EngineMoves b s t ∧ ((t.engine b).state.engaged = true → (s.engine b).state.engaged = true)

/-! ## Steps, rest and requests -/

/-- The drive of one pair in a row of the table of 2.1. -/
def StepDrive.of (d : StepDrive) : PairFn → Option (Dir × Nat)
  | .rot => d.rot
  | .feed => d.feed
  | .ins => d.ins

/-- R73, R74: the requester holds a request, granted or waiting, of this purpose, class and demand. -/
def HoldsRequest (s : State) (who : Requester) (p : Purpose) (cls demand : Nat) : Prop :=
  ∃ r ∈ s.arb.held, r.who = who ∧ r.purpose = p ∧ r.cls = cls ∧ r.demand = demand

/-- R21, R80: a requester holds no request. -/
def HoldsNone (s : State) (who : Requester) : Prop := ∀ r ∈ s.arb.held, r.who ≠ who

/-- R21, R22: while the boom's request is granted its pairs carry the drive requests of the table of 2.1 for its step, and in
flow wait none. -/
def StepDriven (s : State) (b : BoomId) : Prop :=
  ∀ f,
    (s.pair (.boom b f)).dir = (if s.granted (.boom b) then ((s.stepDrive b).of f).map Prod.fst else none) ∧
      (s.pair (.boom b f)).duty = (if s.granted (.boom b) then (((s.stepDrive b).of f).map Prod.snd).getD 0 else 0)

/-- R21, R22, R106: the row of the table of 2.1 has just been handed to the boom's pairs: granted, they are driven and the
marked monitor is armed at its full response time; in flow wait, they are off. -/
def DrivenAfresh (s : State) (b : BoomId) : Prop :=
  StepDriven s b ∧
    ∀ f, (s.pair (.boom b f)).monitor =
      if s.granted (.boom b) = true ∧ (s.stepDrive b).monitored = some f then .armed (s.cal.response (.boom b f)) 0 false
      else .disarmed

/-- R22, R52: the drive of boom `b`'s feed pair at its full duty, before the cap: that of its jog where one runs, else that of
its step's row in the table of 2.1. -/
def fullFeed (s : State) (b : BoomId) : Option (Dir × Nat) :=
  match (s.engine b).jog with
  | some j => if j.fn = .feed then some (j.dir, j.duty) else none
  | none => ((s.setEngine b { s.engine b with restricted := false }).stepDrive b).feed

/-- R22, R66, R106: the feed pair of boom `b`, where it carries a drive, is given its drive again with CONTINUE, at 500 where
the restricted flag stands and the full duty is above it, and else at the full duty. Nothing else changes. -/
def FeedReissued (s t : State) (b : BoomId) : Prop :=
  let i := PairId.boom b .feed
  ((s.pair i).dir = none ∨ fullFeed s b = none → t = s) ∧
    ∀ d c, (s.pair i).dir ≠ none → fullFeed s b = some (d, c) →
      t = s.request i (.drive d (if (s.engine b).restricted = true then min c 500 else c) .continue)

/-- R48: boom `b`'s restricted flag has turned to `r`; turned on, it raises RESTRICTED and marks the record RESTRICTED_RUN. -/
def restrictedTo (s : State) (b : BoomId) (r : Bool) : State :=
  let e := s.engine b
  if r = true then
    (s.setEngine b
      { e with
        restricted := true
        record := e.record.map (fun x => { x with flags := { x.flags with restrictedRun := true } }) }).raise (.restricted b)
  else s.setEngine b { e with restricted := false }

/-- R48, R22: `u` is the state `s` once boom `b` has followed its channels: where its restricted flag differs from `r`, what
they now give, the flag turns and the feed drive is issued again under the cap or out of it; else nothing happens. -/
def RestrictedFollows (s u : State) (b : BoomId) (r : Bool) : Prop :=
  ((s.engine b).restricted = r → u = s) ∧ ((s.engine b).restricted ≠ r → FeedReissued (restrictedTo s b r) u b)

/-- R21, R22: step `e` of class `cls` has just begun: its request is placed at the demand in force, and its pairs are driven
afresh. -/
def StepBegun (s : State) (b : BoomId) (e : EngineState) (cls : Nat) : Prop :=
  (s.engine b).state = e ∧ HoldsRequest s (.boom b) (.step e) cls (s.cal.demand (.boom b) (.step e)) ∧ DrivenAfresh s b

/-- R21, R41: the boom holds no request and its pairs are off with their monitors disarmed. -/
def AtRest (s : State) (b : BoomId) : Prop :=
  HoldsNone s (.boom b) ∧
    ∀ f, (s.pair (.boom b f)).dir = none ∧ (s.pair (.boom b f)).coil = .off ∧ (s.pair (.boom b f)).monitor = .disarmed

/-- R18, R40: what an engine chooses between at the end of a job. -/
def chosen (x : BoomState) : EngineState :=
  if x.engine.park = true then .parked else if x.queue = [] then .idle else .ready

/-- R187: the store takes the record `r` that boom `b` offers: filed under the next number where there is room, else the boom
joins the room queue and STORE_FULL is raised. -/
def Offered (s t : State) (b : BoomId) (r : InstRecord) : Prop :=
  (s.store.records.length < 8 →
    t.store =
        { s.store with
          records := s.store.records ++ [{ r with number := some s.store.next }]
          next := s.store.next + 1 } ∧
      (t.boom b).active = none ∧ (t.engine b).record = none ∧ (t.engine b).resinRunning = false ∧
      t.raised .recordReady = true) ∧
  (8 ≤ s.store.records.length →
    t.store = { s.store with room := s.store.room ++ [b] } ∧ (t.boom b).active = (s.boom b).active ∧
      (t.engine b).record = some r ∧ (t.engine b).resinRunning = (s.engine b).resinRunning ∧ t.raised .storeFull = true)

/-- R184: the step of the job that an entry to FAULTED leaves: the engine's own, or in HOLD the resume state. -/
def stepLeft (e : Engine) : EngineState := if e.state = .hold then e.resume.getD .idle else e.state

/-- R61, R68: what boom `b`'s logger holds once it has closed the open slice of a log that is still open. -/
def loggerClosed (s : State) (b : BoomId) : Logger :=
  (s.logger b).closeOpen (s.activePlan b) (s.activeValues b).holeLength (s.scanValues b)

/-- R61, R68: an entry to FAULTED closes the log: the step left is COLLAR or DRILL. -/
def closesLog (s : State) (b : BoomId) : Prop := stepLeft (s.engine b) = .collar ∨ stepLeft (s.engine b) = .drill

/-- R61, R68: that closing finds the first void of the bond zone. -/
def closingFindsVoid (s : State) (b : BoomId) : Prop :=
  closesLog s b ∧ (s.logger b).voidFound = false ∧ (loggerClosed s b).voidFound = true

/-- R45, R61, R68, R184: the record that boom `b`'s engine, whose record is `r`, offers when it enters FAULTED with cause `c`:
what the entry writes, and from the step left the closed log and its final depth, the mix count, the highest estimate, or the
passed count; everything else is as it was. -/
def FaultedRecord (s : State) (b : BoomId) (r : InstRecord) (c : FaultCause) (x : InstRecord) : Prop :=
  let e := s.engine b
  let l := loggerClosed s b
  x =
      { r with
        outcome := some .failed, fault := some c, endTime := some s.now, retries := e.retries
        flags := x.flags, finalDepth := x.finalDepth, hard := x.hard, log := x.log
        mixQ := if stepLeft e = .mix then some e.q else r.mixQ
        torque := if stepLeft e = .torque then some e.highest else r.torque
        passed := if stepLeft e = .retract ∨ stepLeft e = .insert then some e.passed else r.passed } ∧
    (closesLog s b → x.finalDepth = l.h ∧ x.hard = l.hard ∧ x.log = l.log) ∧
    (¬closesLog s b → x.finalDepth = r.finalDepth ∧ x.hard = r.hard ∧ x.log = r.log) ∧
    (closingFindsVoid s b → x.flags = { r.flags with voidInBond := true }) ∧ (¬closingFindsVoid s b → x.flags = r.flags)

/-- R45, R61, R184, R187: the engine of boom `b`, whose record is `r`, enters FAULTED with cause `c`. That the hold cause set is
empty then is the model's choice (log 27). -/
def FaultEntered (s t : State) (b : BoomId) (r : InstRecord) (c : FaultCause) : Prop :=
  EngineEffect b s t ∧ (t.engine b).state = .faulted ∧ (t.engine b).lastFault = some c ∧ (t.engine b).causes = {} ∧
    t.raised (.jobFault b) = true ∧ ((s.engine b).jog = none → AtRest t b) ∧
    (closingFindsVoid s b → t.raised (.voidFound b) = true) ∧ ∃ x, FaultedRecord s b r c x ∧ Offered s t b x

/-- R49, R142: a channel of boom `b` has entered FAILED: engaged or held, the engine is FAULTED with CHANNEL_FAILED, through
HOLD where it was engaged, and offers its record, marked RESTRICTED_RUN where the failure first restricted the boom (R48; log
9: the flag first, log 27: no hold cause stays); in every other state its state is as it was. -/
def ChannelFault (s t : State) (b : BoomId) : Prop :=
  let e := s.engine b
  (e.state.engaged = true ∨ e.state = .hold →
    (t.engine b).state = .faulted ∧ (t.engine b).lastFault = some .channelFailed ∧ (t.engine b).causes = {} ∧
      t.raised (.jobFault b) = true ∧ (e.state.engaged = true → t.raised (.holdEntered b) = true) ∧
      (e.jog = none → AtRest t b) ∧ (closingFindsVoid s b → t.raised (.voidFound b) = true) ∧
      ∀ r, e.record = some r → ∃ x y, FaultedRecord s b r .channelFailed x ∧ Offered s t b y ∧
        y =
          { x with
            flags :=
              { x.flags with
                mixInterrupted := x.flags.mixInterrupted || e.state == .mix
                restrictedRun := x.flags.restrictedRun || !e.restricted } }) ∧
  (e.state.engaged = false → e.state ≠ .hold → (t.engine b).state = e.state)

/-- R40, R187: the engine of boom `b`, whose record is `r`, enters FILING: filed at once, it makes its choice of R18. -/
def FilingEntered (s t : State) (b : BoomId) (r : InstRecord) : Prop :=
  EngineEffect b s t ∧ AtRest t b ∧
    Offered s t b { r with endTime := some s.now, retries := (s.engine b).retries } ∧
    (s.store.records.length < 8 →
      (t.engine b).state = chosen (s.boom b) ∧ t.raised (.jobDone b) = true ∧
        (t.engine b).lastFault = if r.outcome = some .good then none else (s.engine b).lastFault) ∧
    (8 ≤ s.store.records.length → (t.engine b).state = .filing ∧ (t.engine b).lastFault = (s.engine b).lastFault)

/-- R31: the strokes of INSERT have begun with a leg of the inserter: RET to home, or ADV where it stands at home. -/
def StrokesBegun (s : State) (b : BoomId) : Prop :=
  StepBegun s b .insert 4 ∧ (s.engine b).sub = .none ∧
    (s.engine b).leg = some (if s.closed (.ihome b) = true then .advance else .homing)

/-- R168, R169: both inserter switches stand closed, so that every leg ends at once. The stroke in hand is judged with its
tally, and those after it see no passage: the last cartridge ends INSERT, and any other stroke ends, after its re-strokes, in
RESIN_FEED. `u` is the state before, with the engine's figures, and `r` its record. -/
def JudgedAtOnce (u t : State) (b : BoomId) (r : InstRecord) : Prop :=
  let e := u.engine b
  let judged : InstRecord := { r with flags := { r.flags with resinExtra := r.flags.resinExtra || decide (2 ≤ e.tally) } }
  let last := 1 ≤ e.tally ∧ e.n.getD 0 ≤ e.completed + 1
  (last →
    EngineMoves b u t ∧ (t.engine b).state = .awaitBolt ∧ (e.jog = none → AtRest t b) ∧ t.raised (.boltNeeded b) = true ∧
      (t.engine b).record = some { judged with passed := some e.passed }) ∧
  (¬last → FaultEntered u t b judged .resinFeed)

/-- R43: a boom in HOLD with resume state `st` may be resumed. -/
def MayResume (s : State) (b : BoomId) (st : EngineState) : Prop :=
  (s.engine b).state = .hold ∧ (s.engine b).resume = some st ∧ s.trip = false ∧ s.closed (.prs b) = true ∧
    s.canopy.state = .set ∧ s.monitors.any (fun m => m.refusesResume b st) = false

/-- R41, R42, R53: the hold cause `c` has reached boom `b`: engaged, it holds with that cause alone; in HOLD, its cause set has
gained it. Nothing else of a boom that was not engaged has changed, save that TRIP ends a jog, and what the arbiter told it. -/
def HoldReached (s t : State) (b : BoomId) (c : HoldCause) : Prop :=
  ((s.engine b).state.engaged = true →
    (t.engine b).state = .hold ∧ (t.engine b).resume = some (s.engine b).state ∧
      (t.engine b).causes = HoldCauses.add {} c ∧ t.raised (.holdEntered b) = true ∧ AtRest t b) ∧
  ((s.engine b).state = .hold →
    (t.engine b).state = .hold ∧ (t.engine b).resume = (s.engine b).resume ∧
      (t.engine b).causes = (s.engine b).causes.add c) ∧
  ((s.engine b).state.engaged = false →
    (t.engine b).state = (s.engine b).state ∧
      FlowTouches
        (s.setEngine b
          { s.engine b with
            causes := if (s.engine b).state = .hold then (s.engine b).causes.add c else (s.engine b).causes
            jog := if c = .trip then none else (s.engine b).jog })
        t b)

/-- R50: the state that a park request takes an engine to. -/
def parkedTo : EngineState → EngineState
  | .idle | .ready => .parked
  | .collar | .drill | .retract | .insert | .awaitBolt | .push => .hold
  | e => e

/-! ## Status blocks of the head modules -/

/-- R147 to R149, R152, R158: how the read of a status block may end, with the sample of the head channel that the ending is,
the poll ending and the manual result it gives, and the data of a GOOD block. -/
def StatusEnding (ended : Instr) (good : Option Bool) (p : PollEnding) (r : ManualResult) (d : HeadData) : Prop :=
  let bad (q : PollEnding) (x : ManualResult) : Prop := good = some false ∧ p = q ∧ r = x
  (ended = .headTransactionEnd .noAck ∧ bad .noAck (.error .noAck none)) ∨
    (ended = .headBusTimeout ∧ bad .timeout (.error .timeout none)) ∨
    (∃ (n : Byte) (rest : List Byte),
      ended = .headTransactionEnd (.returned (n :: rest)) ∧ 16 < n.toNat ∧
        bad .checkError (.error .checkError (some n))) ∨
    (∃ (n sum : Byte) (data : List Byte),
      ended = .headTransactionEnd (.returned (n :: data ++ [sum])) ∧ n.toNat ≤ 16 ∧ data.length = n.toNat ∧ n ≠ 5 ∧
        bad .checkError (.error .checkError none)) ∨
    ∃ code temp hi lo contact sum : Byte,
      ended = .headTransactionEnd (.returned [5, code, temp, hi, lo, contact, sum]) ∧
        if 5 + code + temp + hi + lo + contact + sum ≠ 0 ∨ 190 < temp.toNat ∨ 600 < hi.toNat * 256 + lo.toNat ∨
            1 < contact.toNat then
          bad .checkError (.error .checkError none)
        else
          r = .done [code, temp, hi, lo, contact] ∧
            d = { temp := (temp.toNat : Int) - 40, vacuum := hi.toNat * 256 + lo.toNat, contact := decide (contact = 1) } ∧
            if code = 0x40 then good = some true ∧ p = .good
            else if code = 0x80 then good = none ∧ p = .busy
            else if code = 0x81 then good = some false ∧ p = .sensorFault
            else good = some false ∧ p = .unknown code

/-- R139, R140, R152, R174: boom `b`'s head channel has taken the sample `good` of a status block with data `d`: its fault count
follows with the event of a health change; a GOOD block of a channel that is then HEALTHY or SUSPECT is published and tests
the monitors of the two head sources; no other one changes the data, and a health change alone has those monitors record the
valid mark (R179). R48, R49, R142: the boom's engine follows: its restricted flag is what the channels then give, with
RESTRICTED and RESTRICTED_RUN where that sets it, and an entry to FAILED faults it. R22: a turn of the flag issues the feed
drive again under the cap or out of it (`v`), by the model's choice before the fault and before the monitors (log 9). -/
def HeadSampled (s t : State) (b : BoomId) (good : Option Bool) (d : HeadData) : Prop :=
  let old := s.head b
  let new := match good with
    | none => old
    | some x => old.sampled x
  let published := good = some true ∧ new.count ≤ 127
  let failed := old.count ≤ 255 ∧ 255 < new.count
  (t.head b).count = new.count ∧ (t.head b).restore = new.restore ∧ (t.head b).hasGood = new.hasGood ∧
    (∀ k, healthEvent (Health.ofCount old.count) (Health.ofCount new.count) = some k →
      t.raised (.channel (.head b) k) = true) ∧
    t.analogs = s.analogs ∧
    ((s.engine b).restricted = s.restrictedNow b →
      (t.engine b).restricted = t.restrictedNow b ∧
        ((s.engine b).restricted = false → t.restrictedNow b = true →
          t.raised (.restricted b) = true ∧
            (¬failed → ∀ r, (s.engine b).record = some r →
              (t.engine b).record = some { r with flags := { r.flags with restrictedRun := true } })) ∧
        ∃ v,
          RestrictedFollows
              ((({ s with bus := { s.bus with txn := none } } : State).setHead b
                { t.head b with lastPoll := old.lastPoll }).raiseHealth (.head b) (Health.ofCount old.count)
                (Health.ofCount new.count))
              v b (t.restrictedNow b) ∧
            (published → ∀ i, t.pair i = (v.publish (headSources b)).pair i) ∧
            (¬published → ¬failed → ∀ i, t.pair i = v.pair i) ∧
            (failed → (s.engine b).state.engaged = false → ((s.engine b).state = .hold → (s.engine b).jog ≠ none) →
              ∀ i, t.pair i = v.pair i)) ∧
    (failed → ChannelFault s t b) ∧
    (¬failed → ¬published →
      t.arb = s.arb ∧ t.boom (otherBoom b) = s.boom (otherBoom b) ∧
        t.engine b = { s.engine b with restricted := (t.engine b).restricted, record := (t.engine b).record } ∧
        ((t.engine b).restricted = (s.engine b).restricted → t.engine b = s.engine b)) ∧
    (¬published →
      (t.head b).data = old.data ∧ (t.head b).published = old.published ∧ (t.head b).stale = old.stale ∧
        (s.monitors.length = 12 → ∀ n, n < 12 →
          let m := s.monitor n
          let reached := (m.cfg.source = .headTemp b ∨ m.cfg.source = .headVacuum b) ∧
            Health.ofCount new.count ≠ Health.ofCount old.count
          (reached → t.monitor n = { m with valid := t.sourceValid m.cfg.source }) ∧ (¬reached → t.monitor n = m))) ∧
    (published →
      (t.head b).data = some d ∧ (t.head b).published = some s.now ∧ (t.head b).stale = false ∧
        (s.monitors.length = 12 → ∀ n, n < 12 →
          let m := s.monitor n
          let tested (x : Int) : Monitor := { (if m.cfg.enable = true then m.tested x else m) with valid := true }
          (m.cfg.source = .headTemp b → t.monitor n = tested d.temp) ∧
            (m.cfg.source = .headVacuum b → t.monitor n = tested (d.vacuum : Int)) ∧
            (m.cfg.source ≠ .headTemp b → m.cfg.source ≠ .headVacuum b → t.monitor n = m)))

/-! ## Invariants -/

/-- R107, R111: the coil output of a pair is what its request, gate, timer and last direction make it. -/
def CoilOk (gate : Bool) (p : Pair) : Prop :=
  match p.coil with
  | .driving d => gate = true ∧ p.dir = some d ∧ p.last = some d ∧ p.dead = 0
  | .dead => gate = true ∧ p.dir ≠ none ∧ p.last ≠ p.dir
  | .off => gate = true → p.dir = none

/-- R107, R111: every pair stands as its rule says; while the trip latch is set every coil output is off. -/
def CoilsOk (s : State) : Prop := ∀ p, CoilOk (s.gateOpen p) (s.pair p)

/-- R76, R73: the granted demands lie within the budget, no requester holds two requests, and every class is 1 to 4. -/
def ArbiterOk (a : Arbiter) : Prop :=
  a.grantedSum ≤ a.budget ∧ (a.held.map (·.who)).Nodup ∧ ∀ r ∈ a.held, 1 ≤ r.cls ∧ r.cls ≤ 4

/-- R75, R77: no two held requests share a stamp, no stamp is above the counter, the counter fits two bytes, and the wait list
stands in order of class and stamp. -/
def StampsOk (a : Arbiter) : Prop :=
  (a.held.map (·.stamp)).Nodup ∧ (∀ r ∈ a.held, r.stamp ≤ a.counter) ∧ a.counter ≤ 65535 ∧
    a.waits.Pairwise (fun x y => x.req.cls < y.req.cls ∨ x.req.cls = y.req.cls ∧ x.req.stamp < y.req.stamp)

/-- R82, R85: of two grants of `a`, `x` is preempted before `y`: its class number is higher, or it is the more recent grant of the
same class. -/
def PreemptedBefore (a : Arbiter) (x y : FlowReq) : Prop :=
  y.cls < x.cls ∨ x.cls = y.cls ∧ a.grants.idxOf y < a.grants.idxOf x

/-- R85, R83, R77: `c` is the arbiter `a` once its new budget `n` holds, and `gone` the grants preempted for it, in the order in
which they went: the highest class number first and within a class the most recently granted, none that stays before one that
went, and no more than the budget needs: with the one preempted last, the demands would lie above the budget. Each waits again,
with its stamp, a wait time of 0 and no mark, at its place in the wait list; every other wait is as it was. -/
def BudgetFitted (a : Arbiter) (n : Nat) (c : Arbiter) (gone : List FlowReq) : Prop :=
  c.budget = n ∧ c.counter = a.counter ∧ (∀ r ∈ gone, r ∈ a.grants) ∧ c.grants = a.grants.filter (fun r => r ∉ gone) ∧
    gone.Pairwise (PreemptedBefore a) ∧ (∀ r ∈ gone, ∀ x ∈ c.grants, PreemptedBefore a r x) ∧
    (c.grants.map (·.demand)).sum ≤ n ∧
    (gone ≠ [] → ∃ r ∈ gone, LastPreempted a c.grants r ∧ n < (c.grants.map (·.demand)).sum + r.demand) ∧
    c.waits.Perm (a.waits ++ gone.map (fun r => { req := r, wait := 0, starved := false })) ∧
    (StampsOk a → StampsOk c)

/-- R97: no boom is engaged unless the canopy is SET. -/
def EngagedUnderCanopy (s : State) : Prop := ∀ b, (s.engine b).state.engaged = true → s.canopy.state = .set

/-- R4, R6, R12, R16, R20, R187, R188: the plan table is in rising order of id; each queue holds at most four jobs; no two jobs
of a boom share a tag; every plan that a job names is stored. A boom has a record just while it has an active job; an engaged,
held or FILING engine has both; and the room queue holds, once each, the booms in FILING or FAULTED with a record. -/
def JobsOk (s : State) : Prop :=
  s.plans.Pairwise (fun p q => p.id < q.id) ∧ s.plans.length ≤ 16 ∧
    (∀ b, (s.boom b).queue.length ≤ 4 ∧ ((s.boom b).jobs.map (·.tag)).Nodup ∧
      ∀ j ∈ (s.boom b).jobs, (findPlan s.plans j.planId).isSome = true) ∧
    s.store.room.Nodup ∧
    ∀ b,
      (s.boom b).active.isSome = (s.engine b).record.isSome ∧
      ((s.engine b).state.engaged = true ∨ (s.engine b).state = .hold ∨ (s.engine b).state = .filing →
        (s.engine b).record.isSome = true) ∧
      (b ∈ s.store.room ↔
        ((s.engine b).state = .filing ∨ (s.engine b).state = .faulted) ∧ (s.engine b).record.isSome = true)

/-- R173, R181: there are twelve monitors, and the latched status of each shows no less than its real-time status. -/
def LatchesOk (s : State) : Prop :=
  s.monitors.length = 12 ∧ ∀ m ∈ s.monitors, (m.status ≠ .normal → m.warnSeen = true) ∧ (m.status = .trip → m.tripSeen = true)

/-- R186: at most 8 filed records, their numbers rising by exactly 1 to the one before the next number. -/
def StoreOk (st : RecordStore) : Prop :=
  st.records.length ≤ 8 ∧
    ∀ i, (h : i < st.records.length) →
      st.records[i].number = some (st.next - BitVec.ofNat 16 (st.records.length - i))

/-- R48: the restricted flag of each boom is what its channels' health and the stale mark of its head data give. -/
def RestrictedOk (s : State) : Prop := ∀ b, (s.engine b).restricted = s.restrictedNow b

/-- R138, R143: a fault count lies between 0 and 256, and a restore counts only in FAILED, below 128. -/
def CountOk (count : Nat) (restore : Option Nat) : Prop :=
  count ≤ 256 ∧ ∀ p, restore = some p → count = 256 ∧ p < 128

/-- R138, R143: every channel's count and restore progress. -/
def CountsOk (s : State) : Prop :=
  (∀ c, CountOk (s.analog c).count (s.analog c).restore) ∧ ∀ b, CountOk (s.head b).count (s.head b).restore

/-- R134, R124, R162: feed positions, those that the scan in progress has kept and the one latched for a boom's last record lie
in 0 to 3000 mm, and magazine counts in 0 to 24. -/
def RangesOk (s : State) : Prop :=
  ∀ b, (s.motion b).feedPos ≤ 3000 ∧ (s.motion b).scanPos ≤ 3000 ∧ (∀ x ∈ s.scan.left b, x ≤ 3000) ∧
    (s.sensing b).magazine ≤ 24

end Sys2Proof.Machine
end

