-- ==== Sys2Proof/Certificates/Slice0/Obligations.lean ====
section
/-! DEFINITION. The statements for the provers: the queue and the link, then chapter by chapter what each command does, then
the invariants that every step keeps. A request's statement says the state its reply leaves (`answered`, or `AnsweredIn`, which
leaves open whether the reply is on the line yet, log 46), so that everything not named in it is unchanged. -/

open Sys2Proof Sys2Proof.Machine

/-! ## The queue and time -/

/-- A step with a command at the front of the queue is that command's effect on the state with the queue's rest. -/
def Obligations.StepRunsFrontCommand : Prop :=
  ∀ (s : State) (c : Instr) (rest : List Instr), s.pending = c :: rest → step s = exec c { s with pending := rest }

/-- The model's choice of what an empty queue does (log 1, log 2): the timer event that is due and stands first in `timersDue`
is taken as the command it is; with none due, one millisecond passes. While the part runs, the millisecond moves the timestamp
(R137) and every timer that counts: silence (R200), waits (R77), lowering (R99), poll (R151), write (R203), switch and pickup
runs (R116, R118), dead times (R107), motion monitors (R119), pulse periods (R109), drill and torque timers (R27, R37), the
resin clock (R34) and jogs (R52); at an even timestamp a scan begins, in which no feed has moved yet (R124). Nothing else
changes.
Model choice (log 35): a timer that stands at or above its limit is due, as one is that a new set has lowered the limit below.
Model choice (log 23): a pickup's run counts tenths of a millisecond, ten for each millisecond, and is due at or past the pulse
qualify time. Model choice (log 24): the 20 ms of the load are counted, and their end takes POWER_ON_LOAD_COMPLETE. -/
def Obligations.EmptyQueueTakesDueEventOrMillisecond : Prop :=
  ∀ s : State, s.pending = [] →
    (s.phase = .running → s.due = ((timersDue s).find? (·.1)).map (·.2)) ∧
    (s.phase = .loading → s.due = if 20 ≤ s.loadTimer then some .powerOnLoadComplete else none) ∧
    (∀ c, s.due = some c → step s = exec c s) ∧
    (s.due = none → s.phase = .loading → step s = .next { s with loadTimer := s.loadTimer + 1 }) ∧
    (s.due = none → s.phase = .running → ∃ t, step s = .next t ∧
      t = { s with
        now := s.now + 1
        scan := t.scan
        link := { s.link with silence := if s.link.live = true ∧ s.link.timeout ≠ 0 then s.link.silence + 1 else s.link.silence }
        boomA := t.boomA
        boomB := t.boomB
        arb := { s.arb with waits := s.arb.waits.map (fun w => { w with wait := w.wait + 1 }) }
        canopy :=
          { s.canopy with
            lowerTimer :=
              if s.canopy.state = .lowering ∧ s.granted .canopy = true then s.canopy.lowerTimer + 1
              else s.canopy.lowerTimer }
        canopyPair := t.canopyPair
        estop := t.estop
        clow := t.clow
        bus := { s.bus with pollTimer := s.bus.pollTimer - 1 }
        cal := { s.cal with writeTimer := if s.cal.writing ≠ none then s.cal.writeTimer + 1 else s.cal.writeTimer } } ∧
      (t.now.toNat % 2 = 0 → t.scan = { done := 0, leftA := [], leftB := [] }) ∧
      (t.now.toNat % 2 = 1 → t.scan = s.scan) ∧
      (∀ i, t.switch i = { s.switch i with run := (s.switch i).run.map (· + 1) }) ∧
      (∀ p,
        t.pair p =
          { s.pair p with dead := (s.pair p).dead - 1, monitor := (t.pair p).monitor, pulse := (t.pair p).pulse } ∧
        (∀ n r, (s.pair p).counting = true → (s.pair p).monitor = .armed n r false →
          (t.pair p).monitor = .armed (n - 1) r false) ∧
        ((s.pair p).counting = false → (t.pair p).monitor = (s.pair p).monitor) ∧
        (∀ d, (s.pair p).coil = .driving d →
          (t.pair p).pulse =
            if (s.pair p).pulse.elapsed + 1 < (s.pair p).pulse.period then
              { (s.pair p).pulse with elapsed := (s.pair p).pulse.elapsed + 1 }
            else { duty := (s.pair p).applied, period := s.cal.period p, elapsed := 0 }) ∧
        ((∀ d, (s.pair p).coil ≠ .driving d) → (t.pair p).pulse = (s.pair p).pulse)) ∧
      ∀ b,
        t.boom b =
          { s.boom b with
            engine := t.engine b
            pairs := (t.boom b).pairs
            switches := (t.boom b).switches
            motion :=
              { s.motion b with
                pickup := { (s.motion b).pickup with run := (s.motion b).pickup.run.map (· + 10) } } } ∧
        t.engine b =
          { s.engine b with
            drillTimer :=
              if ((s.engine b).state = .collar ∨ (s.engine b).state = .drill) ∧ s.granted (.boom b) = true then
                (s.engine b).drillTimer + 1
              else (s.engine b).drillTimer
            torqueTimer :=
              if (s.engine b).state = .torque ∧ s.granted (.boom b) = true then (s.engine b).torqueTimer + 1
              else (s.engine b).torqueTimer
            resinClock :=
              if (s.engine b).resinRunning = true then min ((s.engine b).resinClock + 1) 1000000 else (s.engine b).resinClock
            jog := (s.engine b).jog.map (fun j => { j with left := j.left - 1 }) })

/-! ## The link (chapter 12) -/

/-- R195, R196: every valid frame that the port takes draws exactly one reply, which echoes SEQ and the request's code; the
link is LIVE with its silence timer restarted, whatever the reply; and but for READ EVENTS the summary is that of the state
the request leaves.
Model choice (log 46): the reply is on the line at once. Model choice (log 7): a request row is a whole valid frame, served as
one too where the bytes of an earlier row have left the receiver assembling. -/
def Obligations.EveryFrameAnswered : Prop :=
  ∀ (i : Instr) (f : FrameContent) (s : State), encodeFrame i = some f → i.wellFormed = true → s.takesFrames = true →
    ∃ t r, exec i s = .next t ∧ t.link.reply = some r ∧ r.seq = f.seq ∧ r.code = f.code ∧ t.link.sending = true ∧
      t.link.live = true ∧ t.link.silence = 0 ∧ t.link.receiver = .hunting ∧ t.pending = s.pending ∧
      (f.code ≠ 0x04 → r.summary = t.summary)

/-- R195, R198: what the port refuses by itself, changing nothing else: a request of fixed length whose payload has another
length, with BAD_LENGTH, detail 0; a request of right length whose boom is neither 0 nor 1, with BAD_FIELD, detail 1; and a
valid frame whose code names no request, with UNKNOWN_CODE. Each makes the link LIVE like any valid frame.
Model choice (log 46): the reply is on the line at once. -/
def Obligations.RefusedBeforeTheBlock : Prop :=
  (∀ (i : Instr) (f : FrameContent) (s : State), encodeFrame i = some f → i.wellFormed = true → s.takesFrames = true →
    (∀ n, catalogueLength f.code = some n → f.payload.length ≠ n →
      exec i s = .next (answered s f.seq f.code (.refused .badLength 0))) ∧
    (f.code.toNat ∈ [0x09, 0x0A, 0x0B, 0x0C, 0x0D, 0x0E, 0x0F, 0x10, 0x11, 0x12, 0x13, 0x14, 0x15, 0x16] →
      catalogueLength f.code = some f.payload.length → 2 ≤ (f.payload.headD 0).toNat →
      exec i s = .next (answered s f.seq f.code (.refused .badField 1)))) ∧
  ∀ (q c : Byte) (p : List Byte) (s : State), s.takesFrames = true → p.length ≤ 250 → (c = 0 ∨ 0x2C ≤ c.toNat) →
    exec (.unknownCode q c p) s = .next (answered s q c (.refused .unknownCode 0))

/-- 12.1 to 12.3, R194: for every request that can be sent, the bytes of its frame, taken by a hunting receiver one by one,
give exactly one valid frame, which carries LEN, SEQ, CODE and the payload, leave the receiver hunting, and decode to that
request. R195, R197, 12.2: a reply is such a frame too: accepted, its code is the request's plus 0x80 and its payload the
status summary with the bytes of its fields; refused, its code is 0x7F and its payload summary, request code, reason and
detail, with the reasons numbered 1 to 13 in the order of the table. -/
def Obligations.FrameRoundTrip : Prop :=
  (∀ (i : Instr) (f : FrameContent), i.wellFormed = true → encodeFrame i = some f →
    decodeFrame f = i ∧
      Receiver.feed .hunting (frame f.seq f.code f.payload) =
        (.hunting, [BitVec.ofNat 8 f.payload.length :: f.seq :: f.code :: f.payload])) ∧
  ∀ (q c m : Byte),
    (∀ fields : List Wire, ((fields.map Wire.bytes).flatten).length ≤ 249 →
      Receiver.feed .hunting (Reply.frame { seq := q, code := c, summary := m, answer := .accepted fields }) =
        (.hunting, [BitVec.ofNat 8 (1 + ((fields.map Wire.bytes).flatten).length) :: q :: (c + 0x80) :: m ::
          (fields.map Wire.bytes).flatten])) ∧
    ∀ (r : Reason) (n : Nat) (detail : Byte),
      [Reason.badLength, .unknownCode, .badField, .noPlan, .planInUse, .planTableFull, .queueFull, .duplicateTag, .noJob,
          .wrongState, .interlock, .busy, .empty][n]? = some r →
      Receiver.feed .hunting (Reply.frame { seq := q, code := c, summary := m, answer := .refused r detail.toNat }) =
        (.hunting, [[4, q, 0x7F, m, c, BitVec.ofNat 8 (n + 1), detail]])

/-- R194: a request's frame that arrives while the part sends a reply has no effect; discarded bytes and a gap have none but
on the receiver and draw no reply; a frame whose CRC does not match is
such a one, and after it the receiver hunts; a LEN above 250 ends its frame at once; the byte that ends a gap is examined as
a possible SYNC.
Model choice (log 6): the port takes no byte of a request while it sends. Model choice (log 46): it sends from the event of the
request before on. -/
def Obligations.DiscardedFrameHasNoEffect : Prop :=
  (∀ (i : Instr) (f : FrameContent) (s : State), encodeFrame i = some f → s.link.sending = true → exec i s = .next s) ∧
  (∀ (bytes : List Byte) (s : State), s.takesFrames = true → (s.link.receiver.feed bytes).2 = [] →
    exec (.frameDiscarded bytes) s = .next { s with link := { s.link with receiver := (s.link.receiver.feed bytes).1 } }) ∧
  (∀ (q c hi lo : Byte) (p : List Byte), p.length ≤ 250 →
    hi.toNat * 256 + lo.toNat ≠ (crc16 (BitVec.ofNat 8 p.length :: q :: c :: p)).toNat →
    Receiver.feed .hunting (0xC3 :: BitVec.ofNat 8 p.length :: q :: c :: p ++ [hi, lo]) = (.hunting, [])) ∧
  (∀ len : Byte, 250 < len.toNat → Receiver.feed .hunting [0xC3, len] = (.hunting, [])) ∧
  ∀ (x : Byte) (s : State), s.takesFrames = true →
    exec (.interByteGap x) s =
      .next { s with link := { s.link with receiver := if x = 0xC3 then .assembling [] else .hunting } }

/-- R206, R200, R199, R196: the link's own requests. IDENTIFY returns the identity and changes nothing. SET LINK puts a
timeout in force, which its reply gives. READ EVENTS copies the set into the reply, whose summary is formed before, and clears
every flag, and each bit of the set, of the monitors 0 to 11 as of the rest, stands in the byte and at the bit that 12.4 gives
it. RESET is answered first; when the last byte of its reply has left, the reset is due, and no frame is taken until it is
performed; the end of any other reply just ends it.
Model choice (log 31): between the reply to RESET and the reset no frame is taken.
Model choice (log 46): the reply is on the line at once. -/
def Obligations.LinkRequestsServed : Prop :=
  (∀ (q : Byte) (s : State), s.takesFrames = true →
    exec (.identify q []) s = .next (answered s q 0x01
      (.accepted [.u8 0x49, .u16 0x0240, .u8 0x01, .u8 16, .u8 4, .u8 8, .u8 120, .u8 12, .u8 s.link.strap])) ∧
    ∀ (hi lo : Byte) (v n : Nat), v = hi.toNat * 256 + lo.toNat →
      n = (if v = 0 then 0 else if v < 100 then 100 else if v ≤ 5000 then v else 5000) →
      exec (.setLink q [hi, lo]) s =
        .next (answered { s with link := { s.link with timeout := n } } q 0x02 (.accepted [.u16 n]))) ∧
  (∀ (q : Byte) (s : State), s.takesFrames = true →
    exec (.readEvents q []) s =
        .next (answeredWith s.summary { s with events := 0 } q 0x04 (.accepted (eventBytes s.events))) ∧
      (eventBytes s.events).length = 12 ∧
      ∀ e : Event, e.bit < 96 → ∃ n, (eventBytes s.events)[e.bit / 8]? = some (.u8 n) ∧ n < 256 ∧ n.testBit (e.bit % 8) = s.raised e) ∧
  (∀ (q : Byte) (s : State), s.takesFrames = true →
    exec (.reset q []) s =
      .next (answered { s with link := { s.link with resetStage := .replying } } q 0x05 (.accepted []))) ∧
  ∀ s : State, s.link.sending = true →
    ∃ t, exec .replySent s = .next t ∧
      t = { s with link := { s.link with sending := false, resetStage := t.link.resetStage } } ∧
      t.link.resetStage = (if s.link.resetStage = .replying then .due else s.link.resetStage) ∧
      (s.link.resetStage = .replying → t.takesFrames = false)

/-- R9, R17, R55, R56, R91, R104, R123, R146, R161, R172, R182, R193, R199, R206: a warm reset while no write is in progress:
what it clears and what it keeps.
Model choice (log 31): the command is the performing of the reset. Model choice (log 21): the values that the data book does
not give, so that the logger and, but for the restricted flag, the engine are as their blocks first stand, and the last C of
every setting is absent. -/
def Obligations.WarmResetClearsAndKeeps : Prop :=
  ∀ s : State, s.phase = .running → s.cal.writing = none →
    ∃ t, exec .warmReset s = .next t ∧
      t.phase = .running ∧ t.events = 0 ∧ t.plans = s.plans ∧ t.cal = s.cal ∧ t.trip = s.trip ∧ t.now = s.now ∧ t.lastScan = s.lastScan ∧
      t.scan = s.scan ∧
      t.analogs = s.analogs ∧ t.estop = s.estop ∧ t.clow = s.clow ∧ t.freeCount = s.freeCount ∧ t.pending = s.pending ∧
      t.store = { s.store with room := [] } ∧ t.arb = { budget := s.arb.budget } ∧
      t.canopy.state =
        (if s.canopy.state = .raising ∨ s.canopy.state = .lowering then .lost else s.canopy.state) ∧
      t.canopy.setRun = none ∧ t.canopy.lossRun = none ∧ t.canopy.lowerTimer = 0 ∧
      t.canopy.fault = (if s.canopy.state = .fault then s.canopy.fault else .none) ∧
      t.monitors = s.monitors.map (fun m => { cfg := m.cfg, valid := m.valid }) ∧
      t.link.live = true ∧ t.link.timeout = s.cal.linkTimeout ∧ t.link.receiver = .hunting ∧ t.takesFrames = true ∧
      t.bus.schedule = .polling ∧ t.bus.round = some .A ∧ t.bus.txn = some (pollRead .A) ∧ t.bus.manual.result = .none ∧
      t.bus.pollTimer = s.cal.pollPeriod ∧
      (∀ p, (t.pair p).dir = none ∧ (t.pair p).coil = .off ∧ (t.pair p).monitor = .disarmed ∧
        (t.pair p).last = (s.pair p).last ∧
        (t.pair p).dead = (match (s.pair p).coil with
          | .driving _ => s.cal.deadTime p
          | _ => (s.pair p).dead)) ∧
      ∀ b,
        (t.boom b).queue = [] ∧ (t.boom b).active = none ∧ t.logger b = {} ∧ (t.boom b).switches = (s.boom b).switches ∧
        t.motion b = s.motion b ∧ t.head b = s.head b ∧ t.engine b = { restricted := s.restrictedNow b } ∧
        t.sensing b =
          { hop := (s.sensing b).hop, window := (s.sensing b).window, threshold := s.cal.threshold b
            passages := (s.sensing b).passages, magazine := (s.sensing b).magazine }

/-- R200, R50: the silence timer reaches the timeout while the link is LIVE: the link becomes SILENT, LINK_LOST is set, and
both engines act on the park request, with cause LINK where they hold.
Model choice (log 3): the command is the expiry itself, and the timer then stands at its limit. Model choice (log 9): boom A
takes the request before boom B. Model choice (log 15): a boom whose park flag is set already acts on the request again. -/
def Obligations.LinkSilenceParksBooms : Prop :=
  ∀ s : State, s.phase = .running → s.link.live = true → s.link.timeout ≠ 0 →
    ∃ u t, exec .linkSilent s = .next t ∧
      EngineEffect .A
        { s with
          link := { s.link with live := false, silence := s.link.timeout }
          events := s.events ||| (1#96 <<< Event.linkLost.bit) } u ∧
      EngineEffect .B u t ∧ t.raised .linkLost = true ∧
      ∀ b,
        (t.engine b).park = true ∧ (t.engine b).state = parkedTo (s.engine b).state ∧
        (parkedTo (s.engine b).state = .hold → (s.engine b).state ≠ .hold →
          (t.engine b).resume = some (s.engine b).state ∧ (t.engine b).causes = { link := true } ∧
          t.raised (.holdEntered b) = true ∧ AtRest t b) ∧
        ((s.engine b).state = .hold → (t.engine b).causes = (s.engine b).causes)

/-! ## Reading (R7, R8, R15, R54, R90, R144, R158, R180, R189, R198, R204) -/

/-- A read is accepted in every state and changes nothing but the link's own figures: READ STATUS, READ QUEUE, READ BOOM, READ
FLOW, READ CHANNELS, READ MONITORS, HEAD BUS RESULT and READ CALIBRATION, with their own replies. READ PLAN (R7, R8) of a
stored id returns its record and reference count, of an unstored id NO_PLAN, and of id 0 the directory of the table.
Model choice (log 17, log 38, log 43): the order, widths and coding of reply fields where 12.3 and 12.4 leave them open. Model
choice (log 42): the frame whose age READ STATUS reports is that of the request itself. Model choice (log 41): the layout of
the manual result.
Model choice (log 46): the reply is on the line at once. -/
def Obligations.ReadsChangeNothing : Prop :=
  (∀ (q : Byte) (b : BoomId) (s : State), s.takesFrames = true →
    let opt8 (x : Option Nat) : List Wire := [.flag x.isSome, .u8 (x.getD 0)]
    let opt16 (x : Option Nat) : List Wire := [.flag x.isSome, .u16 (x.getD 0)]
    let way (d : Option Dir) : Wire := .u8 (match d with
      | none => 0
      | some .first => 1
      | some .second => 2)
    let pair (i : PairId) : List Wire :=
      let x := s.pair i
      [way x.dir, .u16 x.duty, .u16 x.applied]
        ++ (match x.coil with
          | .off => [.u8 0, .u8 0]
          | .driving d => [.u8 1, way (some d)]
          | .dead => [.u8 2, way x.dir])
        ++ [.u16 x.dead, .flag (match i with
            | .boom c _ => !s.trip && s.closed (.prs c)
            | .canopy => !s.trip)]
        ++ (match x.monitor with
          | .disarmed => [.u8 0, .u16 0, .u8 0]
          | .armed n _ _ => [.u8 1, .u16 n, .flag (!x.counting)])
    let setting (x : SettingState) : List Wire :=
      [.u8 ((if x.baseline = none then 0 else 1) + (if x.lastC = none then 0 else 2)), .u16 (x.baseline.getD 0),
        .u16 (x.lastC.getD 0)]
    let sense (c : BoomId) : List Wire :=
      let x := s.sensing c
      let mark (y : SettingState) (n : Nat) : Nat := if y.mark = true then n else 0
      [.flag x.hop] ++ setting x.s1 ++ setting x.s2 ++ setting x.s3
        ++ [.u8 (if x.hop = true then mark x.s1 1 + mark x.s2 2 + mark x.s3 4 else x.agree), .flag x.present,
          .u16 x.passages.toNat, .u8 x.magazine]
    let age (x : Option Timestamp) : Nat := match x with
      | none => 0
      | some y => (s.now - y).toNat
    let status : List Wire :=
      [.u8 0, .u16 s.link.timeout, .u16 0, .u8 s.canopy.state.num, .u8 s.canopy.fault.num,
          .u8 ((if s.canopy.setRun = none then 0 else 1) + (if s.canopy.lossRun = none then 0 else 2)),
          .u32 (age s.canopy.setRun), .u32 (age s.canopy.lossRun)]
        ++ opt16 (if s.canopy.state = .lowering then some s.canopy.lowerTimer else none)
        ++ .flag s.trip :: ([.estop, .prs .A, .prs .B, .home .A, .home .B, .iend .A, .iend .B, .ihome .A, .ihome .B,
          SwitchId.clow].map (fun i => .flag (s.closed i)))
        ++ .flag s.horn :: ([.boom .A .rot, .boom .A .feed, .boom .A .ins, .boom .B .rot, .boom .B .feed, .boom .B .ins,
          PairId.canopy].map pair).flatten
        ++ sense .A ++ sense .B
    let active : List Wire := match (s.boom b).active with
      | none => [.u8 0, .u16 0, .u8 0, .u16 0, .u16 0, .u16 0, .u16 0]
      | some j =>
        let p := s.activePlan b
        let target := j.torqueTarget.getD p.torqueTarget
        [.u8 63, .u16 j.tag, .u8 j.planId, .u16 (j.holeLength.getD p.holeLength), .u16 target,
          .u16 (p.torqueLimit.getD (min (target + 100) 1000)), .u16 (j.base.getD p.base)]
    let queued (x : Job × Nat) : List Wire :=
      let has (v : Option Nat) (n : Nat) : Nat := if v = none then 0 else n
      [.u8 x.2, .u16 x.1.tag, .u8 x.1.planId, .u8 (has x.1.holeLength 1 + has x.1.torqueTarget 2 + has x.1.base 4),
        .u16 (x.1.holeLength.getD 0), .u16 (x.1.torqueTarget.getD 0), .u16 (x.1.base.getD 0)]
    let e := s.engine b
    let boom : List Wire :=
      .u8 e.state.num
        :: opt8 (match e.sub with
          | .none => none
          | .approach => some 0
          | .cut => some 1
          | .backoff => some 2
          | .awaitingResin => some 3)
        ++ [.flag (s.arb.waits.any (fun w => w.req.who == .boom b)), .u8 (if e.state = .hold then 3 else 0),
          .u8 ((e.resume.map EngineState.num).getD 0), .u8 e.causes.num, .flag e.park, .flag e.restricted,
          .u8 ((e.lastFault.map FaultCause.num).getD 0)]
        ++ (match (s.boom b).active with
          | none => [.u8 0, .u16 0, .u8 0]
          | some j => [.u8 3, .u16 j.tag, .u8 j.planId])
        ++ [.u32 e.drillTimer, .u16 e.torqueTimer, .u32 e.resinClock, .u8 e.retries]
        ++ (let collared : Nat := if (s.logger b).collarZero = none then 0 else 1
          let job : Nat := if (s.boom b).active = none then 0 else 2
          [.u8 (collared + job), .s16 (match (s.logger b).collarZero with
            | none => 0
            | some z => ((s.motion b).feedPos : Int) - z), .u16 (s.logger b).h])
        ++ (match e.n with
          | none => [.u8 0, .u8 0, .u8 0]
          | some n => [.u8 3, .u8 n, .u8 e.completed])
        ++ opt16 (if e.state = .mix then some e.q else none)
        ++ (if e.state = .torque then
            [.u8 (if e.lastT = none then 6 else 7), .u16 (e.lastT.getD 0), .u16 e.highest, .u8 e.consecutive]
          else [.u8 0, .u16 0, .u16 0, .u8 0])
        ++ [.flag (decide (e.state = .faulted) && e.record.isSome)]
        ++ (match e.jog with
          | none => [.u8 0, .u8 0, .u8 0, .u16 0]
          | some j => [.u8 7, .u8 j.fn.num, .u8 j.dir.num, .u16 j.left])
    let request (r : FlowReq) : List Wire :=
      [.u8 (match r.who with
        | .boom .A => 0
        | .boom .B => 1
        | .canopy => 2), .u8 r.purpose.num, .u8 r.cls, .u8 r.demand, .u16 r.stamp]
    let channel (c : AnalogId) : List Wire :=
      let x := s.analog c
      [.u16 x.raw.toNat, .flag x.good,
          (if c = .oil then .s16 (x.value.getD 0) else .u16 (x.value.getD 0).toNat),
          .flag (x.value.isSome && decide (x.count ≤ 255)), .u16 x.count, .u8 (Health.ofCount x.count).num]
        ++ opt8 x.restore
    let head (c : BoomId) : List Wire :=
      let x := s.head c
      [.u16 x.count, .u8 (Health.ofCount x.count).num] ++ opt8 x.restore ++ [.flag (x.hasGood && decide (x.count ≤ 255))]
        ++ (match x.data with
          | none => [.u8 0, .s16 0, .u16 0, .u8 0]
          | some d => [.u8 7, .s16 d.temp, .u16 d.vacuum, .flag d.contact])
        ++ opt16 (x.published.map (fun y => min (s.now - y).toNat 65535)) ++ [.flag x.stale]
    let inputs (c : BoomId) : List Wire :=
      let rot := s.analog (match c with
        | .A => .aRot
        | .B => .bRot)
      [.u16 (s.motion c).torqueEst, .flag (rot.value.isSome && decide (rot.count ≤ 255)), .u16 (s.motion c).feedPos,
        .flag (s.closed (.home c)), .u16 (s.motion c).pulses.toNat]
    let channels : List Wire :=
      [.u32 s.now.toNat, .u32 s.lastScan.toNat]
        ++ ([.aRot, .aFeed, .bRot, .bFeed, .pump, .canopy, AnalogId.oil].map channel).flatten
        ++ ([.aRot, .aFeed, .bRot, .bFeed, .pump, AnalogId.canopy].map
          (fun c => opt16 ((s.analog c).filtered.map Int.toNat))).flatten
        ++ head .A ++ head .B ++ inputs .A ++ inputs .B
    let slot (n : Nat) : List Wire :=
      let m := s.monitor n
      let c := m.cfg
      let level (x : Int) : Wire := match c.source with
        | .value .oil => .s16 x
        | .headTemp _ => .s16 x
        | _ => .u16 x.toNat
      [.u8 n, .u8 (if c.enable = true then 0 else 1), .u8 c.source.num, .u8 (if c.below = true then 1 else 0), level c.warn,
        level c.trip, .u16 c.hyst, .u8 c.warnActs.num, .u8 c.tripActs.num, .u8 c.scope.num, .u8 m.status.num,
        .flag m.warnSeen, .flag m.tripSeen, .flag m.last.isSome, level (m.last.getD 0), .flag m.valid]
    let x := s.bus.manual
    let statusRead := x.kind = .readBlock ∧ x.cmd = 0x10 ∧ (x.addr = 0x2A ∨ x.addr = 0x2B)
    let manual : List Wire :=
      let of : List Wire := [.u8 7, .u8 x.kind.num, .u8 x.addr.toNat, .u8 x.cmd.toNat]
      match x.result with
      | .none => [.u8 0, .u8 0, .u8 0, .u8 0, .u8 0, .u8 0, .u8 0, .u8 0, .u8 0, .u8 0]
      | .inProgress => .u8 1 :: of ++ [.u8 0, .u8 0, .u8 0, .u8 0, .u8 0]
      | .done data =>
        let bytes : List Byte := if x.kind = .readBlock then data else []
        .u8 2 :: of ++ .u8 bytes.length :: bytes.map (fun y => .u8 y.toNat)
          ++ (if statusRead then
              [.u8 1, .u8 (if data.headD 0 = 0x40 then 0 else if data.headD 0 = 0x80 then 1
                else if data.headD 0 = 0x81 then 2 else 3), .u8 0, .u8 0]
            else [.u8 0, .u8 0, .u8 0, .u8 0])
      | .error err count =>
        .u8 3 :: of ++ [.u8 0, .u8 (if count = none then 2 else 6), .u8 0, .u8 err.num, .u8 ((count.map (·.toNat)).getD 0)]
    exec (.readStatus q []) s = .next (answered s q 0x03 (.accepted status)) ∧
    exec (.readQueue q [BitVec.ofNat 8 b.num]) s =
      .next (answered s q 0x0B
        (.accepted (active ++ .u8 (s.boom b).queue.length :: ((s.boom b).queue.zipIdx 1 |>.map queued).flatten))) ∧
    exec (.readBoom q [BitVec.ofNat 8 b.num]) s = .next (answered s q 0x15 (.accepted boom)) ∧
    exec (.readFlow q []) s = .next (answered s q 0x1B
      (.accepted
        ([.u8 s.arb.budget, .u8 s.arb.grantedSum, .u8 s.arb.free, .u16 s.cal.starvation]
          ++ .u8 s.arb.grants.length :: (s.arb.grants.map request).flatten
          ++ .u8 s.arb.waits.length
            :: (s.arb.waits.map (fun w => request w.req ++ [.u16 (min w.wait 65535), .flag w.starved])).flatten))) ∧
    exec (.readChannels q []) s = .next (answered s q 0x1C (.accepted channels)) ∧
    exec (.readMonitors q []) s = .next (answered s q 0x1F
      (.accepted (((List.range 12).map slot).flatten ++ [.flag s.horn]))) ∧
    (let round : List Wire := [.flag s.bus.round.isSome, .u8 (if s.bus.round = some .B then 1 else 0)]
      let txn : List Wire := match s.bus.txn with
        | none => [.u8 0, .flag false, .u8 0, .u8 0]
        | some t => [.u8 7, .flag t.manual, .u8 t.kind.num, .u8 t.addr.toNat]
      let polled (c : BoomId) : List Wire := match (s.head c).lastPoll with
        | none => [.u8 0, .u8 0, .u8 0]
        | some (.unknown code) => [.u8 3, .u8 3, .u8 code.toNat]
        | some x => [.u8 1, .u8 x.num, .u8 0];
      exec (.headBusResult q []) s = .next (answered s q 0x24
        (.accepted (.u8 s.bus.schedule.num :: round ++ txn ++ polled .A ++ polled .B ++ manual)))) ∧
    exec (.readCalibration q []) s = .next (answered s q 0x29
      (.accepted
        (s.cal.working.map .u16
          ++ [.flag s.cal.absent, .flag s.cal.writing.isSome, .flag s.cal.copyValid,
            .u8 (match s.cal.last with
              | .none => 0
              | .done => 1
              | .failed => 2)])))) ∧
  ∀ (q id : Byte) (s : State), s.takesFrames = true →
    (id ≠ 0 → ∀ p, findPlan s.plans id.toNat = some p →
      exec (.readPlan q [id]) s = .next (answered s q 0x08 (.accepted (planWire p ++ [.u8 (s.refs id.toNat)])))) ∧
    (id ≠ 0 → findPlan s.plans id.toNat = none →
      exec (.readPlan q [id]) s = .next (answered s q 0x08 (.refused .noPlan 0))) ∧
    exec (.readPlanDirectory q) s = .next (answered s q 0x08
      (.accepted (.u8 s.plans.length :: (s.plans.map (fun p => [Wire.u8 p.id, .u8 (s.refs p.id)])).flatten)))

/-- R189, R190, 12.4: FETCH RECORD of a page that the oldest record has gives that page behind the five values of every page
reply; a page number at or beyond the page count is refused with BAD_FIELD, detail 1, and an empty store refuses with EMPTY.
Page 0 is the header of 39 bytes, field by field as 12.4 tables it, absent values as 0. A slice page of n entries takes 2 + 6 n
bytes: the index of its first entry, their number, and of each entry the class in the top two bits over the counted q in the low
twelve, its SE and its slice time. A filed record has an outcome; one without shows 0.
Model choice (log 46): the reply is on the line at once. -/
def Obligations.FetchRecordPages : Prop :=
  ∀ (q p : Byte) (s : State), s.takesFrames = true →
    (s.store.records = [] → exec (.fetchRecord q [p]) s = .next (answered s q 0x26 (.refused .empty 0))) ∧
    ∀ (r : InstRecord) (rest : List InstRecord), s.store.records = r :: rest →
      let bit (c : Bool) (n : Nat) : Nat := if c = true then n else 0
      let stamp (x : Option Timestamp) : Wire := .u32 (match x with
        | none => 0
        | some t => t.toNat)
      let outcome : Nat := match r.outcome with
        | none => 0
        | some .good => 1
        | some .torqueLow => 2
        | some .overTorque => 3
        | some .torqueSkipped => 4
        | some .failed => 5
      let fault : Nat := match r.fault with
        | none => 0
        | some .aborted => 1
        | some .stallCollar => 2
        | some .stallDrill => 3
        | some .stepTimeout => 4
        | some .feedNoResponse => 5
        | some .inserterNoResponse => 6
        | some .resinFeed => 7
        | some .channelFailed => 8
      let header : List Wire :=
        [.u8 (if r.boom = .A then 0 else 1), .u16 r.tag, .u8 r.planId, .u8 outcome, .u8 fault,
          .u8 (bit r.flags.underResin 1 + bit r.flags.mixShort 2 + bit r.flags.mixInterrupted 4 + bit r.flags.resinExtra 8 +
            bit r.flags.restrictedRun 16 + bit r.flags.voidInBond 32),
          .u8 (bit r.drillEnd.isSome 1 + bit r.mixStart.isSome 2 + bit r.assigned.isSome 4 + bit r.mixQ.isSome 8 +
            bit r.torque.isSome 16),
          stamp (some r.start), stamp r.drillEnd, stamp r.mixStart, stamp r.endTime, .u16 r.finalDepth, .u8 r.retries,
          .u8 r.hard, .u16 r.voidMm, .u16 r.softMm, .u8 (r.assigned.getD 0), .u8 (r.passed.getD 0), .u16 (r.mixQ.getD 0),
          .u16 (r.torque.getD 0), .u8 r.log.length]
      let entry (e : SliceEntry) : List Wire :=
        let cls : Nat := match e.cls with
          | .void => 0
          | .soft => 1
          | .firm => 2
          | .hard => 3
        [.u16 (cls * 16384 + e.q % 4096), .u16 e.se, .u16 e.time]
      let first := 32 * (p.toNat - 1)
      let es := (r.log.drop first).take 32
      let slicePage : List Wire := [.u8 first, .u8 es.length] ++ (es.map entry).flatten
      let count := 1 + (r.log.length + 31) / 32
      (count ≤ p.toNat → exec (.fetchRecord q [p]) s = .next (answered s q 0x26 (.refused .badField 1))) ∧
      (p.toNat < count →
        exec (.fetchRecord q [p]) s = .next (answered s q 0x26
          (.accepted
            ([.u16 ((r.number.map (·.toNat)).getD 0), .u8 p.toNat, .u8 count, .u8 s.store.records.length,
                .u8 s.store.room.length] ++ if p.toNat = 0 then header else slicePage)))) ∧
      (header.map Wire.bytes).flatten.length = 39 ∧ (slicePage.map Wire.bytes).flatten.length = 2 + 6 * es.length

/-! ## Plans and queues (chapter 1) -/

/-- 12.4, R198, R2: a plan that passes the field check, sent as READ PLAN returns it, is read back as the same plan, every
value and every optional field; its record is 85 bytes. The same holds of a calibration set of 96 two-byte values and its 192
bytes. -/
def Obligations.RecordLayoutsRoundTrip : Prop :=
  (∀ p : HolePlan, p.firstBad = none →
    planOf ((planWire p).map Wire.bytes).flatten = p ∧ ((planWire p).map Wire.bytes).flatten.length = 85) ∧
  ∀ vals : List Nat, vals.length = 96 → (∀ v ∈ vals, v < 65536) →
    calValues (calBytes vals) = vals ∧ (calBytes vals).length = 192

/-- R3, R4: the first field that fails its check refuses LOAD PLAN with BAD_FIELD and its number, and the table stays as it
was; a plan that passes is decided by whether its id is stored, named by a job, and by the room in
the table. Accepted, the record stands at its id and every other plan is kept.
Model choice (log 46): the reply is on the line at once. -/
def Obligations.LoadPlanDecidedByTable : Prop :=
  (∀ (q : Byte) (payload : List Byte) (n : Nat) (s : State), s.takesFrames = true → payload.length = 85 →
    1 ≤ n → n ≤ 30 → (planOf payload).fieldOk n = false → (∀ m, 1 ≤ m → m < n → (planOf payload).fieldOk m = true) →
    exec (.loadPlan q payload) s = .next (answered s q 0x06 (.refused .badField n))) ∧
  ∀ (q : Byte) (payload : List Byte) (s : State), s.takesFrames = true → payload.length = 85 →
    (∀ n, 1 ≤ n → n ≤ 30 → (planOf payload).fieldOk n = true) → s.plans.Pairwise (fun x y => x.id < y.id) →
    let p := planOf payload
    ((findPlan s.plans p.id).isSome = true → 0 < s.refs p.id →
      exec (.loadPlan q payload) s = .next (answered s q 0x06 (.refused .planInUse 0))) ∧
    ((findPlan s.plans p.id).isSome = false → 16 ≤ s.plans.length →
      exec (.loadPlan q payload) s = .next (answered s q 0x06 (.refused .planTableFull 0))) ∧
    (((findPlan s.plans p.id).isSome = true ∧ s.refs p.id = 0) ∨
        ((findPlan s.plans p.id).isSome = false ∧ s.plans.length < 16) →
      ∃ ps, exec (.loadPlan q payload) s = .next (answered { s with plans := ps } q 0x06
          (.accepted [.u8 p.id, .flag (findPlan s.plans p.id).isSome, .u8 ps.length])) ∧
        findPlan ps p.id = some p ∧ (∀ id, id ≠ p.id → findPlan ps id = findPlan s.plans id) ∧
        ps.Pairwise (fun x y => x.id < y.id) ∧
        ps.length = s.plans.length + (if (findPlan s.plans p.id).isSome = true then 0 else 1))

/-- R5: DROP PLAN. Whether the reply is on the line yet stays open. -/
def Obligations.DropPlanFreesId : Prop :=
  ∀ (q id : Byte) (s : State), s.takesFrames = true → s.plans.Pairwise (fun x y => x.id < y.id) →
    let i := Instr.dropPlan q [id]
    (id = 0 → AnsweredIn i s s q 0x07 (.refused .badField 1)) ∧
    (id ≠ 0 → findPlan s.plans id.toNat = none → AnsweredIn i s s q 0x07 (.refused .noPlan 0)) ∧
    (id ≠ 0 → (findPlan s.plans id.toNat).isSome = true → 0 < s.refs id.toNat →
      AnsweredIn i s s q 0x07 (.refused .planInUse 0)) ∧
    (id ≠ 0 → (findPlan s.plans id.toNat).isSome = true → s.refs id.toNat = 0 →
      ∃ ps, AnsweredIn i s { s with plans := ps } q 0x07 (.accepted [.u8 id.toNat, .u8 ps.length]) ∧
        findPlan ps id.toNat = none ∧ (∀ k, k ≠ id.toNat → findPlan ps k = findPlan s.plans k) ∧
        ps.Pairwise (fun x y => x.id < y.id) ∧ ps.length + 1 = s.plans.length)

/-- R12, R13: QUEUE JOB in the order of its checks. A job that passes them joins the tail of its boom's queue, and only an
engine in IDLE is moved by it, to READY; the job is admitted only if its plan is stored, so the plan's reference count rises
by one.
Model choice (log 46): the reply is on the line at once. -/
def Obligations.QueueJobAppends : Prop :=
  ∀ (q : Byte) (b : BoomId) (payload : List Byte) (s : State) (j : Job), s.takesFrames = true → payload.length = 11 →
    payload.headD 0 = BitVec.ofNat 8 b.num → jobOf payload = j →
    (j.planId = 0 → exec (.queueJob q payload) s = .next (answered s q 0x09 (.refused .badField 3))) ∧
    (j.planId ≠ 0 → findPlan s.plans j.planId = none →
      exec (.queueJob q payload) s = .next (answered s q 0x09 (.refused .noPlan 0))) ∧
    ∀ p, j.planId ≠ 0 → findPlan s.plans j.planId = some p →
      (4 ≤ (s.boom b).queue.length →
        exec (.queueJob q payload) s = .next (answered s q 0x09 (.refused .queueFull 0))) ∧
      ((s.boom b).queue.length < 4 → (∃ x ∈ (s.boom b).jobs, x.tag = j.tag) →
        exec (.queueJob q payload) s = .next (answered s q 0x09 (.refused .duplicateTag 0))) ∧
      ((s.boom b).queue.length < 4 → (∀ x ∈ (s.boom b).jobs, x.tag ≠ j.tag) →
        (∀ n, j.firstBad p = some n →
          exec (.queueJob q payload) s = .next (answered s q 0x09 (.refused .badField n))) ∧
        (j.firstBad p = none →
          ∃ t,
            t = s.setBoom b
              { s.boom b with
                queue := (s.boom b).queue ++ [j]
                engine :=
                  if (s.engine b).state = .idle then { s.engine b with state := .ready, sub := .none, leg := none, resume := none }
                  else s.engine b } ∧
            t.refs j.planId = s.refs j.planId + 1 ∧
            exec (.queueJob q payload) s = .next (answered t q 0x09
              (.accepted [.u8 b.num, .u16 j.tag, .u8 ((s.boom b).queue.length + 1), .u8 ((s.boom b).queue.length + 1)]))))

/-- R14: CANCEL JOB: a boom above 1, the active job's tag and a tag the boom does not hold are refused; a queued job leaves
the queue, whose other jobs keep their order, its plan loses one reference, and only an engine in READY whose queue is now
empty is moved by it, to IDLE. Whether the reply is on the line yet stays open. -/
def Obligations.CancelJobRemoves : Prop :=
  ∀ (q hi lo : Byte) (b : BoomId) (s : State) (tag : Nat), s.takesFrames = true → tag = hi.toNat * 256 + lo.toNat →
    let i := Instr.cancelJob q [BitVec.ofNat 8 b.num, hi, lo]
    (∀ x : Byte, 2 ≤ x.toNat → AnsweredIn (.cancelJob q [x, hi, lo]) s s q 0x0A (.refused .badField 1)) ∧
    ((∃ j, (s.boom b).active = some j ∧ j.tag = tag) → AnsweredIn i s s q 0x0A (.refused .wrongState 0)) ∧
    ((∀ j ∈ (s.boom b).jobs, j.tag ≠ tag) → AnsweredIn i s s q 0x0A (.refused .noJob 0)) ∧
    ((∀ j, (s.boom b).active = some j → j.tag ≠ tag) → (∃ j ∈ (s.boom b).queue, j.tag = tag) →
      ((s.boom b).queue.map (·.tag)).Nodup →
      ∃ x y j t, (s.boom b).queue = x ++ j :: y ∧ j.tag = tag ∧
        t = s.setBoom b
          { s.boom b with
            queue := x ++ y
            engine :=
              if x ++ y = [] ∧ (s.engine b).state = .ready then
                { s.engine b with state := .idle, sub := .none, leg := none, resume := none }
              else s.engine b } ∧
        t.refs j.planId + 1 = s.refs j.planId ∧
        AnsweredIn i s t q 0x0A (.accepted [.u8 b.num, .u16 tag, .u8 (x ++ y).length]))

/-! ## The bolt cycle engine (chapter 2) -/

/-- R19, R20, R16: a START that passes every interlock in READY: the oldest job becomes active, a record is opened, the
counters and timers are set to 0, the logger starts a new log, a running jog ends, and COLLAR begins in its approach with its
class 3 request.
Model choice (log 46): the reply is on the line at once. -/
def Obligations.StartBeginsJob : Prop :=
  ∀ (q : Byte) (b : BoomId) (s : State) (j : Job) (rest : List Job) (p : HolePlan) (d : HeadData), s.takesFrames = true →
    (s.engine b).state = .ready → s.cal.absent = false → s.trip = false → s.canopy.state = .set →
    s.closed (.prs b) = true → (s.engine b).restricted = false → (s.head b).data = some d → d.contact = true →
    (s.engine b).park = false → (s.boom b).queue = j :: rest → findPlan s.plans j.planId = some p →
    ∃ t,
      exec (.start q [BitVec.ofNat 8 b.num]) s =
        .next (answered t q 0x0C (.accepted [.u8 b.num, .u16 j.tag, .u8 j.planId])) ∧
      FlowEffect
        (s.setBoom b
          { s.boom b with
            queue := rest
            active := some j
            engine :=
              { s.engine b with
                state := .collar, sub := .approach, leg := none, resume := none, jog := none, retries := 0, drillTimer := 0
                torqueTimer := 0, resinClock := 0, resinRunning := false, boltLoaded := false
                record := some { boom := b, tag := j.tag, planId := j.planId, start := s.now } }
            logger := { feedChoice := p.drillFeed } })
        t ∧
      StepBegun t b .collar 3

/-- R19, R43: START outside READY and PARKED and RESUME outside HOLD are refused with WRONG_STATE; in them, with INTERLOCK and
the detail of the first interlock that fails. A refused request changes nothing.
Model choice (log 46): the reply is on the line at once. -/
def Obligations.StartAndResumeInterlocks : Prop :=
  ∀ (q : Byte) (b : BoomId) (s : State) (n : Nat), s.takesFrames = true →
    let start := Instr.start q [BitVec.ofNat 8 b.num]
    let resume := Instr.resume q [BitVec.ofNat 8 b.num]
    ((s.engine b).state ≠ .ready → (s.engine b).state ≠ .parked →
      exec start s = .next (answered s q 0x0C (.refused .wrongState 0))) ∧
    ((s.engine b).state = .ready ∨ (s.engine b).state = .parked →
      [(s.cal.absent, 1), (s.trip, 2), (s.canopy.state != .set, 3), (!s.closed (.prs b), 4), ((s.engine b).restricted, 5),
        (!(s.head b).data.any (·.contact), 6), ((s.engine b).park, 7)].find? (·.1) = some (true, n) →
      exec start s = .next (answered s q 0x0C (.refused .interlock n))) ∧
    ((s.engine b).state ≠ .hold → exec resume s = .next (answered s q 0x0E (.refused .wrongState 0))) ∧
    ∀ st, (s.engine b).state = .hold → (s.engine b).resume = some st →
      [(s.trip, 2), (!s.closed (.prs b), 4), (s.canopy.state != .set, 3),
        (s.monitors.any (fun m => m.status == .trip && m.cfg.scope.has b &&
          (m.cfg.tripActs.holdAny || m.cfg.tripActs.holdDrill && (st == .collar || st == .drill))), 9)].find? (·.1) =
        some (true, n) →
      exec resume s = .next (answered s q 0x0E (.refused .interlock n))

/-- R41, R42: HOLD in an engaged state: the state left, with its sub-condition, becomes the resume state, the cause set is
HOST alone, the request and the drives are withdrawn, HOLD_ENTERED is raised, and a hold of MIX marks the record; timers and
the rest stand. In HOLD it adds HOST to the causes and changes nothing else; elsewhere it is refused with WRONG_STATE.
Model choice (log 46): the reply is on the line at once. -/
def Obligations.HoldFreezesBoom : Prop :=
  ∀ (q : Byte) (b : BoomId) (s : State), s.takesFrames = true →
    let i := Instr.hold q [BitVec.ofNat 8 b.num]
    let e := s.engine b
    (e.state.engaged = true →
      ∃ t, exec i s = .next (answered t q 0x0D (.accepted [])) ∧ AtRest t b ∧ t.raised (.holdEntered b) = true ∧
        FlowEffect
          ((s.setEngine b
            { e with
              state := .hold
              resume := some e.state
              causes := { host := true }
              record :=
                if e.state = .mix then e.record.map (fun r => { r with flags := { r.flags with mixInterrupted := true } })
                else e.record }).raise (.holdEntered b))
          t) ∧
    (e.state = .hold →
      exec i s = .next (answered (s.setEngine b { e with causes := { e.causes with host := true } }) q 0x0D
        (.accepted []))) ∧
    (e.state.engaged = false → e.state ≠ .hold → exec i s = .next (answered s q 0x0D (.refused .wrongState 0)))

/-- R44: an accepted RESUME ends any jog, empties the cause set, and enters the resume state afresh with a new request: COLLAR
and DRILL with their sub-condition and backoff target; RETRACT, PUSH and RELEASE afresh; AWAIT_BOLT or PUSH by the bolt-loaded
mark; TORQUE with its timer and highest estimate and a consecutive count of 0; INSERT awaiting resin again while the magazine
is short, else with the inserter going home first and a stroke that saw a passage counted as completed. The reply gives the
state entered. Where the switch that ends the step entered stands closed already, its end is taken in the same event; where
both inserter switches do, its strokes end there: one that awaited resin is judged with its tally, and one that sees no
passage faults with RESIN_FEED and offers its record. A cartridge completed by two passages or more is marked RESIN_EXTRA.
Model choice (log 30): RESUME into INSERT with the magazine still short raises RESIN_NEEDED again. Model choice (log 40): a
passage seen on the way home after the last cartridge completes nothing more, so that a stroke's passage completes a cartridge
only while fewer than N are completed. Model choice (log 47): a backoff taken up again with the home switch closed already goes
on.
Model choice (log 46): the reply is on the line at once. -/
def Obligations.ResumeRestoresStep : Prop :=
  ∀ (q : Byte) (b : BoomId) (s : State) (st : EngineState), s.takesFrames = true → MayResume s b st →
    let e := s.engine b
    ∃ t, exec (.resume q [BitVec.ofNat 8 b.num]) s =
        .next (answered t q 0x0E (.accepted [.u8 (t.engine b).state.num])) ∧
      let noResin := (t.engine b).state = .faulted ∧ (t.engine b).lastFault = some .resinFeed ∧ AtRest t b ∧
        t.raised (.jobFault b) = true
      let extra (r : InstRecord) : InstRecord :=
        { r with
          flags :=
            { r.flags with
              resinExtra := r.flags.resinExtra || (decide (2 ≤ e.tally) && decide (e.completed < e.n.getD 0)) } }
      EngineMoves b s t ∧ (t.engine b).causes = {} ∧ (t.engine b).jog = none ∧
      (st = .collar ∨ st = .drill →
        StepBegun t b st 3 ∧ (t.engine b).sub = e.sub ∧ (t.engine b).backoffTarget = e.backoffTarget ∧
          (t.engine b).drillTimer = e.drillTimer ∧ (t.engine b).retries = e.retries) ∧
      (st = .retract → s.closed (.home b) = false → StepBegun t b .retract 4) ∧
      (st = .push → StepBegun t b .push 2) ∧
      (st = .release → s.closed (.home b) = false → StepBegun t b .release 4) ∧
      (st = .awaitBolt → e.boltLoaded = true → StepBegun t b .push 2 ∧ (t.engine b).boltLoaded = false) ∧
      (st = .awaitBolt → e.boltLoaded = false →
        (t.engine b).state = .awaitBolt ∧ AtRest t b ∧ t.raised (.boltNeeded b) = true) ∧
      (st = .torque →
        StepBegun t b .torque 2 ∧ (t.engine b).torqueTimer = e.torqueTimer ∧ (t.engine b).highest = e.highest ∧
          (t.engine b).consecutive = 0) ∧
      (st = .insert → e.sub = .awaitingResin → (s.sensing b).magazine < e.n.getD 0 →
        (t.engine b).state = .insert ∧ (t.engine b).sub = .awaitingResin ∧ AtRest t b ∧
          t.raised (.resinNeeded b) = true) ∧
      (st = .retract → s.closed (.home b) = true →
        ((s.sensing b).magazine < e.n.getD 0 →
          (t.engine b).state = .insert ∧ (t.engine b).sub = .awaitingResin ∧ (t.engine b).completed = 0 ∧ AtRest t b ∧
            t.raised (.resinNeeded b) = true) ∧
        (e.n.getD 0 ≤ (s.sensing b).magazine → s.closed (.iend b) = false ∨ s.closed (.ihome b) = false →
          StrokesBegun t b ∧ (t.engine b).completed = 0) ∧
        (e.n.getD 0 ≤ (s.sensing b).magazine → s.closed (.iend b) = true → s.closed (.ihome b) = true →
          noResin ∧ ∀ r, e.record = some r → FaultEntered (s.setEngine b { e with passed := 0 }) t b r .resinFeed)) ∧
      (∀ r, st = .release → s.closed (.home b) = true → e.record = some r → FilingEntered s t b r) ∧
      (st = .insert → e.sub = .awaitingResin → e.n.getD 0 ≤ (s.sensing b).magazine →
        (s.closed (.iend b) = false ∨ s.closed (.ihome b) = false → StrokesBegun t b) ∧
        (s.closed (.iend b) = true → s.closed (.ihome b) = true →
          (e.tally = 0 → noResin) ∧ ∀ r, e.record = some r → JudgedAtOnce (s.setEngine b { e with jog := none }) t b r)) ∧
      (st = .insert → e.sub ≠ .awaitingResin → s.closed (.ihome b) = true →
        let done := if e.tally ≥ 1 ∧ e.completed < e.n.getD 0 then e.completed + 1 else e.completed
        (e.n.getD 0 ≤ done →
          (t.engine b).state = .awaitBolt ∧ AtRest t b ∧ t.raised (.boltNeeded b) = true ∧
            ∀ r, e.record = some r → (t.engine b).record = some { extra r with passed := some e.passed }) ∧
        (done < e.n.getD 0 → s.closed (.iend b) = false →
          StrokesBegun t b ∧ (t.engine b).completed = done ∧ (t.engine b).record = e.record.map extra) ∧
        (done < e.n.getD 0 → s.closed (.iend b) = true →
          noResin ∧ ∀ r, e.record = some r → FaultEntered s t b (extra r) .resinFeed)) ∧
      (st = .insert → e.sub ≠ .awaitingResin → s.closed (.ihome b) = false →
        StrokesBegun t b ∧ (t.engine b).record = e.record.map extra ∧
          (t.engine b).restrokes = (if e.tally ≥ 1 ∧ e.completed < e.n.getD 0 then 0 else e.restrokes) ∧
          (t.engine b).completed = (if e.tally ≥ 1 ∧ e.completed < e.n.getD 0 then e.completed + 1 else e.completed))

/-- R44, R35, R36: the resin catch-up of a RESUME into MIX or GEL_HOLD of plan `p`. MIX goes on while neither the count nor the
limit is reached; otherwise its q is written, with MIX_SHORT where it is short of the count, and the GEL_HOLD line follows:
GEL_HOLD below the gel time, TORQUE below gel time plus torque window, else RELEASE with TORQUE_SKIPPED, whose end is taken in
the same event where the home switch stands closed (R39).
Model choice (log 46): the reply is on the line at once. -/
def Obligations.ResumeCatchesUpResin : Prop :=
  ∀ (q : Byte) (b : BoomId) (s : State) (st : EngineState) (p : HolePlan) (r : InstRecord), s.takesFrames = true →
    MayResume s b st → s.activePlan b = p → (s.engine b).record = some r →
    let e := s.engine b
    let mixing := st = .mix ∧ e.q < p.mixCount ∧ e.resinClock < p.mixLimit
    let caught : InstRecord :=
      if st = .mix then
        { r with mixQ := some e.q, flags := { r.flags with mixShort := r.flags.mixShort || decide (e.q < p.mixCount) } }
      else r
    ∃ t, exec (.resume q [BitVec.ofNat 8 b.num]) s =
        .next (answered t q 0x0E (.accepted [.u8 (t.engine b).state.num])) ∧
      EngineMoves b s t ∧
      (mixing → StepBegun t b .mix 2 ∧ (t.engine b).q = e.q ∧ (t.engine b).resinClock = e.resinClock) ∧
      (st = .mix ∧ ¬mixing ∨ st = .gelHold →
        (e.resinClock < p.gelTime → StepBegun t b .gelHold 2) ∧
        (p.gelTime ≤ e.resinClock → e.resinClock < p.gelTime + p.torqueWindow →
          StepBegun t b .torque 2 ∧ (t.engine b).torqueTimer = 0 ∧ (t.engine b).highest = 0 ∧
            (t.engine b).consecutive = 0) ∧
        (p.gelTime ≤ e.resinClock → p.gelTime + p.torqueWindow ≤ e.resinClock →
          (s.closed (.home b) = false →
            StepBegun t b .release 4 ∧ (t.engine b).record = some { caught with outcome := some .torqueSkipped }) ∧
          (s.closed (.home b) = true →
            FilingEntered (s.setEngine b { e with jog := none }) t b { caught with outcome := some .torqueSkipped })) ∧
        (e.resinClock < p.gelTime ∨ e.resinClock < p.gelTime + p.torqueWindow → (t.engine b).record = some caught))

/-- R46, R47, R45, R50, R51: ABORT in an engaged state or in HOLD takes the engine to FAULTED with cause ABORTED and offers
its record, with what the entry writes for the step left (R61, R184). CLEAR FAULT in FAULTED with the record filed makes the
choice of R18 and leaves the last fault code. Elsewhere, and with the record pending, they are refused with WRONG_STATE. PARK
sets the flag in every state and acts by the table of R50, holding with cause HOST; UNPARK clears it, and only an engine in
PARKED then makes its choice.
Model choice (log 15): PARK acts again where the flag is set already. Model choice (log 27): FAULTED entry empties the hold
cause set. Model choice (log 45): a fault in the middle of a stroke sets no RESIN_EXTRA. Model choice (log 48): the closed log's
last slice keeps the time of its last contributing scan.
Model choice (log 46): the reply is on the line at once. -/
def Obligations.AbortClearFaultAndPark : Prop :=
  (∀ (q : Byte) (b : BoomId) (s : State), s.takesFrames = true →
    let abort := Instr.abort q [BitVec.ofNat 8 b.num]
    let clear := Instr.clearFault q [BitVec.ofNat 8 b.num]
    let e := s.engine b
    (∀ r, e.state.engaged = true ∨ e.state = .hold → e.record = some r →
      ∃ t, exec abort s = .next (answered t q 0x0F (.accepted [])) ∧ FaultEntered s t b r .aborted) ∧
    (e.state.engaged = false → e.state ≠ .hold → exec abort s = .next (answered s q 0x0F (.refused .wrongState 0))) ∧
    (e.state = .faulted → e.record = none →
      exec clear s = .next (answered
        (s.setEngine b { e with state := chosen (s.boom b), sub := .none, leg := none, resume := none }) q 0x13
        (.accepted []))) ∧
    (e.state ≠ .faulted ∨ e.record ≠ none → exec clear s = .next (answered s q 0x13 (.refused .wrongState 0)))) ∧
  ∀ (q : Byte) (b : BoomId) (s : State), s.takesFrames = true →
    let e := s.engine b
    (∃ t, exec (.park q [BitVec.ofNat 8 b.num]) s = .next (answered t q 0x10 (.accepted [])) ∧ EngineEffect b s t ∧
      (t.engine b).park = true ∧ (t.engine b).state = parkedTo e.state ∧
      (parkedTo e.state = .hold → e.state ≠ .hold →
        (t.engine b).resume = some e.state ∧ (t.engine b).causes = { host := true } ∧
          t.raised (.holdEntered b) = true ∧ AtRest t b) ∧
      (e.state = .hold → t = s.setEngine b { e with park := true })) ∧
    (e.state ≠ .parked →
      exec (.unpark q [BitVec.ofNat 8 b.num]) s =
        .next (answered (s.setEngine b { e with park := false }) q 0x11 (.accepted []))) ∧
    (e.state = .parked →
      exec (.unpark q [BitVec.ofNat 8 b.num]) s =
        .next (answered
          (s.setEngine b
            { e with
              park := false
              state := if (s.boom b).queue = [] then .idle else .ready
              sub := .none, leg := none, resume := none })
          q 0x11 (.accepted [])))

/-- R32, R167, R31: BOLT LOADED in AWAIT_BOLT begins PUSH with its class 2 request, sets the bolt-loaded mark in HOLD with
resume state AWAIT_BOLT, and is refused with WRONG_STATE elsewhere. MAGAZINE LOADED of 1 to 24 raises the boom's magazine
count, clamped at 24, and begins the strokes where the engine awaits resin and the count now suffices, which end in the event
where both inserter switches stand closed (R168, R169); any other number is refused with BAD_FIELD, detail 2.
Model choice (log 46): the reply is on the line at once. -/
def Obligations.LoadedSuppliesAdvance : Prop :=
  (∀ (q : Byte) (b : BoomId) (s : State), s.takesFrames = true →
    let i := Instr.boltLoaded q [BitVec.ofNat 8 b.num]
    let e := s.engine b
    (e.state = .awaitBolt → e.jog = none →
      ∃ t, exec i s = .next (answered t q 0x12 (.accepted [])) ∧ StepBegun t b .push 2 ∧
        FlowEffect
          (s.setEngine b { e with state := .push, sub := .none, leg := none, resume := none, boltLoaded := false }) t) ∧
    (e.state = .hold → e.resume = some .awaitBolt →
      exec i s = .next (answered (s.setEngine b { e with boltLoaded := true }) q 0x12 (.accepted []))) ∧
    (e.state ≠ .awaitBolt → ¬(e.state = .hold ∧ e.resume = some .awaitBolt) →
      exec i s = .next (answered s q 0x12 (.refused .wrongState 0)))) ∧
  ∀ (q n : Byte) (b : BoomId) (s : State), s.takesFrames = true →
    let i := Instr.magazineLoaded q [BitVec.ofNat 8 b.num, n]
    let m := (s.sensing b).magazine + n.toNat
    let u := s.setSensing b { s.sensing b with magazine := min m 24 }
    let a := Answer.accepted [.u8 b.num, .u8 (min m 24), .u8 (m - 24)]
    let e := s.engine b
    (n = 0 ∨ 24 < n.toNat → exec i s = .next (answered s q 0x16 (.refused .badField 2))) ∧
    (n ≠ 0 → n.toNat ≤ 24 → ¬(e.state = .insert ∧ e.sub = .awaitingResin ∧ e.n.getD 0 ≤ min m 24) →
      exec i s = .next (answered u q 0x16 a)) ∧
    (n ≠ 0 → n.toNat ≤ 24 → e.state = .insert → e.sub = .awaitingResin → e.n.getD 0 ≤ min m 24 → e.jog = none →
      (s.closed (.iend b) = false ∨ s.closed (.ihome b) = false →
        ∃ t, exec i s = .next (answered t q 0x16 a) ∧ StrokesBegun t b ∧
          FlowEffect
            (u.setEngine b
              { e with
                sub := .none, resume := none
                leg := some (if s.closed (.ihome b) = true then .advance else .homing) })
            t) ∧
      (s.closed (.iend b) = true → s.closed (.ihome b) = true → ∀ r, e.record = some r →
        ∃ t, exec i s = .next (answered t q 0x16 a) ∧ JudgedAtOnce u t b r))

/-- R52, R53: an accepted JOG replaces any running one, places a class 4 request at the pair's jog demand, and drives that
pair alone in the given direction at the clamped duty while it is granted, with no monitor; a duration of 0, and the expiry
of its duration, end a jog with its drive and its request withdrawn.
Model choice (log 14): a jog of duration 0 is placed and then ended. Model choice (log 3): the expiry command is the expiry
itself, so that it ends any jog whatever its remaining time and changes nothing where none runs.
Model choice (log 46): the reply is on the line at once. -/
def Obligations.JogMovesOnePairAndEnds : Prop :=
  (∀ (q dh dl th tl : Byte) (b : BoomId) (f : PairFn) (d : Dir) (s : State) (duty left : Nat), s.takesFrames = true →
    (s.engine b).state.jogs = true → s.trip = false →
    duty = min (dh.toNat * 256 + dl.toNat) 1000 → left = min (th.toNat * 256 + tl.toNat) 2000 →
    let i := Instr.jog q [BitVec.ofNat 8 b.num, BitVec.ofNat 8 f.num, BitVec.ofNat 8 d.num, dh, dl, th, tl]
    ∃ t, exec i s = .next (answered t q 0x14 (.accepted [])) ∧
      (left = 0 → FlowEffect (s.setEngine b { s.engine b with jog := none }) t ∧ AtRest t b) ∧
      (0 < left →
        FlowEffect (s.setEngine b { s.engine b with jog := some { fn := f, dir := d, duty := duty, left := left } }) t ∧
        HoldsRequest t (.boom b) (.jog f) 4 (s.cal.demand (.boom b) (.jog f)) ∧
        ∀ g,
          (t.pair (.boom b g)).dir = (if t.granted (.boom b) = true ∧ g = f then some d else none) ∧
          (t.pair (.boom b g)).duty =
            (if t.granted (.boom b) = true ∧ g = f then
              (if f = .feed ∧ (s.engine b).restricted = true then min duty 500 else duty) else 0) ∧
          (t.pair (.boom b g)).monitor = .disarmed)) ∧
  (∀ (q p0 p1 p2 p3 p4 p5 : Byte) (b : BoomId) (s : State), s.takesFrames = true →
    let i := Instr.jog q [BitVec.ofNat 8 b.num, p0, p1, p2, p3, p4, p5]
    (2 < p0.toNat → exec i s = .next (answered s q 0x14 (.refused .badField 2))) ∧
    (p0.toNat ≤ 2 → 1 < p1.toNat → exec i s = .next (answered s q 0x14 (.refused .badField 3))) ∧
    (p0.toNat ≤ 2 → p1.toNat ≤ 1 → (s.engine b).state.jogs = false →
      exec i s = .next (answered s q 0x14 (.refused .wrongState 0))) ∧
    (p0.toNat ≤ 2 → p1.toNat ≤ 1 → (s.engine b).state.jogs = true → s.trip = true →
      exec i s = .next (answered s q 0x14 (.refused .interlock 2)))) ∧
  ∀ (b : BoomId) (s : State), s.phase = .running →
    ((s.engine b).jog = none → exec (.jogDurationExpiry b) s = .next s) ∧
    ((s.engine b).jog ≠ none →
      ∃ t, exec (.jogDurationExpiry b) s = .next t ∧
        FlowEffect (s.setEngine b { s.engine b with jog := none }) t ∧ AtRest t b)

/-- R24, R25, R29, R33, R34, R35: what a scan of its boom does to an engine in the approach, in the cut, in COLLAR's backoff and
in PUSH. Contact ends the approach, with collar zero at the feed position latched in the scan record; the collar depth begins
DRILL; a latched position at or below the backoff target ends the backoff, with one retry more, and the cut drives again; the
push contact begins MIX, whose resin clock and count start at 0. Short of its level a scan changes nothing.
Model choice (log 22): the timestamp is the even number at or below the present one. Model choice (log 26, log 11): a scan acts
in flow wait too, where the change of drive disarms the monitors, and in the backoff no collar depth is compared. -/
def Obligations.ScanEndsApproachCutAndPush : Prop :=
  ∀ (b : BoomId) (s : State),
    let e := s.engine b
    let p := s.activePlan b
    let feed := (s.analog (feedChannel b)).filt
    (e.state = .collar → e.sub = .approach →
      (feed < p.contact → s.engineScan b = s) ∧
      ((p.contact : Int) ≤ feed →
        FlowEffect
          (s.setBoom b
            { s.boom b with
              engine := { e with sub := .cut }
              logger :=
                { s.logger b with
                  collarZero := some (s.motion b).scanPos, h := 0
                  slice := { (s.logger b).slice with openedAt := scanStamp s.now } } })
          (s.engineScan b) ∧
        DrivenAfresh (s.engineScan b) b)) ∧
    (∀ (z : Nat) (d : Int), e.state = .collar → e.sub = .cut → (s.logger b).collarZero = some z →
      d = ((s.motion b).scanPos : Int) - z →
      (d < p.collarDepth → s.engineScan b = s) ∧
      ((p.collarDepth : Int) ≤ d → e.jog = none →
        FlowEffect (s.setEngine b { e with state := .drill, sub := .none, leg := none, resume := none }) (s.engineScan b) ∧
        StepBegun (s.engineScan b) b .drill 3)) ∧
    (e.state = .collar → e.sub = .backoff →
      (e.backoffTarget < (s.motion b).scanPos → s.engineScan b = s) ∧
      (((s.motion b).scanPos : Int) ≤ e.backoffTarget →
        FlowEffect (s.setEngine b { e with sub := .cut, retries := e.retries + 1 }) (s.engineScan b) ∧
          DrivenAfresh (s.engineScan b) b)) ∧
    (e.state = .push →
      (feed < p.pushContact → s.engineScan b = s) ∧
      ((p.pushContact : Int) ≤ feed → e.jog = none →
        FlowEffect
          (s.setEngine b
            { e with
              state := .mix, sub := .none, leg := none, resume := none, resinClock := 0, resinRunning := true, q := 0
              record := e.record.map (fun r => { r with mixStart := some s.now }) })
          (s.engineScan b) ∧
        StepBegun (s.engineScan b) b .mix 2))

/-- R26, R28, R29, R30, R31, R61, R69 to R72: a scan in DRILL at depth `d`, the latched position less collar zero. The hole
length ends it: the log is closed, the bond zone measured, the cartridges assigned (with UNDER_RESIN where they fall short)
and the record written, and RETRACT begins, or INSERT where the feed stands at home already, whose strokes fault with
RESIN_FEED where both inserter switches stand closed. Before that, a backoff ends at its target with one retry more, and the
jam pressure is a stall, which backs off by 20 mm while the plan, the retries and the restricted flag allow it and else faults
with STALL_DRILL.
Model choice (log 26): the depth is compared first, in backoff too, and backoff target and jam pressure are tested in flow
wait as under a grant. Model choice (log 11): the change of drive in flow wait disarms the monitors.
Model choice (log 27): FAULTED entry empties the hold cause set. Model choice (log 47): a backoff entered with the home switch
closed already goes on. Model choice (log 48): the closed log's last slice keeps the time of its last contributing scan. -/
def Obligations.DrillScanEndsOrStalls : Prop :=
  ∀ (b : BoomId) (s : State) (z : Nat) (d : Int) (r : InstRecord), (s.engine b).state = .drill →
    (s.logger b).collarZero = some z → d = ((s.motion b).scanPos : Int) - z →
    (s.engine b).jog = none → (s.engine b).record = some r →
    let e := s.engine b
    let p := s.activePlan b
    let v := s.activeValues b
    let t := s.engineScan b
    ((v.holeLength : Int) ≤ d →
      let l := (s.logger b).closeOpen p v.holeLength (s.scanValues b)
      let zone := l.h - p.bondLength
      let void := zoneSum .void zone l.h 0 l.log
      let soft := zoneSum .soft zone l.h 0 l.log
      let c := cartridgeCount p v.base (requiredFill p void soft)
      let sized : InstRecord :=
        { r with
          drillEnd := some s.now, finalDepth := l.h, assigned := some c.1, voidMm := void, softMm := soft, hard := l.hard
          log := l.log
          flags :=
            { r.flags with
              underResin := r.flags.underResin || c.2
              voidInBond := r.flags.voidInBond || (l.voidFound && !(s.logger b).voidFound) } }
      EngineEffect b s t ∧
      (s.closed (.home b) = false → StepBegun t b .retract 4) ∧
      (s.closed (.home b) = true → (s.sensing b).magazine < c.1 →
        (t.engine b).state = .insert ∧ (t.engine b).sub = .awaitingResin ∧ AtRest t b ∧
          t.raised (.resinNeeded b) = true) ∧
      (s.closed (.home b) = true → c.1 ≤ (s.sensing b).magazine → s.closed (.iend b) = false ∨ s.closed (.ihome b) = false →
        StrokesBegun t b) ∧
      (s.closed (.home b) = true → c.1 ≤ (s.sensing b).magazine → s.closed (.iend b) = true → s.closed (.ihome b) = true →
        FaultEntered (s.setEngine b { e with state := .insert, passed := 0 }) t b sized .resinFeed) ∧
      (l.voidFound = true → (s.logger b).voidFound = false → t.raised (.voidFound b) = true) ∧
      (s.closed (.home b) = false ∨ (s.sensing b).magazine < c.1 ∨ s.closed (.iend b) = false ∨
          s.closed (.ihome b) = false →
        (t.engine b).n = some c.1 ∧ (t.engine b).passed = 0 ∧ (t.engine b).completed = 0 ∧ (t.logger b).log = l.log ∧
          (t.engine b).record = some sized)) ∧
    (d < v.holeLength → e.sub = .backoff →
      (e.backoffTarget < (s.motion b).scanPos → t = s) ∧
      (((s.motion b).scanPos : Int) ≤ e.backoffTarget →
        FlowEffect (s.setEngine b { e with sub := .none, retries := e.retries + 1 }) t ∧ DrivenAfresh t b)) ∧
    (d < v.holeLength → e.sub ≠ .backoff →
      ((s.analog (rotChannel b)).filt < p.jam → t = s) ∧
      ((p.jam : Int) ≤ (s.analog (rotChannel b)).filt →
        (p.autoRetry = 1 ∧ e.retries < p.retryLimit ∧ e.restricted = false →
          FlowEffect (s.setEngine b { e with sub := .backoff, backoffTarget := ((s.motion b).scanPos : Int) - 20 }) t ∧
            DrivenAfresh t b) ∧
        (¬(p.autoRetry = 1 ∧ e.retries < p.retryLimit ∧ e.restricted = false) → FaultEntered s t b r .stallDrill)))

/-- R37, R38, R39: a scan of TORQUE is tested only while the request is granted: at the limit in force OVER_TORQUE, at the
target on three scans in a row GOOD, each with the estimate as the record's torque and RELEASE begun; any other estimate is
counted. -/
def Obligations.TorqueScanDecides : Prop :=
  ∀ (b : BoomId) (s : State) (r : InstRecord), (s.engine b).state = .torque → (s.engine b).record = some r →
    (s.engine b).jog = none →
    let e := s.engine b
    let x := (s.motion b).torqueEst
    let v := s.activeValues b
    let t := s.engineScan b
    (s.granted (.boom b) = false → t = s) ∧
    (s.granted (.boom b) = true →
      (∀ o, (o = .overTorque ∧ v.limit ≤ x) ∨ (o = .good ∧ x < v.limit ∧ v.target ≤ x ∧ 2 ≤ e.consecutive) →
        EngineEffect b s t ∧
        (s.closed (.home b) = false →
          StepBegun t b .release 4 ∧ (t.engine b).record = some { r with outcome := some o, torque := some x }) ∧
        (s.closed (.home b) = true → FilingEntered s t b { r with outcome := some o, torque := some x })) ∧
      (x < v.limit → x < v.target ∨ e.consecutive < 2 →
        t = s.setEngine b
          { e with
            lastT := some x
            highest := max e.highest x
            consecutive := if v.target ≤ x then e.consecutive + 1 else 0 }))

/-- R121, R23, R28, R96: the expiry of a counting monitor whose count stands at 0 disarms it and goes to the pair's owner,
which does what the table of R23 says for its step (a stall at the position of the boom's last scan record); in every other
state and on every other pair nothing more happens. A monitor that is not counting, or whose count an ARM or a response taken
first has reloaded, has no expiry. R45, R61, R184: a fault offers the record with what the entry writes for the step left.
Model choice (log 27): FAULTED entry empties the hold cause set. Model choice (log 45): a fault in the middle of a stroke sets
no RESIN_EXTRA. Model choice (log 47): the backoff that a stall enters goes on where the home switch is closed already. Model
choice (log 48): the closed log's last slice keeps the time of its last contributing scan. -/
def Obligations.MonitorExpiryActsByStep : Prop :=
  (∀ (i : PairId) (s : State), s.phase = .running →
    ((s.pair i).counting = false ∨ ∀ ref z, (s.pair i).monitor ≠ .armed 0 ref z) →
      exec (.motionMonitorExpiry i) s = .next s) ∧
  (∀ (b : BoomId) (f : PairFn) (s : State) (r : InstRecord) (ref : Int), s.phase = .running →
    (s.pair (.boom b f)).monitor = .armed 0 ref false → (s.pair (.boom b f)).counting = true →
    (s.engine b).record = some r → (s.engine b).jog = none →
    let e := s.engine b
    let p := s.activePlan b
    let u := s.setPair (.boom b f) { s.pair (.boom b f) with monitor := .disarmed }
    ∃ t, exec (.motionMonitorExpiry (.boom b f)) s = .next t ∧
      (f = .feed ∧ (e.state = .collar ∧ e.sub = .approach ∨ e.state = .retract ∨ e.state = .push ∨ e.state = .release) →
        FaultEntered u t b r .feedNoResponse) ∧
      (f = .ins ∧ e.state = .insert ∧ e.sub = .none → FaultEntered u t b r .inserterNoResponse) ∧
      (f = .rot ∧ e.sub = .backoff →
        (e.state = .collar → FaultEntered u t b r .stallCollar) ∧ (e.state = .drill → FaultEntered u t b r .stallDrill)) ∧
      (f = .rot ∧ (e.state = .collar ∧ e.sub = .cut ∨ e.state = .drill ∧ e.sub ≠ .backoff) →
        (p.autoRetry = 1 ∧ e.retries < p.retryLimit ∧ e.restricted = false →
          FlowEffect (u.setEngine b { e with sub := .backoff, backoffTarget := ((s.motion b).scanPos : Int) - 20 }) t ∧
            DrivenAfresh t b) ∧
        (¬(p.autoRetry = 1 ∧ e.retries < p.retryLimit ∧ e.restricted = false) →
          FaultEntered u t b r (if e.state = .collar then .stallCollar else .stallDrill))) ∧
      (f = .rot ∧ e.state = .mix →
        StepBegun t b .gelHold 2 ∧ ∃ r', (t.engine b).record = some r' ∧ r'.mixQ = some e.q ∧ r'.flags.mixShort = true) ∧
      (f = .rot ∧ e.state = .torque ∧ s.closed (.home b) = false →
        StepBegun t b .release 4 ∧
          (t.engine b).record = some { r with outcome := some .torqueLow, torque := some e.highest }) ∧
      (f = .rot ∧ e.state = .torque ∧ s.closed (.home b) = true →
        FilingEntered u t b { r with outcome := some .torqueLow, torque := some e.highest }) ∧
      (e.state.engaged = false ∨ e.state = .awaitBolt ∨ e.state = .gelHold ∨
          f = .feed ∧ (e.state = .drill ∨ e.state = .insert ∨ e.state = .mix ∨ e.state = .torque ∨
            e.state = .collar ∧ e.sub ≠ .approach) ∨
          f = .ins ∧ (e.state ≠ .insert ∨ e.sub ≠ .none) ∨
          f = .rot ∧ (e.state = .retract ∨ e.state = .insert ∨ e.state = .push ∨ e.state = .release ∨
            e.state = .collar ∧ e.sub = .approach) →
        t = u)) ∧
  ∀ (s : State) (ref : Int), s.phase = .running → s.canopyPair.monitor = .armed 0 ref false → s.canopyPair.counting = true →
    let u : State := { s with canopyPair := { s.canopyPair with monitor := .disarmed } }
    ∃ t, exec (.motionMonitorExpiry .canopy) s = .next t ∧
      (s.canopy.state ≠ .raising → t = u) ∧
      (s.canopy.state = .raising →
        t.canopy = { s.canopy with state := .fault, fault := .noResponse, setRun := none, lossRun := none, armOnGrant := false } ∧
          t.canopyPair.dir = none ∧ HoldsNone t .canopy ∧ t.raised .canopyFault = true ∧
          ∀ b, (t.engine b).state = (s.engine b).state)

/-- R34 to R38, R27: the expiries of an engine's timers. The resin clock at the mix limit ends MIX short; at the gel time it
ends GEL_HOLD in TORQUE, or past the torque window in RELEASE with TORQUE_SKIPPED. The drill time limit faults the job with
STEP_TIMEOUT and the torque time ends TORQUE with TORQUE_LOW. In every other state, and where the drill or the torque timer
does not count, the expiry changes nothing, with a record and a jog or without. R45, R61, R184: the fault closes the log and
offers the record.
Model choice (log 3): the command is the expiry itself, and the timer then stands at or above its limit. Model choice (log
27): FAULTED entry empties the hold cause set. Model choice (log 48): the closed log's last slice keeps the time of its last
contributing scan. -/
def Obligations.EngineTimersExpire : Prop :=
  (∀ (b : BoomId) (s : State), s.phase = .running →
    let e := s.engine b
    (e.state ≠ .mix → exec (.mixLimitExpiry b) s = .next s) ∧
    (e.state ≠ .gelHold → exec (.gelTimeExpiry b) s = .next s) ∧
    (¬((e.state = .collar ∨ e.state = .drill) ∧ s.granted (.boom b) = true) → exec (.drillTimeLimit b) s = .next s) ∧
    (¬(e.state = .torque ∧ s.granted (.boom b) = true) → exec (.torqueTimeLimit b) s = .next s)) ∧
  ∀ (b : BoomId) (s : State) (r : InstRecord), s.phase = .running → (s.engine b).record = some r →
    (s.engine b).jog = none →
    let e := s.engine b
    let p := s.activePlan b
    let ended (o : JobOutcome) (h : Option Nat) : InstRecord := { r with outcome := some o, torque := h }
    (e.state = .mix → ∃ t, exec (.mixLimitExpiry b) s = .next t ∧ StepBegun t b .gelHold 2 ∧ EngineEffect b s t ∧
      (t.engine b).resinClock = max e.resinClock p.mixLimit ∧ (t.engine b).resinRunning = e.resinRunning ∧
      ∃ r', (t.engine b).record = some r' ∧ r'.mixQ = some e.q ∧ r'.flags.mixShort = true) ∧
    (e.state = .gelHold →
      let c := max e.resinClock p.gelTime
      ∃ t, exec (.gelTimeExpiry b) s = .next t ∧ EngineEffect b s t ∧
        (c < p.gelTime + p.torqueWindow →
          StepBegun t b .torque 2 ∧ (t.engine b).resinClock = c ∧ (t.engine b).torqueTimer = 0 ∧
            (t.engine b).highest = 0 ∧ (t.engine b).consecutive = 0 ∧ (t.engine b).record = some r) ∧
        (p.gelTime + p.torqueWindow ≤ c → s.closed (.home b) = false →
          StepBegun t b .release 4 ∧ (t.engine b).record = some { r with outcome := some .torqueSkipped }) ∧
        (p.gelTime + p.torqueWindow ≤ c → s.closed (.home b) = true →
          FilingEntered s t b { r with outcome := some .torqueSkipped })) ∧
    (e.state = .collar ∨ e.state = .drill → s.granted (.boom b) = true →
      ∃ t, exec (.drillTimeLimit b) s = .next t ∧ FaultEntered s t b r .stepTimeout) ∧
    (e.state = .torque → s.granted (.boom b) = true →
      ∃ t, exec (.torqueTimeLimit b) s = .next t ∧ EngineEffect b s t ∧
        (s.closed (.home b) = false →
          StepBegun t b .release 4 ∧ (t.engine b).record = some (ended .torqueLow (some e.highest))) ∧
        (s.closed (.home b) = true → FilingEntered s t b (ended .torqueLow (some e.highest))))

/-- R135, R124, R30, R31, R39, R40, R29: a qualified closing of the home switch puts the feed position to 0, the scan in
progress keeping the one left, and ends the step that waits for it: RETRACT in INSERT (awaiting resin while the magazine is
short, else with the strokes begun), RELEASE in FILING, a backoff in its step; in any other state, and on an opening, nothing
more happens. Where both inserter switches stand closed as the strokes begin, their three strokes end in that event, without a
passage, and fault with RESIN_FEED.
Model choice (log 3): the command is the qualified change itself, and the line then stands at its level. Model choice (log
11): a backoff that ends in flow wait disarms the monitors until the next grant. -/
def Obligations.HomeSwitchEndsSteps : Prop :=
  ∀ (b : BoomId) (s : State), s.phase = .running →
    let e := s.engine b
    let lv (level : Bool) : State := s.setSwitch (.home b) { line := level, level := level, run := none }
    let u : State :=
      { (lv true).setMotion b { s.motion b with feedPos := 0 } with scan := s.scan.leave b (s.motion b).feedPos }
    (s.closed (.home b) = true → exec (.switchQualifiedChange (.home b)) s = .next (lv false)) ∧
    (s.closed (.home b) = false →
      ∃ t, exec (.switchQualifiedChange (.home b)) s = .next t ∧
        (e.state = .retract → e.jog = none →
          EngineEffect b u t ∧
            ((s.sensing b).magazine < e.n.getD 0 ∨ s.closed (.iend b) = false ∨ s.closed (.ihome b) = false →
              (t.engine b).tally = 0 ∧ (t.engine b).restrokes = 0 ∧ (t.engine b).completed = 0 ∧ (t.engine b).passed = 0) ∧
            ((s.sensing b).magazine < e.n.getD 0 →
              (t.engine b).state = .insert ∧ (t.engine b).sub = .awaitingResin ∧ AtRest t b ∧
                t.raised (.resinNeeded b) = true) ∧
            (e.n.getD 0 ≤ (s.sensing b).magazine → s.closed (.iend b) = false ∨ s.closed (.ihome b) = false →
              StrokesBegun t b) ∧
            (e.n.getD 0 ≤ (s.sensing b).magazine → s.closed (.iend b) = true → s.closed (.ihome b) = true →
              (t.engine b).state = .faulted ∧ (t.engine b).lastFault = some .resinFeed ∧ AtRest t b ∧
                t.raised (.jobFault b) = true ∧
                ∀ r, e.record = some r → FaultEntered (u.setEngine b { e with passed := 0 }) t b r .resinFeed)) ∧
        (∀ r, e.state = .release → e.record = some r → FilingEntered u t b r) ∧
        (e.state = .collar ∨ e.state = .drill → e.sub = .backoff →
          FlowEffect
              (u.setEngine b { e with sub := if e.state = .collar then .cut else .none, retries := e.retries + 1 }) t ∧
            DrivenAfresh t b) ∧
        (e.state ≠ .retract → e.state ≠ .release →
          ¬((e.state = .collar ∨ e.state = .drill) ∧ e.sub = .backoff) → t = u))

/-- R168, R169, R170, R120, R32: the inserter's strokes. The end switch turns the advance leg into the return leg; the home
switch turns a homing leg into an advance, either turn with tally, re-strokes, completed and passed count kept, so that the
passages of a homing leg count toward its stroke; and it judges a stroke: a passage seen completes the cartridge (RESIN_EXTRA
for more than one) and begins the next stroke, or after the last one writes the passed count and awaits the bolt; none seen is
stroked again, twice at most, and then faults with RESIN_FEED, its record offered; where both switches then stand closed every
leg ends at once. A homing leg after the last cartridge ends INSERT. Each opening of a switch of the inserter, and each
closing that ends no leg, reloads a counting INS monitor and does nothing more.
Model choice (log 12): a leg ends on its switch in flow wait too, where the new leg disarms the monitors (log 11). Model
choice (log 3): the command is the qualified change itself, and the line then stands at its level. Model choice (log 40): the
homing leg after the last cartridge is no stroke and is not judged. -/
def Obligations.InserterStrokesJudged : Prop :=
  (∀ (b : BoomId) (i : SwitchId) (s : State), s.phase = .running → i = .iend b ∨ i = .ihome b →
    let x := s.pair (.boom b .ins)
    let leg := (s.engine b).leg
    let u := (s.setSwitch i { line := !s.closed i, level := !s.closed i, run := none }).setPair (.boom b .ins)
      { x with
        monitor := match x.monitor with
          | .armed n r z => .armed (if x.counting = true then s.cal.response (.boom b .ins) else n) r z
          | .disarmed => .disarmed }
    (s.closed i = true → exec (.switchQualifiedChange i) s = .next u) ∧
    (s.closed i = false →
      (s.engine b).state ≠ .insert ∨ leg = none ∨ i = .iend b ∧ leg ≠ some .advance ∧ s.closed (.ihome b) = false ∨
          i = .ihome b ∧ leg = some .advance ∧ s.closed (.iend b) = false →
        exec (.switchQualifiedChange i) s = .next u)) ∧
  ∀ (b : BoomId) (s : State) (r : InstRecord), s.phase = .running → (s.engine b).state = .insert →
    (s.engine b).sub = .none → (s.engine b).record = some r → (s.engine b).jog = none →
    let e := s.engine b
    let n := e.n.getD 0
    (e.leg = some .advance → s.closed (.iend b) = false → s.closed (.ihome b) = false →
      ∃ t, exec (.switchQualifiedChange (.iend b)) s = .next t ∧ DrivenAfresh t b ∧
        t.engine b = { e with leg := some .back, armOnGrant := (t.engine b).armOnGrant }) ∧
    (s.closed (.ihome b) = false → s.closed (.iend b) = false →
      ∃ t, exec (.switchQualifiedChange (.ihome b)) s = .next t ∧
        (e.leg = some .homing → e.completed < n →
          DrivenAfresh t b ∧ t.engine b = { e with leg := some .advance, armOnGrant := (t.engine b).armOnGrant }) ∧
        (e.leg = some .back → 1 ≤ e.tally →
          (∃ r', (t.engine b).record = some r' ∧ r'.flags.resinExtra = (r.flags.resinExtra || decide (2 ≤ e.tally)) ∧
            r'.passed = (if n ≤ e.completed + 1 then some e.passed else r.passed)) ∧
          (t.engine b).completed = e.completed + 1 ∧ (t.engine b).tally = 0 ∧ (t.engine b).restrokes = 0 ∧
          (t.engine b).passed = e.passed ∧
          (e.completed + 1 < n →
            (t.engine b).state = .insert ∧ (t.engine b).leg = some .advance ∧ DrivenAfresh t b) ∧
          (n ≤ e.completed + 1 →
            (t.engine b).state = .awaitBolt ∧ AtRest t b ∧ t.raised (.boltNeeded b) = true)) ∧
        (e.leg = some .back → e.tally = 0 → e.restrokes < 2 →
          DrivenAfresh t b ∧
            t.engine b =
              { e with leg := some .advance, restrokes := e.restrokes + 1, armOnGrant := (t.engine b).armOnGrant }) ∧
        (e.leg = some .back → e.tally = 0 → 2 ≤ e.restrokes →
          FaultEntered (s.setSwitch (.ihome b) { line := true, level := true, run := none }) t b r .resinFeed)) ∧
    (e.leg = some .homing → n ≤ e.completed → s.closed (.ihome b) = false →
      ∃ t, exec (.switchQualifiedChange (.ihome b)) s = .next t ∧ (t.engine b).state = .awaitBolt ∧ AtRest t b ∧
        t.raised (.boltNeeded b) = true ∧ (t.engine b).record = some { r with passed := some e.passed }) ∧
    ∀ i leg, e.leg = some leg → (leg = .homing → e.completed < n) →
      i = .iend b ∧ s.closed (.ihome b) = true ∨ i = .ihome b ∧ s.closed (.iend b) = true → s.closed i = false →
      ∃ t, exec (.switchQualifiedChange i) s = .next t ∧
        JudgedAtOnce (s.setSwitch i { line := true, level := true, run := none }) t b r

/-! ## Measurement, logging and sizing (chapters 3 and 7) -/

/-- R127 to R133, R138, R141, R143: how an analog channel takes a raw sample whose good value is `x`, with what a good value
is and what the torque estimate is of a filtered pressure.
Model choice (log 19): a DEGRADED channel without a value publishes its first good sample; and where an earlier good sample has set
F, the sample that completes the first restore moves F by the formula and does not set it anew. -/
def Obligations.ChannelTakesSample : Prop :=
  (∀ (c : Analog) (ch : AnalogId) (k : Nat) (raw : RawSample) (x : Int),
    let good := 320 ≤ raw.toNat ∧ raw.toNat ≤ 4032
    let t := c.sample ch k raw x
    let moved := match c.filtered with
      | none => x
      | some f => f + Int.tdiv (x - f) (2 ^ k)
    t.raw = raw ∧ t.good = decide good ∧
    (c.count ≤ 255 →
      t.count = (if good then c.count - 1 else min (c.count + 8) 256) ∧ t.restore = c.restore ∧
      (good → t.count ≤ 127 ∨ c.value = none →
        t.value = some x ∧ t.filtered = if ch = .oil then c.filtered else some moved) ∧
      (¬good ∨ 127 < t.count ∧ c.value ≠ none → t.value = c.value ∧ t.filtered = c.filtered)) ∧
    (255 < c.count →
      (c.restore = some 127 → good →
        t.count = 0 ∧ t.restore = none ∧ t.value = some x ∧ t.filtered = if ch = .oil then c.filtered else some moved) ∧
      (c.restore ≠ some 127 ∨ ¬good →
        (∀ p, c.restore = some p → t.restore = some (if good then p + 1 else 0)) ∧
        (c.restore = none → t.restore = none) ∧ t.count = c.count ∧ t.value = c.value ∧
          t.filtered = if good ∧ c.filtered = none ∧ ch ≠ .oil then some x else c.filtered))) ∧
  (∀ (cal : CalStore) (ch : AnalogId) (r : RawSample),
    let scaled : Int := if r.toNat < cal.offset ch then 0 else ((r.toNat - cal.offset ch) * cal.gain ch / 4096 : Nat)
    (ch ≠ .oil → cal.convert ch r = min scaled 4000) ∧
    (ch = .oil → cal.convert ch r = max (-40) (min 150 (scaled - 40)))) ∧
  ∀ (f : Int) (idle kt : Nat),
    (f ≤ idle → torqueEstimate f idle kt = 0) ∧
    ∀ n : Nat, f = (idle : Int) + n → 0 < n → torqueEstimate f idle kt = min (n * kt / 256) 1000

/-- R124, R125, R126, R133, R134, R137, R139, R140, R142, R48, R49, R22: the publication of a scan group. The group's channels
take their samples, each with the event of its health change; the record of a boom carries the position latched at its own
group's sampling instant, which is the one before the last `later` times that the position was set in the scan, and the torque
estimate; then the logger accounts the scan (`w`; what that does stands in SlicesLoggedAndResinSized), the engine is told of
the health changes, tests the scan, and last the monitors of its sources. A turn of the restricted flag issues the feed drive
again under the cap or out of it (`v`). Whatever the health changes, no user but the canopy's loss or fault adds to the
channels. A channel that enters FAILED faults its engaged or holding boom with CHANNEL_FAILED and offers its record (R61,
R184); the canopy's takes a SET canopy to LOST and a RAISING one to FAULT; the scan's last group gives the scan its timestamp.
Model choice (log 9, log 10): the order of the users of one publication, and both channels before any user. Model choice (log
22): the command says where in the scan the sampling instant lay, a group out of its order begins a new scan, and the
timestamp of G3 is the even number at or below the present one. Model choice (log 27): FAULTED entry empties the hold cause
set. Model choice (log 45): a fault in the middle of a stroke sets no RESIN_EXTRA. Model choice (log 48): the closed log's last
slice keeps the time of its last contributing scan. -/
def Obligations.ScanGroupsPublish : Prop :=
  (∀ x y k, healthEvent x y = some k ↔
    (x, y, k) ∈
      [(Health.healthy, Health.suspect, ChannelEvent.suspect), (.suspect, .degraded, .degraded), (.degraded, .failed, .failed),
        (.suspect, .healthy, .recovered), (.failed, .healthy, .recovered)]) ∧
  ∀ s : State, s.phase = .running →
    let taken (c : AnalogId) (raw : RawSample) : Analog := (s.analog c).sample c (s.cal.shift c) raw (s.cal.convert c raw)
    let ev (c : AnalogId) (x : Analog) : BitVec 96 := match healthEvent (s.analog c).health x.health with
      | none => 0
      | some k => 1#96 <<< (Event.channel (.analog c) k).bit
    let scan (i : Nat) : Scan :=
      if i < s.scan.done then { done := i + 1, leftA := [], leftB := [] } else { s.scan with done := i + 1 }
    (∀ (b : BoomId) (rot feed : RawSample) (later : Nat),
      let held := (s.motion b).feedPos :: (match b with
        | .A => (scan 0).leftA
        | .B => (scan 1).leftB)
      let cr := rotChannel b
      let cf := feedChannel b
      let x := taken cr rot
      let y := taken cf feed
      let a1 := (({ s with scan := scan b.num, events := s.events ||| ev cr x ||| ev cf y } : State).setAnalog cr x).setAnalog cf y
      let a := a1.setMotion b
        { s.motion b with
          scanPos := held.getD later (held.getLastD 0)
          torqueEst := torqueEstimate x.filt (s.cal.idlePressure b) (s.cal.torqueFactor b) }
      let w := a.loggerScan b
      let u := (w.tellEngine b (s.analog cr).health x.health).tellEngine b (s.analog cf).health y.health
      let failed := x.health = .failed ∧ (s.analog cr).health ≠ .failed ∨ y.health = .failed ∧ (s.analog cf).health ≠ .failed
      exec (.scanGroupPublished (match b with
          | .A => .g0 rot feed later
          | .B => .g1 rot feed later)) s =
        .next ((u.engineScan b).publish [.value cr, .value cf, .filtered cr, .filtered cf, .torque b]) ∧
      u.analogs = a1.analogs ∧ u.motion b = a.motion b ∧ (∀ e, a.raised e = true → u.raised e = true) ∧
      (x.health = (s.analog cr).health → y.health = (s.analog cf).health → u = w) ∧
      ((s.engine b).restricted = s.restrictedNow b → (u.engine b).restricted = a.restrictedNow b) ∧
      ((s.engine b).restricted = s.restrictedNow b →
        ∃ v, RestrictedFollows w v b (a.restrictedNow b) ∧
          (¬failed ∨ (s.engine b).state.engaged = false ∧ (s.engine b).state ≠ .hold → u = v) ∧
          ((s.engine b).state = .hold → (s.engine b).jog ≠ none → ∀ i, u.pair i = v.pair i)) ∧
      ((s.engine b).restricted = false → s.restrictedNow b = false → a.restrictedNow b = true →
        u.raised (.restricted b) = true) ∧
      (failed → ChannelFault w u b)) ∧
    (∀ pump canopy : RawSample,
      let x := taken .pump pump
      let y := taken .canopy canopy
      let a :=
        (({ s with scan := scan 2, events := s.events ||| ev .pump x ||| ev .canopy y } : State).setAnalog .pump x).setAnalog
          .canopy y
      let failed := y.health = .failed ∧ (s.analog .canopy).health ≠ .failed
      ∃ u,
        exec (.scanGroupPublished (.g2 pump canopy)) s =
          .next (u.canopyScan.publish [.value .pump, .value .canopy, .filtered .pump, .filtered .canopy]) ∧
        u.analogs = a.analogs ∧ (∀ e, a.raised e = true → u.raised e = true) ∧
        (¬failed → u = { a with canopyPair := u.canopyPair }) ∧
        (¬failed → ∀ n r, s.canopyPair.monitor = .armed n r false → s.canopyPair.counting = true →
          u.canopyPair =
            { s.canopyPair with
              monitor := if r + 20 ≤ y.val then .armed (s.cal.response .canopy) y.val false else .armed n r false }) ∧
        (¬failed → s.canopyPair.counting = false → u.canopyPair = s.canopyPair) ∧
        (failed →
          (s.canopy.state = .set →
            u.canopy.state = .lost ∧ u.raised .canopyLost = true ∧ HoldReached a u .A .canopy ∧ HoldReached a u .B .canopy) ∧
          (s.canopy.state = .raising → u.canopy.state = .fault ∧ u.canopy.fault = .channel ∧ HoldsNone u .canopy ∧
            u.raised .canopyFault = true) ∧
          (s.canopy.state ≠ .set → s.canopy.state ≠ .raising → u = { a with canopyPair := u.canopyPair }))) ∧
    ∀ oil : RawSample,
      exec (.scanGroupPublished (.g3 oil)) s =
        .next (State.publish
          { s with
            analogs := { s.analogs with oil := taken .oil oil }
            events := s.events ||| ev .oil (taken .oil oil)
            scan := scan 3
            lastScan := s.now - BitVec.ofNat 32 (s.now.toNat % 2) }
          [.value .oil])

/-- R143, R138, R145: RESTORE CHANNEL starts the restore progress of a FAILED channel, is refused with WRONG_STATE in any other
health and with BAD_FIELD, detail 1, above channel 8; and a head channel counts its samples, and its restore, like an analog
one.
Model choice (log 46): the reply is on the line at once. -/
def Obligations.RestoreChannelCounts : Prop :=
  (∀ (q c : Byte) (s : State), s.takesFrames = true →
    let i := Instr.restoreChannel q [c]
    (8 < c.toNat → exec i s = .next (answered s q 0x1D (.refused .badField 1))) ∧
    (∀ a : AnalogId, c.toNat = a.num →
      ((s.analog a).count ≤ 255 → exec i s = .next (answered s q 0x1D (.refused .wrongState 0))) ∧
      (255 < (s.analog a).count →
        exec i s = .next (answered (s.setAnalog a { s.analog a with restore := some 0 }) q 0x1D
          (.accepted [.u8 c.toNat, .u8 0])))) ∧
    ∀ b : BoomId, c.toNat = 7 + b.num →
      ((s.head b).count ≤ 255 → exec i s = .next (answered s q 0x1D (.refused .wrongState 0))) ∧
      (255 < (s.head b).count →
        exec i s = .next (answered (s.setHead b { s.head b with restore := some 0 }) q 0x1D
          (.accepted [.u8 c.toNat, .u8 0])))) ∧
  ∀ (h : Head) (good : Bool),
    let t := h.sampled good
    (h.count ≤ 255 → t.count = (if good then h.count - 1 else min (h.count + 8) 256) ∧ t.restore = h.restore) ∧
    (255 < h.count →
      (h.restore = some 127 → good = true → t.count = 0 ∧ t.restore = none) ∧
      (h.restore ≠ some 127 ∨ good = false →
        t.count = h.count ∧ t.restore = h.restore.map (fun p => if good then p + 1 else 0))) ∧
    t.data = h.data ∧ t.published = h.published ∧ t.stale = h.stale

/-- R58 to R71, R26, R22. A closing slice of `len` mm: its mean pressures (the filtered values where no scan contributed), its
count scaled to 20 mm, its strata index, its class, and with the class the feed choice, the HARD count and the void found. A
scan that reaches a new depth contributes its pressures, its tally and its time to the open slice, closes every slice that the
new depth completes, and leaves a slice open at the depth; at the same depth nothing is accounted, and at a lower one the
tally alone is dropped. In the part the logger takes the scans of the cut, of backoff and of DRILL and no others; the first
void of the bond zone raises VOID_FOUND and marks the record, and where a scan of DRILL outside backoff closes a slice, a
granted boom's feed pair gets the choice in force at once. At the end of DRILL and at a fault the open slice closes with the
length it has, where that is at least 1 mm. Sizing: the measure of a class is the sum over the log of the parts of its slices
inside the zone; the fill needs the bond length and the weighted voids and softs; the count is the least number of cartridges
that carries it, kept between the base and the plan's maximum, with UNDER_RESIN where the maximum cuts it.
Model choice (log 22): the timestamp of the scan is the even number at or below the present one. Model choice (log 48): an open
slice that closes without a contributing scan keeps the time of its last one. -/
def Obligations.SlicesLoggedAndResinSized : Prop :=
  (∀ (l : Logger) (p : HolePlan) (hl len : Nat) (v : ScanValues), 1 ≤ len → len ≤ 20 →
    p.voidMax < p.softMax → p.softMax < p.hardMin →
    let x := l.slice
    let pr := if x.n = 0 then v.rotFilt else x.rotSum / x.n
    let pf := if x.n = 0 then v.feedFilt else x.feedSum / x.n
    let qs := if len = 20 then x.q else x.q * 20 / len
    let se := min ((pr * qs + p.kf * pf) / 64) 65535
    let dropped := len = 20 ∧ ∃ m, p.dropTime = some m ∧ x.time < m
    let t := l.close p hl len v
    ∃ e, t.log = l.log ++ [e] ∧ e.se = se ∧ e.time = x.time ∧ e.q = x.q ∧
      (e.cls = .void ↔ dropped ∨ se ≤ p.voidMax) ∧
      (e.cls = .soft ↔ ¬dropped ∧ p.voidMax < se ∧ se ≤ p.softMax) ∧
      (e.cls = .firm ↔ ¬dropped ∧ p.softMax < se ∧ se < p.hardMin) ∧
      (e.cls = .hard ↔ ¬dropped ∧ p.hardMin ≤ se) ∧
      t.feedChoice = (match e.cls with
        | .hard => p.hardFeed.getD p.drillFeed
        | .void => p.voidFeed.getD p.drillFeed
        | _ => p.drillFeed) ∧
      t.hard = (if e.cls = .hard then l.hard + 1 else l.hard) ∧
      t.voidFound =
        (l.voidFound ||
          decide (e.cls = .void ∧ hl - p.bondLength < min (20 * x.index + len) hl ∧ 20 * x.index < hl)) ∧
      t.slice = l.slice ∧ t.h = l.h ∧ t.collarZero = l.collarZero) ∧
  (∀ (l : Logger) (p : HolePlan) (hl : Nat) (d : Int) (v : ScanValues), l.log.length = l.slice.index →
    20 * l.slice.index ≤ l.h → l.h ≤ hl →
    let t := l.take p hl d v
    let x := { l.slice with
      rotSum := l.slice.rotSum + v.rot, feedSum := l.slice.feedSum + v.feed, n := l.slice.n + 1
      q := min (l.slice.q + l.tally) 4095, time := min (v.stamp - l.slice.openedAt).toNat 65535 }
    ((l.h : Int) < d →
      t.h = min d.toNat hl ∧ t.tally = 0 ∧ t.log.length = t.slice.index ∧ t.slice.index = max l.slice.index (t.h / 20) ∧
      (∀ i, i < l.log.length → t.log[i]? = l.log[i]?) ∧
      (t.h / 20 = l.slice.index → t.slice = x ∧ t.log = l.log) ∧
      (l.slice.index < t.h / 20 →
        t.slice = { index := t.h / 20, openedAt := v.stamp } ∧ t.log[l.slice.index]? = some (closingEntry p x 20 v) ∧
          ∀ i, l.slice.index < i → i < t.h / 20 →
            t.log[i]? = some (closingEntry p { index := i, openedAt := v.stamp } 20 v))) ∧
    (d = l.h → t = l) ∧ (d < l.h → t = { l with tally := 0 })) ∧
  (∀ (b : BoomId) (s : State),
    let e := s.engine b
    let l := s.logger b
    let taken := e.state = .collar ∧ e.sub ≠ .approach ∨ e.state = .drill
    (¬taken → s.loggerScan b = s) ∧
    ∀ z, taken → l.collarZero = some z →
      let rot := s.analog (rotChannel b)
      let feed := s.analog (feedChannel b)
      let l' := l.take (s.activePlan b) (s.activeValues b).holeLength (((s.motion b).scanPos : Int) - z)
        { rot := rot.val.toNat, feed := feed.val.toNat, rotFilt := rot.filt.toNat, feedFilt := feed.filt.toNat
          stamp := scanStamp s.now }
      let u :=
        if l'.voidFound = true ∧ l.voidFound = false then
          ((s.setLogger b l').setEngine b
            { e with
              record := e.record.map (fun r => { r with flags := { r.flags with voidInBond := true } }) }).raise (.voidFound b)
        else s.setLogger b l'
      let chooses := e.state = .drill ∧ e.sub ≠ .backoff ∧ l'.log.length ≠ l.log.length ∧ s.granted (.boom b) = true
      (chooses → FeedReissued u (s.loggerScan b) b) ∧ (¬chooses → s.loggerScan b = u)) ∧
  (∀ (l : Logger) (p : HolePlan) (hl : Nat) (v : ScanValues),
    let len := l.h - 20 * l.slice.index
    (len = 0 → l.closeOpen p hl v = l) ∧ (1 ≤ len → l.closeOpen p hl v = l.close p hl len v)) ∧
  (∀ (c : SliceClass) (z d i : Nat) (log : List SliceEntry),
    zoneSum c z d i log =
      ((log.zipIdx i).map (fun x =>
        if x.1.cls = c then min (20 * x.2 + min 20 (d - 20 * x.2)) d - max (20 * x.2) z else 0)).sum) ∧
  ∀ (p : HolePlan) (base void soft : Nat), 0 < p.fill → base ≤ p.maxCart →
    let rf := requiredFill p void soft
    let c := cartridgeCount p base rf
    rf = p.bondLength + void * p.wv / 4 + soft * p.ws / 4 ∧ base ≤ c.1 ∧ c.1 ≤ p.maxCart ∧
      (c.2 = false → rf ≤ c.1 * p.fill ∧ ∀ k, base ≤ k → rf ≤ k * p.fill → c.1 ≤ k) ∧
      (c.2 = true ↔ p.maxCart * p.fill < rf) ∧ (c.2 = true → c.1 = p.maxCart)

/-! ## The flow arbiter (chapter 4) -/

/-- R84, R85, R76, R83, R89: SET PUMP BUDGET clamps the budget to 20 to 240, preempts what the budget no longer holds, runs the
grant pass once, and answers with the budget, the number of grants its change preempted and the free flow after the pass. It
preempts the highest class number first and within a class the most recently granted, until the demands lie within the budget
and no further (`BudgetFitted`). The preempted requesters are told, in that order, then those that the pass grants or preempts;
what the pass does, and a requester told, stands in PlacementGrantedOrWaits. FLOW_STARVED marks the waiting request of its
requester, once per wait, raising FLOW_STARVED for a boom; nothing else changes, no order and no grant.
Model choice (log 16): the reply counts the grants that the new budget itself preempts. Model choice (log 3): the command
FLOW_STARVED is the expiry itself, and the wait time then stands at or above its limit.
Model choice (log 46): the reply is on the line at once. -/
def Obligations.PumpBudgetAndStarvation : Prop :=
  (∀ (q hi lo : Byte) (s : State), s.takesFrames = true → ArbiterOk s.arb →
    let v := hi.toNat * 256 + lo.toNat
    let n := if v < 20 then 20 else if v ≤ 240 then v else 240
    ∃ c gone t, BudgetFitted s.arb n c gone ∧
      exec (.setPumpBudget q [hi, lo]) s = .next (answered t q 0x1A
        (.accepted [.u8 n, .u8 gone.length, .u8 (n - (t.arb.grants.map (·.demand)).sum)])) ∧
      t = c.pass.2.foldl State.tell
        { (gone.map (fun r => FlowNote.mk r.who false)).foldl State.tell { s with arb := c } with arb := c.pass.1 } ∧
      t.arb = c.pass.1 ∧ (t.arb.grants.map (·.demand)).sum ≤ n ∧
      FlowEffect { s with arb := { s.arb with budget := n } } t ∧
      (s.arb.waits = [] → (s.arb.grants.map (·.demand)).sum ≤ n → t = { s with arb := { s.arb with budget := n } })) ∧
  ∀ (who : Requester) (s : State), s.phase = .running →
    ((∀ w ∈ s.arb.waits, w.req.who = who → w.starved = true) → exec (.flowStarved who) s = .next s) ∧
    ((∃ w ∈ s.arb.waits, w.req.who = who ∧ w.starved = false) →
      exec (.flowStarved who) s = .next
        { s with
          arb :=
            { s.arb with
              waits := s.arb.waits.map (fun w =>
                if w.req.who = who then { w with starved := true, wait := max w.wait s.cal.starvation } else w) }
          events := (match who with
            | .boom b => s.events ||| (1#96 <<< (Event.flowStarved b).bit)
            | .canopy => s.events) })

/-- R73 to R83, R86, R87: the arbiter. A placement or an exchange gives up the request held, renumbers the others in the order
of their stamps where the counter has come to its end, and puts the new request, with the next stamp, at its place in the wait
list. A grant pass grants heads at the tail of the table, none past one that waits, and preempts for heads of class 1 and 2
only: the highest class number first and the most recent grant first, never one of the head's class or below, and just what it
needs: before the last of the grants it preempts, the free flow was below the head's demand. It ends with a head that cannot
be granted, holds every request it found, and tells each requester. Placed with nobody waiting, a request is granted within
the free flow, and beyond it waits or preempts just what it needs, in the same sense. Each requester is told what became of its
request, a preemption before the grant that may follow it. R21, R22, R86, R87, R94, R99: a grant reissues the drive of the
boom's step, with ARM on its first drive and else with CONTINUE, or drives the jogged pair; a preemption puts the boom's pairs
off under HOLD, so that their monitors freeze, and marks a MIX as interrupted; the canopy drives its motion, or is off under
HOLD. In the part, `place` and `withdraw` are
these with one pass, which touches nothing but the requesters. -/
def Obligations.PlacementGrantedOrWaits : Prop :=
  (∀ (a : Arbiter) (who : Requester) (p : Purpose) (d : Nat), ArbiterOk a → StampsOk a →
    let full := a.counter = 65535
    let stamp (x : FlowReq) : Nat := if full then 1 + (a.held.filter (fun y => y.stamp < x.stamp)).length else x.stamp
    let kept (x : FlowReq) : FlowReq := { x with stamp := stamp x }
    let r : FlowReq :=
      { who := who, purpose := p, cls := p.cls, demand := d, stamp := 1 + if full then a.held.length else a.counter }
    let t := a.submit who p d
    t.counter = r.stamp ∧ t.budget = a.budget ∧ t.grants = (a.grants.filter (fun x => x.who != who)).map kept ∧
      (∃ x y, t.waits = x ++ { req := r, wait := 0, starved := false } :: y ∧
        x ++ y = (a.waits.filter (fun w => w.req.who != who)).map (fun w => { w with req := kept w.req })) ∧
      (∀ x ∈ a.held, ∀ y ∈ a.held, stamp x < stamp y ↔ x.stamp < y.stamp) ∧ ArbiterOk t ∧ StampsOk t) ∧
  (∀ a : Arbiter, ArbiterOk a → StampsOk a →
    let t := a.pass.1
    t.held.Perm a.held ∧ t.budget = a.budget ∧ t.counter = a.counter ∧ ArbiterOk t ∧ StampsOk t ∧
      (∀ w ws, t.waits = w :: ws →
        t.free < w.req.demand ∧
          (3 ≤ w.req.cls ∨
            t.free + ((t.grants.filter (fun x => w.req.cls < x.cls)).map (·.demand)).sum < w.req.demand)) ∧
      ∃ stay added, t.grants = stay ++ added ∧ stay.Sublist a.grants ∧
        (∀ who : Requester, a.pass.2.filter (fun n => n.who == who) =
          (if ∃ r ∈ a.grants, r.who = who ∧ r ∉ stay then [⟨who, false⟩] else []) ++
            if ∃ g ∈ added, g.who = who then [⟨who, true⟩] else []) ∧
        (∀ g ∈ added, FlowNote.mk g.who true ∈ a.pass.2 ∧
          ∀ w ∈ t.waits, g.cls < w.req.cls ∨ g.cls = w.req.cls ∧ g.stamp < w.req.stamp) ∧
        (∀ r ∈ a.grants, r ∉ stay →
          FlowNote.mk r.who false ∈ a.pass.2 ∧ (∃ g ∈ added, g.cls < 3 ∧ g.cls < r.cls) ∧
            (r ∈ added ∨ { req := r, wait := 0, starved := false } ∈ t.waits) ∧
            ∀ y ∈ stay, y.cls < r.cls ∨ y.cls = r.cls ∧ a.grants.idxOf y < a.grants.idxOf r) ∧
        (stay ≠ a.grants →
          ∃ before g after r, added = before ++ g :: after ∧ g.cls < 3 ∧ g.cls < r.cls ∧ LastPreempted a stay r ∧
            a.budget < (stay.map (·.demand)).sum + (before.map (·.demand)).sum + r.demand + g.demand)) ∧
  (∀ (a : Arbiter) (who : Requester) (p : Purpose) (d : Nat), ArbiterOk a → a.waits = [] → a.counter < 65535 →
    (∀ r ∈ a.grants, r.who ≠ who) →
    let r : FlowReq := { who := who, purpose := p, cls := p.cls, demand := d, stamp := a.counter + 1 }
    let t := (a.submit who p d).pass.1
    t.counter = a.counter + 1 ∧
      (d + a.grantedSum ≤ a.budget → t.grants = a.grants ++ [r] ∧ t.waits = []) ∧
      (a.budget < d + a.grantedSum →
        (3 ≤ r.cls → t.grants = a.grants ∧ t.waits = [r.waiting]) ∧
        (r.cls < 3 → a.free + ((a.grants.filter (fun x => r.cls < x.cls)).map (·.demand)).sum < d →
          t.grants = a.grants ∧ t.waits = [r.waiting]) ∧
        (r.cls < 3 → d ≤ a.free + ((a.grants.filter (fun x => r.cls < x.cls)).map (·.demand)).sum →
          r ∈ t.grants ∧ (∀ x ∈ a.grants, x.cls ≤ r.cls → x ∈ t.grants) ∧
            ∃ stay added v, t.grants = stay ++ r :: added ∧ stay.Sublist a.grants ∧ LastPreempted a stay v ∧
              (∀ x ∈ a.grants, x ∉ stay → r.cls < x.cls) ∧
              a.budget < (stay.map (·.demand)).sum + v.demand + d))) ∧
  ∀ (s : State) (who : Requester),
    (∀ p,
      let x := (s.arb.submit who p (s.cal.demand who p)).pass
      s.place who p = x.2.foldl State.tell { s with arb := x.1 } ∧ (s.place who p).arb = x.1 ∧ FlowEffect s (s.place who p)) ∧
    ((∃ r ∈ s.arb.held, r.who = who) →
      let x := Arbiter.pass
        { s.arb with
          grants := s.arb.grants.filter (fun x => x.who != who)
          waits := s.arb.waits.filter (fun w => w.req.who != who) }
      s.withdraw who = x.2.foldl State.tell { s with arb := x.1 } ∧ (s.withdraw who).arb = x.1 ∧
        FlowEffect s (s.withdraw who)) ∧
    ((∀ r ∈ s.arb.held, r.who ≠ who) → s.withdraw who = s) ∧
    let g := s.tell ⟨who, true⟩
    let p := s.tell ⟨who, false⟩
    let onDrive (arm : Bool) (i : PairId) (x : PairMonitor) : PairMonitor :=
      if arm = true then .armed (s.cal.response i) (if i = .canopy then (s.analog .canopy).val else 0) false
      else match x with
        | .armed n r _ => .armed n r false
        | .disarmed => .disarmed
    let driven (i : PairId) (d : Dir) (duty : Nat) (m : PairMonitor) : Prop :=
      (g.pair i).dir = some d ∧ (g.pair i).duty = duty ∧ (g.pair i).monitor = m
    let off (t : State) (i : PairId) (m : PairMonitor) : Prop :=
      (t.pair i).dir = none ∧ (t.pair i).coil = .off ∧ (t.pair i).monitor = m
    let frozen (x : PairMonitor) : PairMonitor := match x with
      | .armed n r _ => .armed n r true
      | .disarmed => .disarmed
    FlowEffect s g ∧ FlowEffect s p ∧ g.arb = s.arb ∧ p.arb = s.arb ∧
      (∀ b, who = .boom b →
        g = s.setBoom b { s.boom b with engine := g.engine b, pairs := (g.boom b).pairs } ∧
        p = s.setBoom b { s.boom b with engine := p.engine b, pairs := (p.boom b).pairs } ∧
        ((s.engine b).jog = none →
          g.engine b = { s.engine b with armOnGrant := false } ∧
          ∀ f,
            ((s.stepDrive b).of f = none → off g (.boom b f) .disarmed) ∧
            ∀ d duty, (s.stepDrive b).of f = some (d, duty) →
              driven (.boom b f) d duty
                (if (s.stepDrive b).monitored = some f then
                  onDrive (s.engine b).armOnGrant (.boom b f) (s.pair (.boom b f)).monitor
                else .disarmed)) ∧
        (∀ j, (s.engine b).jog = some j →
          g.engine b = s.engine b ∧
            ∀ f,
              (f = j.fn →
                driven (.boom b f) j.dir
                  (if f = .feed ∧ (s.engine b).restricted = true then min j.duty 500 else j.duty) .disarmed) ∧
                (f ≠ j.fn → off g (.boom b f) .disarmed)) ∧
        (∀ f, off p (.boom b f) (frozen (s.pair (.boom b f)).monitor)) ∧
        p.engine b =
          { s.engine b with
            record :=
              if (s.engine b).state = .mix then
                (s.engine b).record.map (fun r => { r with flags := { r.flags with mixInterrupted := true } })
              else (s.engine b).record }) ∧
      (who = .canopy →
        g = { s with canopy := g.canopy, canopyPair := g.canopyPair } ∧ p = { s with canopyPair := p.canopyPair } ∧
        (s.canopy.state = .raising →
          g.canopy = { s.canopy with armOnGrant := false } ∧
            driven .canopy .first s.cal.raiseDuty
              (if s.canopy.setRun.isSome = true then .disarmed
              else onDrive s.canopy.armOnGrant .canopy s.canopyPair.monitor)) ∧
        (s.canopy.state = .lowering → g.canopy = s.canopy ∧ driven .canopy .second s.cal.lowerDuty .disarmed) ∧
        (s.canopy.state ≠ .raising → s.canopy.state ≠ .lowering → g = s) ∧
        off p .canopy (frozen s.canopyPair.monitor))

/-! ## Canopy support (chapter 5) -/

/-- R93, R94, R98, R99: CANOPY RAISE and CANOPY LOWER, each refused while the other motion is granted, under the trip latch,
and RAISE with a FAILED channel, LOWER while a boom keeps the canopy. Accepted, RAISE enters RAISING with its class 1 request
(nothing happens in RAISING and SET), and LOWER enters LOWERING, or LOWERED where the lowered switch stands closed (nothing
happens in LOWERING and LOWERED).
Model choice (log 27): each change of the canopy state makes both confirm runs absent and the fault reason NONE.
Model choice (log 44): a motion entered in flow wait leaves the monitor disarmed. Model choice (log 38): the coding of the
mark of a grant in RAISE's reply.
Model choice (log 46): the reply is on the line at once. -/
def Obligations.CanopyRaiseAndLower : Prop :=
  ∀ (q : Byte) (s : State), s.takesFrames = true →
    let raise := Instr.canopyRaise q []
    let lower := Instr.canopyLower q []
    let c := s.canopy
    let keeps := ∃ b, (s.engine b).state.engaged = true ∨
      ((s.engine b).state = .hold ∨ (s.engine b).state = .faulted) ∧ s.closed (.home b) = false
    let plain (st : CanopyState) : Canopy := { c with state := st, setRun := none, lossRun := none, fault := .none, armOnGrant := false }
    (c.state = .lowering ∧ s.granted .canopy = true → exec raise s = .next (answered s q 0x17 (.refused .wrongState 0))) ∧
    (¬(c.state = .lowering ∧ s.granted .canopy = true) →
      (s.trip = true → exec raise s = .next (answered s q 0x17 (.refused .interlock 2))) ∧
      (s.trip = false → 255 < (s.analog .canopy).count →
        exec raise s = .next (answered s q 0x17 (.refused .interlock 10))) ∧
      (s.trip = false → (s.analog .canopy).count ≤ 255 →
        (c.state = .raising → exec raise s = .next (answered s q 0x17 (.accepted [.u8 1, .flag (s.granted .canopy)]))) ∧
        (c.state = .set → exec raise s = .next (answered s q 0x17 (.accepted [.u8 2, .flag false]))) ∧
        (c.state ≠ .raising → c.state ≠ .set →
          ∃ t, exec raise s = .next (answered t q 0x17 (.accepted [.u8 1, .flag (t.granted .canopy)])) ∧
            FlowEffect { s with canopy := plain .raising } t ∧
            HoldsRequest t .canopy .canopyRaise 1 (s.cal.demand .canopy .canopyRaise) ∧
            t.canopyPair.dir = (if t.granted .canopy = true then some .first else none) ∧
            t.canopyPair.duty = (if t.granted .canopy = true then s.cal.raiseDuty else 0) ∧
            t.canopyPair.monitor =
              if t.granted .canopy = true then .armed (s.cal.response .canopy) (s.analog .canopy).val false
              else .disarmed))) ∧
    (c.state = .raising ∧ s.granted .canopy = true → exec lower s = .next (answered s q 0x18 (.refused .wrongState 0))) ∧
    (¬(c.state = .raising ∧ s.granted .canopy = true) →
      (s.trip = true → exec lower s = .next (answered s q 0x18 (.refused .interlock 2))) ∧
      (s.trip = false → keeps → exec lower s = .next (answered s q 0x18 (.refused .interlock 11))) ∧
      (s.trip = false → ¬keeps →
        (c.state = .lowering ∨ c.state = .lowered → exec lower s = .next (answered s q 0x18 (.accepted [.u8 c.state.num]))) ∧
        (c.state = .set ∨ c.state = .lost ∨ c.state = .fault → s.closed .clow = true →
          exec lower s = .next (answered { s with canopy := plain .lowered } q 0x18 (.accepted [.u8 0]))) ∧
        (c.state = .raising → s.closed .clow = true →
          ∃ t, exec lower s = .next (answered t q 0x18 (.accepted [.u8 0])) ∧ t.canopy = { plain .lowered with lowerTimer := 0 } ∧
            HoldsNone t .canopy ∧ t.canopyPair.dir = none ∧ t.canopyPair.monitor = .disarmed) ∧
        (c.state ≠ .lowering → c.state ≠ .lowered → s.closed .clow = false →
          ∃ t, exec lower s = .next (answered t q 0x18 (.accepted [.u8 4])) ∧
            FlowEffect { s with canopy := { plain .lowering with lowerTimer := 0 } } t ∧
            HoldsRequest t .canopy .canopyLower 1 (s.cal.demand .canopy .canopyLower) ∧
            t.canopyPair.dir = (if t.granted .canopy = true then some .second else none) ∧
            t.canopyPair.duty = (if t.granted .canopy = true then s.cal.lowerDuty else 0) ∧
            t.canopyPair.monitor = .disarmed)))

/-- R94, R95, R97, R99, R101, R102: the lowering limit while the lower request is granted ends LOWERING in FAULT; a qualified
change of the lowered switch takes LOWERED to LOST on an opening, with CANOPY_LOST, and LOST, FAULT and LOWERING to LOWERED on
a closing. In the controller's test of a scan, RAISING is SET when the set condition has held for 500 ms from the scan that
began its run, and a break arms the monitor again; SET is lost, with the hold to both booms, when the pressure has stood below
the lost level for 200 ms on a channel in HEALTHY or SUSPECT.
Model choice (log 3): the command is the expiry itself, and the timer then stands at or above its limit. Model choice
(log 27): a change of the lowered switch that changes the state makes both confirm runs absent. Model choice (log 25): a held
value of a DEGRADED channel begins a loss run and keeps it. Model choice (log 22): the scan's timestamp is the even number at
or below the present one. Model choice (log 39): the first change after a power-on follows the same table. -/
def Obligations.CanopyConfirmedLostLowered : Prop :=
  (∀ s : State, s.phase = .running →
    let plain (st : CanopyState) (f : CanopyFault) : Canopy :=
      { s.canopy with state := st, setRun := none, lossRun := none, fault := f, armOnGrant := false }
    (¬(s.canopy.state = .lowering ∧ s.granted .canopy = true) → exec .canopyLowerTimeout s = .next s) ∧
    (s.canopy.state = .lowering → s.granted .canopy = true →
      ∃ t, exec .canopyLowerTimeout s = .next t ∧
        t.canopy = { plain .fault .lowerTimeout with lowerTimer := max s.canopy.lowerTimer s.cal.lowerLimit } ∧
        t.raised .canopyFault = true ∧ HoldsNone t .canopy ∧ t.canopyPair.dir = none) ∧
    let lv (x : Bool) : State := { s with clow := { line := x, level := x, run := none } }
    (s.clow.level = true →
      (s.canopy.state = .lowered →
        exec (.switchQualifiedChange .clow) s =
          .next { lv false with
            canopy := plain .lost .none, events := s.events ||| (1#96 <<< Event.canopyLost.bit) }) ∧
      (s.canopy.state ≠ .lowered → exec (.switchQualifiedChange .clow) s = .next (lv false))) ∧
    (s.clow.level = false →
      (s.canopy.state = .lost ∨ s.canopy.state = .fault →
        exec (.switchQualifiedChange .clow) s = .next { lv true with canopy := plain .lowered .none }) ∧
      (s.canopy.state = .lowering →
        ∃ t, exec (.switchQualifiedChange .clow) s = .next t ∧ t.canopy = plain .lowered .none ∧ t.clow.level = true ∧
          HoldsNone t .canopy ∧ t.canopyPair.dir = none ∧ t.events = s.events) ∧
      (s.canopy.state = .lowered ∨ s.canopy.state = .raising ∨ s.canopy.state = .set →
        exec (.switchQualifiedChange .clow) s = .next (lv true)))) ∧
  ∀ s : State,
    let c := s.analog .canopy
    let now := s.now - BitVec.ofNat 32 (s.now.toNat % 2)
    let holds := (s.cal.setLevel : Int) ≤ c.val ∧ c.good = true ∧ c.count ≤ 127
    let t := s.canopyScan
    let plain (st : CanopyState) : Canopy :=
      { s.canopy with state := st, setRun := none, lossRun := none, fault := .none, armOnGrant := false }
    (s.canopy.state = .raising →
      (holds → s.canopy.setRun = none →
        t = { s with canopy := { s.canopy with setRun := some now }, canopyPair := t.canopyPair } ∧
          t.canopyPair.monitor = .disarmed ∧
          t.canopyPair.dir = if s.granted .canopy = true then some .first else none) ∧
      (∀ x, holds → s.canopy.setRun = some x → (now - x).toNat < 500 → t = s) ∧
      (∀ x, holds → s.canopy.setRun = some x → 500 ≤ (now - x).toNat →
        t.canopy = plain .set ∧ t.raised .canopySet = true ∧ HoldsNone t .canopy ∧ t.canopyPair.dir = none ∧
          t.canopyPair.monitor = .disarmed ∧ ∀ b, (t.engine b).state = (s.engine b).state) ∧
      (¬holds → s.canopy.setRun = none → t = s) ∧
      (¬holds → s.canopy.setRun ≠ none →
        t.canopy.state = .raising ∧ t.canopy.setRun = none ∧ t.arb = s.arb ∧
          (s.granted .canopy = true → t.canopyPair.monitor = .armed (s.cal.response .canopy) c.val false) ∧
          (s.granted .canopy = false → t.canopy.armOnGrant = true ∧ t.canopyPair = s.canopyPair))) ∧
    (s.canopy.state = .set →
      ((s.cal.lostLevel : Int) ≤ c.val → t = { s with canopy := { s.canopy with lossRun := none } }) ∧
      (c.val < s.cal.lostLevel →
        (s.canopy.lossRun = none → t = { s with canopy := { s.canopy with lossRun := some now } }) ∧
        ∀ x, s.canopy.lossRun = some x →
          ((now - x).toNat < 200 ∨ 127 < c.count → t = s) ∧
          (200 ≤ (now - x).toNat → c.count ≤ 127 →
            t.canopy = { plain .lost with armOnGrant := t.canopy.armOnGrant } ∧ t.raised .canopyLost = true ∧
              HoldReached s t .A .canopy ∧ HoldReached s t .B .canopy))) ∧
    (s.canopy.state ≠ .raising → s.canopy.state ≠ .set → t = s)

/-! ## Trips, switches, pulses and pairs (chapters 6 and 7) -/

/-- R112, R111, R107, R41, R53, R100: the emergency stop, qualified active, sets the trip latch: every coil goes off with the
dead time loaded where it was driving, both booms get the hold cause TRIP, jogs end, a canopy in motion is lost, and
TRIP_LATCHED is raised. With the latch set already, or on a return to inactive, only the level changes.
Model choice (log 3): the command is the qualified change itself, taken whatever the line and the run, and the line then stands
at its level. Model choice (log 9): boom A takes the cause before boom B. -/
def Obligations.TripLatchStopsTheRig : Prop :=
  ∀ s : State, s.phase = .running →
    let lv (x : Bool) : State := { s with estop := { line := x, level := x, run := none } }
    (s.estop.level = true → exec (.switchQualifiedChange .estop) s = .next (lv false)) ∧
    (s.estop.level = false → s.trip = true → exec (.switchQualifiedChange .estop) s = .next (lv true)) ∧
    (s.estop.level = false → s.trip = false →
      ∃ t, exec (.switchQualifiedChange .estop) s = .next t ∧ t.trip = true ∧ t.estop.level = true ∧
        t.raised .tripLatched = true ∧ HoldReached s t .A .trip ∧ HoldReached s t .B .trip ∧
        (∀ b, (t.engine b).jog = none) ∧
        (∀ i, (t.pair i).coil = .off ∧ (t.pair i).last = (s.pair i).last ∧
          (t.pair i).dead = (match (s.pair i).coil with
            | .driving _ => s.cal.deadTime i
            | _ => (s.pair i).dead)) ∧
        (s.canopy.state = .raising ∨ s.canopy.state = .lowering →
          t.canopy.state = .lost ∧ t.raised .canopyLost = true ∧ HoldsNone t .canopy) ∧
        (s.canopy.state ≠ .raising → s.canopy.state ≠ .lowering → t.canopy.state = s.canopy.state))

/-- R113, R111, R107 to R109: CLEAR TRIP is refused with INTERLOCK, detail 12, while the emergency stop is active; else it
clears a latch that stands, says whether it stood, and a pair whose gate opens drives what it is requested to, or is DEAD
while its timer runs against another direction; where the latch is clear already nothing changes. The end of the dead time
drives a pair that waits for it, from the start of a new pulse period; a timer over an idle pair, or one that is idle, changes
no coil. R106, R108, R109, R119: a drive request takes direction, duty, applied duty and monitor instruction, and the coil by
the table of R108, a coil that begins to drive a new pulse period and one that drives on its old one; an off request puts the
coil off, with the monitor frozen under HOLD and disarmed under NONE.
Model choice (log 3): the dead time ends with the command.
Model choice (log 38): the coding of the mark in CLEAR TRIP's reply.
Model choice (log 46): the reply is on the line at once. -/
def Obligations.PairsDecidedAfresh : Prop :=
  (∀ (i : PairId) (s : State),
    let x := s.pair i
    let dead (d : Option Dir) : Nat := match x.coil with
      | .driving e => if s.gateOpen i = true ∧ d = some e then x.dead else s.cal.deadTime i
      | _ => x.dead
    (∀ (d : Dir) (c : Nat) (m : Arming),
      let t := s.request i (.drive d c m)
      let y := t.pair i
      t = s.setPair i y ∧ y.dir = some d ∧ y.duty = c ∧
        y.applied = (if c = 0 then 0 else s.cal.minDuty i + c * (1000 - s.cal.minDuty i) / 1000) ∧
        (m = .arm →
          y.monitor = .armed (s.cal.response i) (if i = .canopy then (s.analog .canopy).val else 0) false) ∧
        (m = .continue → (∀ n r z, x.monitor = .armed n r z → y.monitor = .armed n r false) ∧
          (x.monitor = .disarmed → y.monitor = .disarmed)) ∧
        (m = .none → y.monitor = .disarmed) ∧
        (s.gateOpen i = false → y.coil = .off ∧ y.dead = dead (some d) ∧ y.last = x.last) ∧
        (s.gateOpen i = true → dead (some d) = 0 ∨ x.last = some d →
          y.coil = .driving d ∧ y.last = some d ∧ y.dead = 0 ∧
            y.pulse =
              if x.coil = .driving d then x.pulse else { duty := y.applied, period := s.cal.period i, elapsed := 0 }) ∧
        (s.gateOpen i = true → dead (some d) ≠ 0 → x.last ≠ some d →
          y.coil = .dead ∧ y.dead = dead (some d) ∧ y.last = x.last)) ∧
    ∀ hold : Bool,
      let t := s.request i (.off hold)
      let y := t.pair i
      t = s.setPair i y ∧ y.dir = none ∧ y.duty = 0 ∧ y.applied = 0 ∧ y.coil = .off ∧ y.dead = dead none ∧ y.last = x.last ∧
        (∀ n r z, hold = true → x.monitor = .armed n r z → y.monitor = .armed n r true) ∧
        (hold = false ∨ x.monitor = .disarmed → y.monitor = .disarmed)) ∧
  (∀ (q : Byte) (s : State), s.takesFrames = true →
    (s.closed .estop = true → exec (.clearTrip q []) s = .next (answered s q 0x19 (.refused .interlock 12))) ∧
    (s.closed .estop = false → s.trip = false →
      exec (.clearTrip q []) s = .next (answered s q 0x19 (.accepted [.flag false]))) ∧
    (s.closed .estop = false → s.trip = true →
      ∃ t, exec (.clearTrip q []) s = .next (answered t q 0x19 (.accepted [.flag true])) ∧
        t = { s with
          trip := false
          boomA := { s.boomA with pairs := t.boomA.pairs }
          boomB := { s.boomB with pairs := t.boomB.pairs }
          canopyPair := t.canopyPair } ∧
        ∀ i,
          (t.pair i).dir = (s.pair i).dir ∧ (t.pair i).duty = (s.pair i).duty ∧ (t.pair i).monitor = (s.pair i).monitor ∧
          (∀ d, t.gateOpen i = true → (s.pair i).dir = some d → (s.pair i).coil = .off →
            ((s.pair i).dead = 0 ∨ (s.pair i).last = some d →
              (t.pair i).coil = .driving d ∧ (t.pair i).last = some d ∧ (t.pair i).dead = 0) ∧
            ((s.pair i).dead ≠ 0 → (s.pair i).last ≠ some d →
              (t.pair i).coil = .dead ∧ (t.pair i).dead = (s.pair i).dead)) ∧
          (t.gateOpen i = false → (t.pair i).coil = .off))) ∧
  ∀ (i : PairId) (s : State), s.phase = .running →
    ((s.pair i).dead = 0 → (s.pair i).coil ≠ .dead → exec (.deadTimeExpiry i) s = .next s) ∧
    (∀ d, (s.pair i).coil = .dead → (s.pair i).dir = some d → s.gateOpen i = true →
      exec (.deadTimeExpiry i) s =
        .next (s.setPair i
          { s.pair i with
            coil := .driving d, last := some d, dead := 0
            pulse := { duty := (s.pair i).applied, period := s.cal.period i, elapsed := 0 } })) ∧
    ((s.pair i).dead ≠ 0 → (s.pair i).coil = .off → (s.pair i).dir = none →
      exec (.deadTimeExpiry i) s = .next (s.setPair i { s.pair i with dead := 0 }))

/-- R116, R118, R114, R111: a line change begins a qualification run where the line leaves the qualified level and discards it
where it returns, and changes nothing else; while the power-on load goes on no run begins. A qualified presence change gates
the boom's pairs, and its release sends the hold cause PRESENCE. The pickup line does the same, and its qualified return at the
end of a run of an inactive line frees it for the next pulse.
Model choice (log 3): a qualified change is the command itself, for a switch whatever its line, for a pickup only where its run
goes on. Model choice (log 24): what a line change does during the power-on load. -/
def Obligations.LinesAndPresence : Prop :=
  (∀ (i : SwitchId) (x : Bool) (s : State),
    exec (.switchLineChange i x) s =
      .next (s.setSwitch i
        { s.switch i with
          line := x
          run :=
            if s.phase ≠ .running then (s.switch i).run
            else if x = (s.switch i).level then none
            else some ((s.switch i).run.getD 0) })) ∧
  (∀ (b : BoomId) (x : Bool) (s : State),
    exec (.rotationPickupLineChange b x) s =
      .next (s.setMotion b
        { s.motion b with
          pickup :=
            { (s.motion b).pickup with
              line := x
              run :=
                if s.phase ≠ .running then (s.motion b).pickup.run
                else if x = (s.motion b).pickup.level then none
                else some ((s.motion b).pickup.run.getD 0) } })) ∧
  (∀ (b : BoomId) (s : State), s.phase = .running →
    let x := (s.motion b).pickup
    (x.level = false ∨ x.line = true ∨ x.run = none → exec (.rotationPickupReturn b) s = .next s) ∧
    (x.level = true → x.line = false → x.run ≠ none →
      exec (.rotationPickupReturn b) s =
        .next (s.setMotion b { s.motion b with pickup := { line := false, level := false, run := none } }))) ∧
  ∀ (b : BoomId) (s : State), s.phase = .running →
    ∃ t, exec (.switchQualifiedChange (.prs b)) s = .next t ∧ t.closed (.prs b) = !s.closed (.prs b) ∧
      (s.closed (.prs b) = false →
        t = (s.setSwitch (.prs b) { line := true, level := true, run := none }).setBoom b (t.boom b) ∧
          t.boom b =
            { s.boom b with pairs := (t.boom b).pairs, switches := { (s.boom b).switches with prs := t.switch (.prs b) } } ∧
          ∀ f d, s.trip = false → (s.pair (.boom b f)).dir = some d → (s.pair (.boom b f)).dead = 0 →
            (s.pair (.boom b f)).coil = .off → (t.pair (.boom b f)).coil = .driving d) ∧
      (s.closed (.prs b) = true → (∀ f, (t.pair (.boom b f)).coil = .off) ∧
        HoldReached (s.setSwitch (.prs b) { line := false, level := false, run := none }) t b .presence)

/-- R118, R136, R120, R59, R35: a qualified rotation pulse counts, reloads a counting ROT monitor, joins the logger's tally in
the cut and in DRILL, and counts in MIX, whose count ends it in GEL_HOLD; no pulse qualifies while the level is active, the
line inactive or no run in progress. R134, R120: an edge of one encoder line counts by 1 mm, up with I leading Q and down with
Q leading, within 0 to 3000, and a count in the commanded direction reloads a counting FEED monitor; the scan in progress keeps
the position left (R124); both lines at once, or neither, count nothing.
Model choice (log 3, log 23): the command is the end of the run, so that it is taken on any run in progress, whatever its
length, and on none without one. -/
def Obligations.PulsesAndEdgesCount : Prop :=
  (∀ (b : BoomId) (s : State), s.phase = .running →
    let e := s.engine b
    let x := (s.motion b).pickup
    (x.level = true ∨ x.line = false ∨ x.run = none → exec (.rotationPulse b) s = .next s) ∧
    (x.level = false → x.line = true → x.run ≠ none →
      ∃ t, exec (.rotationPulse b) s = .next t ∧
        t.motion b =
          { s.motion b with
            pulses := (s.motion b).pulses + 1, pickup := { line := true, level := true, run := none } } ∧
        (t.logger b).tally =
          (if e.state = .collar ∧ e.sub ≠ .approach ∨ e.state = .drill then (s.logger b).tally + 1
          else (s.logger b).tally) ∧
        (∀ n r, e.state ≠ .mix ∨ e.q + 1 < (s.activePlan b).mixCount → (s.pair (.boom b .rot)).monitor = .armed n r false →
          (t.pair (.boom b .rot)).monitor =
            .armed (if (s.pair (.boom b .rot)).counting = true then s.cal.response (.boom b .rot) else n) r false) ∧
        (e.state = .mix → e.q + 1 < (s.activePlan b).mixCount → (t.engine b) = { e with q := e.q + 1 }) ∧
        (e.state = .mix → (s.activePlan b).mixCount ≤ e.q + 1 → e.jog = none →
          StepBegun t b .gelHold 2 ∧ (t.engine b).q = e.q + 1 ∧
            ∀ r, e.record = some r → ∃ r', (t.engine b).record = some r' ∧ r'.mixQ = some (e.q + 1) ∧
              r'.flags.mixShort = r.flags.mixShort) ∧
        (e.state ≠ .mix →
          t.engine b =
            if e.state = .hold ∧ e.resume = some .mix ∧ e.resinClock < (s.activePlan b).mixLimit ∧
                e.q < (s.activePlan b).mixCount then
              { e with q := e.q + 1 }
            else e))) ∧
  ∀ (b : BoomId) (i q : Bool) (s : State), s.phase = .running →
    let m := s.motion b
    let f := PairId.boom b .feed
    let up := (m.encI, m.encQ, i, q) ∈
      [(false, false, true, false), (true, false, true, true), (true, true, false, true), (false, true, false, false)]
    let down := (m.encI, m.encQ, i, q) ∈
      [(false, false, false, true), (false, true, true, true), (true, true, true, false), (true, false, false, false)]
    ∃ t, exec (.encoderCount b i q) s = .next t ∧
      (¬up → ¬down → t = s.setMotion b { m with encI := i, encQ := q }) ∧
      (up ∧ 3000 ≤ m.feedPos ∨ down ∧ m.feedPos = 0 → t = s.setMotion b { m with encI := i, encQ := q }) ∧
      ∀ d pos, up ∧ m.feedPos < 3000 ∧ d = Dir.first ∧ pos = m.feedPos + 1 ∨
          down ∧ 0 < m.feedPos ∧ d = Dir.second ∧ pos = m.feedPos - 1 →
        t =
            { (s.setMotion b { m with encI := i, encQ := q, feedPos := pos }).setPair f (t.pair f) with
              scan := t.scan } ∧
          t.scan = (match b with
            | .A => { s.scan with leftA := m.feedPos :: s.scan.leftA }
            | .B => { s.scan with leftB := m.feedPos :: s.scan.leftB }) ∧
          t.pair f = { s.pair f with monitor := (t.pair f).monitor } ∧
          (∀ n r, (s.pair f).dir = some d → (s.pair f).counting = true → (s.pair f).monitor = .armed n r false →
            (t.pair f).monitor = .armed (s.cal.response f) r false) ∧
          ((s.pair f).dir ≠ some d ∨ (s.pair f).counting = false → t.pair f = s.pair f)

/-! ## Head module bus (chapter 8) -/

/-- R154, R155, R156, R159: PAUSE waits for a transaction in flight; RESUME cancels a waiting pause, and out of PAUSED begins
a round, but is refused with BUSY while a manual transaction is in flight; TRANSACT is checked in its order (two bytes at
least, the kind, the address, the four bytes and the count of a WRITE BLOCK, the length of the kind), needs the bus paused and
free and begins the transaction it carries; KILL ends a manual transaction with the error KILLED, and no other.
Model choice (log 41): a PING, which carries no command, is held with command 0 in the transaction and in the manual result.
Model choice (log 38): the coding of the marks that the replies of PAUSE and KILL carry.
Model choice (log 46): the reply is on the line at once. -/
def Obligations.HeadBusCommands : Prop :=
  ∀ (q : Byte) (s : State), s.takesFrames = true →
    let bus := s.bus
    (bus.schedule = .polling → bus.txn = none →
      exec (.headBusPause q []) s =
        .next (answered { s with bus := { bus with schedule := .paused } } q 0x21 (.accepted [.flag true]))) ∧
    (bus.schedule = .polling → bus.txn ≠ none →
      exec (.headBusPause q []) s =
        .next (answered { s with bus := { bus with schedule := .pausePending } } q 0x21 (.accepted [.flag false]))) ∧
    (bus.schedule ≠ .polling →
      exec (.headBusPause q []) s = .next (answered s q 0x21 (.accepted [.flag (bus.schedule == .paused)]))) ∧
    (bus.schedule = .paused → bus.txn ≠ none →
      exec (.headBusResume q []) s = .next (answered s q 0x22 (.refused .busy 0))) ∧
    (bus.schedule = .paused → bus.txn = none →
      exec (.headBusResume q []) s =
        .next (answered
          { s with
            bus :=
              { bus with
                schedule := .polling, round := some .A, txn := some (pollRead .A), pollTimer := s.cal.pollPeriod } }
          q 0x22 (.accepted [.u8 0]))) ∧
    (bus.schedule ≠ .paused →
      exec (.headBusResume q []) s =
        .next (answered { s with bus := { bus with schedule := .polling } } q 0x22 (.accepted [.u8 0]))) ∧
    ((∀ t, bus.txn = some t → t.manual = false) →
      exec (.headBusKill q []) s = .next (answered s q 0x25 (.accepted [.flag false]))) ∧
    (∀ t, bus.txn = some t → t.manual = true →
      exec (.headBusKill q []) s =
        .next (answered
          { s with bus := { bus with txn := none, manual := { bus.manual with result := .error .killed none } } }
          q 0x25 (.accepted [.flag true]))) ∧
    ∀ (kind addr cmd n : Byte) (data : List Byte),
      let ping := Instr.headBusTransact q [kind, addr]
      let read := Instr.headBusTransact q [kind, addr, cmd]
      let write := Instr.headBusTransact q (kind :: addr :: cmd :: n :: data)
      let started (k : BusKind) (c : Byte) (d : List Byte) : State :=
        { s with
          bus :=
            { bus with
              txn := some { manual := true, kind := k, addr := addr, cmd := c, data := d, received := [] }
              manual := { result := .inProgress, kind := k, addr := addr, cmd := c } } }
      (∀ p : List Byte, p.length ≤ 250 →
        let any := Instr.headBusTransact q p
        let k := p.getD 0 0
        let x := p.getD 1 0
        let length : Nat := if k = 0 then 2 else if k = 1 then 3 else 4 + (p.getD 3 0).toNat
        (p.length < 2 → exec any s = .next (answered s q 0x23 (.refused .badLength 0))) ∧
        (2 ≤ p.length → 2 < k.toNat → exec any s = .next (answered s q 0x23 (.refused .badField 1))) ∧
        (2 ≤ p.length → k.toNat ≤ 2 → 0x7F < x.toNat → exec any s = .next (answered s q 0x23 (.refused .badField 2))) ∧
        (2 ≤ p.length → p.length < 4 → k = 2 → x.toNat ≤ 0x7F →
          exec any s = .next (answered s q 0x23 (.refused .badLength 0))) ∧
        (2 ≤ p.length → k.toNat ≤ 1 → x.toNat ≤ 0x7F → p.length ≠ length →
          exec any s = .next (answered s q 0x23 (.refused .badLength 0)))) ∧
      (kind = 2 → addr.toNat ≤ 0x7F → n.toNat = 0 ∨ 16 < n.toNat → data.length ≤ 246 →
        exec write s = .next (answered s q 0x23 (.refused .badField 4))) ∧
      (kind = 2 → addr.toNat ≤ 0x7F → 1 ≤ n.toNat → n.toNat ≤ 16 → data.length ≠ n.toNat → data.length ≤ 246 →
        exec write s = .next (answered s q 0x23 (.refused .badLength 0))) ∧
      (addr.toNat ≤ 0x7F → bus.schedule ≠ .paused ∨ bus.txn ≠ none →
        (kind = 0 → exec ping s = .next (answered s q 0x23 (.refused .busy 0))) ∧
        (kind = 1 → exec read s = .next (answered s q 0x23 (.refused .busy 0))) ∧
        (kind = 2 → 1 ≤ n.toNat → n.toNat ≤ 16 → data.length = n.toNat →
          exec write s = .next (answered s q 0x23 (.refused .busy 0)))) ∧
      (addr.toNat ≤ 0x7F → bus.schedule = .paused → bus.txn = none →
        (kind = 0 → exec ping s = .next (answered (started .ping 0 []) q 0x23 (.accepted [.u8 0, .u8 addr.toNat]))) ∧
        (kind = 1 →
          exec read s = .next (answered (started .readBlock cmd []) q 0x23 (.accepted [.u8 1, .u8 addr.toNat]))) ∧
        (kind = 2 → 1 ≤ n.toNat → n.toNat ≤ 16 → data.length = n.toNat →
          exec write s = .next (answered (started .writeBlock cmd data) q 0x23 (.accepted [.u8 2, .u8 addr.toNat]))))

/-- R151 to R154, R148, R149, R139, R174: the poll round. The poll timer is reloaded at its expiry and begins a round when the
bus is polling and free; the ending of a poll read, whichever it is, is classed, counted and written to its module, with
HEAD_POLL_ERROR on a bad sample; a GOOD block is published with its temperature, vacuum and contact where the channel is then
HEALTHY or SUSPECT; and the round moves on to the second module or ends, where a waiting pause takes effect. R48, R49, R142,
R184, R22: the boom's engine follows its channel: the restricted flag, whose turn issues the feed drive again under the cap or
out of it, and the entry to FAILED, which faults it with CHANNEL_FAILED and offers its record.
Model choice (log 9): the flag is updated before the engine acts on the entry to FAILED. Model choice (log 27): FAULTED entry
empties the hold cause set. Model choice (log 45): a fault in the middle of a stroke sets no RESIN_EXTRA. Model choice (log 48):
the closed log's last slice keeps the time of its last contributing scan. -/
def Obligations.PollRoundReadsHeads : Prop :=
  (∀ s : State, s.phase = .running →
    exec .pollTimerExpiry s =
      .next { s with
        bus :=
          if s.bus.schedule = .polling ∧ s.bus.round = none then
            { s.bus with pollTimer := s.cal.pollPeriod, round := some .A, txn := some (pollRead .A) }
          else { s.bus with pollTimer := s.cal.pollPeriod } }) ∧
  ∀ (b : BoomId) (s : State) (ended : Instr) (good : Option Bool) (p : PollEnding) (r : ManualResult) (d : HeadData),
    s.phase = .running → s.bus.txn = some (pollRead b) → s.bus.round = some b → StatusEnding ended good p r d →
    ∃ t, exec ended s = .next t ∧ HeadSampled s t b good d ∧ (t.head b).lastPoll = some p ∧
      (good = some false → t.raised .headPollError = true) ∧
      (good ≠ some false → t.raised .headPollError = s.raised .headPollError) ∧
      (b = .A → s.bus.schedule = .polling → t.bus = { s.bus with round := some .B, txn := some (pollRead .B) }) ∧
      (b = .B ∨ s.bus.schedule ≠ .polling →
        t.bus =
          { s.bus with
            round := none, txn := none
            schedule := if s.bus.schedule = .pausePending then .paused else s.bus.schedule })

/-- R149, R152, R156, R157, R153: the end of a manual transaction gives its result and moves no round. A manual read of a
status block is a sample of its module's channel and publishes like a poll read, but writes no poll ending and raises no
HEAD_POLL_ERROR; any other transaction leaves the modules alone. The staleness of a module's data marks it, once, where its
age has passed the limit, restricts its boom, whose feed drive goes out again under the cap (R22), and has the monitors of
that head record an invalid source (R179), as a change of health alone has them record the mark. R48, R49, R142, R184: the
boom's engine follows the channel as it does for a poll read.
Model choice (log 9): the flag is updated before the engine acts on the entry to FAILED. Model choice (log 27): FAULTED entry
empties the hold cause set. Model choice (log 37): only the two head modules hold a status block, so a READ BLOCK of command
0x10 at any other address ends without the checks of one. Model choice (log 45): a fault in the middle of a stroke sets no
RESIN_EXTRA. Model choice (log 48): the closed log's last slice keeps the time of its last contributing scan. -/
def Obligations.ManualEndsAndStaleness : Prop :=
  (∀ (s : State) (t : Transaction), s.phase = .running → s.bus.txn = some t → t.manual = true → t.statusOf = none →
    let result (r : ManualResult) : State := { s with bus := { s.bus with txn := none, manual := { s.bus.manual with result := r } } }
    exec (.headTransactionEnd .noAck) s = .next (result (.error .noAck none)) ∧
    exec .headBusTimeout s = .next (result (.error .timeout none)) ∧
    (t.kind ≠ .readBlock → exec (.headTransactionEnd (.returned [])) s = .next (result (.done []))) ∧
    ∀ (n sum : Byte) (data : List Byte), t.kind = .readBlock →
      (n.toNat ≤ 16 → data.length = n.toNat →
        exec (.headTransactionEnd (.returned (n :: data ++ [sum]))) s =
          .next (result
            (if (n :: data ++ [sum]).foldl (· + ·) 0 = 0 then .done data else .error .checkError none))) ∧
      (16 < n.toNat →
        exec (.headTransactionEnd (.returned (n :: data))) s = .next (result (.error .checkError (some n))))) ∧
  (∀ (b : BoomId) (s : State) (x : Transaction) (ended : Instr) (good : Option Bool) (p : PollEnding) (r : ManualResult)
      (d : HeadData),
    s.phase = .running → s.bus.txn = some x → x.manual = true → x.kind = .readBlock → x.cmd = 0x10 →
    x.addr = (match b with
      | .A => 0x2A
      | .B => 0x2B) →
    StatusEnding ended good p r d →
    ∃ t, exec ended s = .next t ∧ HeadSampled s t b good d ∧ (t.head b).lastPoll = (s.head b).lastPoll ∧
      t.raised .headPollError = s.raised .headPollError ∧
      t.bus = { s.bus with txn := none, manual := { s.bus.manual with result := r } }) ∧
  (∀ s : State, s.phase = .running → s.bus.txn = none →
    (∀ e, exec (.headTransactionEnd e) s = .next s) ∧ exec .headBusTimeout s = .next s) ∧
  ∀ (b : BoomId) (s : State), s.phase = .running →
    let passed := ∀ x, (s.head b).published = some x → s.cal.staleLimit < (s.now - x).toNat
    ((s.head b).stale = true ∨ ¬passed → exec (.headDataStale b) s = .next s) ∧
    ((s.head b).stale = false → passed → (s.engine b).restricted = s.restrictedNow b →
      ∃ t, exec (.headDataStale b) s = .next t ∧ t.head b = { s.head b with stale := true } ∧
        (s.monitors.length = 12 → ∀ n, n < 12 →
          let m := s.monitor n
          t.monitor n =
            if m.cfg.source = .headTemp b ∨ m.cfg.source = .headVacuum b then { m with valid := false } else m) ∧
        t.arb = s.arb ∧ t.boom (otherBoom b) = s.boom (otherBoom b) ∧ t.analogs = s.analogs ∧ t.bus = s.bus ∧
        (t.engine b).restricted = true ∧ (t.engine b).state = (s.engine b).state ∧
        ((s.engine b).restricted = false → t.raised (.restricted b) = true ∧
          ∀ r, (s.engine b).record = some r →
            (t.engine b).record = some { r with flags := { r.flags with restrictedRun := true } }) ∧
        ∃ v, RestrictedFollows (s.setHead b { s.head b with stale := true }) v b true ∧ ∀ i, t.pair i = v.pair i)

/-! ## Resin cartridge sensing (chapter 9) -/

/-- R162 to R166, R170, R171: the end of a measurement of `n` cycles: the mark against the baseline of its setting and the
threshold that the measurement was begun with, the next one beginning with that in force, the baseline moved at home with the
tube ABSENT, the next setting, the tube presence by two of three marks in hop mode and by an agreement run of two in fixed
mode; and PRESENT to ABSENT away from home is a passage, which takes a cartridge from the magazine and is counted by an engine
in its strokes.
Model choice (log 20): the measurement in progress at an accepted CALIBRATE of mode or window is judged against the cleared
baselines, may begin one, and is followed by setting 1. -/
def Obligations.MeasurementEndsAndPassages : Prop :=
  ∀ (b : BoomId) (n : Nat) (s : State), s.phase = .running →
    let x := s.sensing b
    let e := s.engine b
    let c := min n 65535
    let y := x.get x.setting
    let home := s.closed (.ihome b)
    ∃ t m, exec (.cartridgeMeasurementEnd b n) s = .next t ∧
      (m = true ↔ ∃ k, y.baseline = some k ∧ c < k - x.threshold) ∧
      let z := t.sensing b
      z.threshold = s.cal.threshold b ∧ z.hop = x.hop ∧ z.window = x.window ∧ z.restart = false ∧
      (x.restart = true → z.setting = .s1) ∧
      (z.get x.setting).lastC = some c ∧
      (z.get x.setting).baseline =
        (if home = true ∧ x.present = false then
          some (match y.baseline with
            | none => c
            | some k => ((k : Int) + Int.tdiv ((c : Int) - k) 16).toNat)
        else y.baseline) ∧
      (∀ i, i ≠ x.setting → z.get i = x.get i) ∧
      (x.hop = true → (z.get x.setting).mark = m ∧
        (z.present = true ↔
          2 ≤ (if z.s1.mark then 1 else 0) + (if z.s2.mark then 1 else 0) + (if z.s3.mark then 1 else 0)) ∧
        (x.restart = false → z.setting = (match x.setting with
          | .s1 => .s2
          | .s2 => .s3
          | .s3 => .s1))) ∧
      (x.hop = false →
        (m = x.present → z.present = x.present ∧ z.agree = 0) ∧
        (m ≠ x.present → x.agree = 0 → z.present = x.present ∧ z.agree = 1) ∧
        (m ≠ x.present → 1 ≤ x.agree → z.present = m ∧ z.agree = 0) ∧ z.setting = .s1) ∧
      let passed := x.present = true ∧ z.present = false ∧ home = false
      let counts := passed ∧ e.sub ≠ .awaitingResin ∧
        (e.state = .insert ∨ e.state = .hold ∧ e.resume = some .insert)
      (passed → z.passages = x.passages + 1 ∧ z.magazine = x.magazine - 1) ∧
      (¬passed → z.passages = x.passages ∧ z.magazine = x.magazine) ∧
      (counts → t.engine b = { e with tally := e.tally + 1, passed := min (e.passed + 1) 255 }) ∧
      (¬counts → t.engine b = e) ∧ t.events = s.events ∧ t.arb = s.arb

/-! ## Limit monitors (chapter 10) -/

/-- R175, R176: the test of a value by a monitor that measures upwards, status by status; one that measures downwards is its
mirror image. A level once entered stays latched, and a value between a level and its hysteresis moves nothing. -/
def Obligations.MonitorTestSteps : Prop :=
  ∀ (m : Monitor) (x : Int),
    let c := m.cfg
    let t := m.tested x
    let up (level : Int) : Prop := if c.below = true then x ≤ level else level ≤ x
    let back (level : Int) : Prop := if c.below = true then level + c.hyst < x else x < level - c.hyst
    (if c.below = true then c.trip < c.warn else c.warn < c.trip) →
    t.cfg = c ∧ t.last = some x ∧
      (m.status = .normal →
        (up c.trip → t.status = .trip ∧ t.warnSeen = true ∧ t.tripSeen = true) ∧
        (¬up c.trip → up c.warn → t.status = .warn ∧ t.warnSeen = true ∧ t.tripSeen = m.tripSeen) ∧
        (¬up c.warn → t.status = .normal ∧ t.warnSeen = m.warnSeen ∧ t.tripSeen = m.tripSeen)) ∧
      (m.status = .warn →
        (up c.trip → t.status = .trip ∧ t.tripSeen = true) ∧
        (¬up c.trip → ¬back c.warn → t.status = .warn) ∧
        (back c.warn → t.status = .normal)) ∧
      (m.status = .trip →
        (¬back c.trip → t.status = .trip) ∧ (back c.trip → ¬back c.warn → t.status = .warn) ∧
        (back c.trip → back c.warn → t.status = .normal))

/-- R174, R176, R178, R179, R41, R115: a publication of sources, whichever they are, reaches every monitor on one of them: it
records the source's validity, and an enabled monitor on a valid source tests its value. A level entered raises its event and
takes its actions, WARN's and TRIP's alike, on the booms in scope: HOLD_ANY sends the hold cause MONITOR, and HOLD_DRILL sends
it to a boom in COLLAR or DRILL or held in one of them; no other boom is held. Group G3 is such a publication of the oil
temperature. The horn is on while some monitor stands in a level with HORN.
Model choice (log 9): the monitors are reached in order of their number. -/
def Obligations.PublicationTestsMonitors : Prop :=
  (∀ (srcs : List Source) (s : State), s.monitors.length = 12 →
    let t := s.publish srcs
    let drills (b : BoomId) : Prop :=
      (s.engine b).state = .collar ∨ (s.engine b).state = .drill ∨
        (s.engine b).state = .hold ∧ ((s.engine b).resume = some .collar ∨ (s.engine b).resume = some .drill)
    let tests (n : Nat) : Prop :=
      (s.monitor n).cfg.source ∈ srcs ∧ (s.monitor n).cfg.enable = true ∧ s.sourceValid (s.monitor n).cfg.source = true
    let after (n : Nat) : Monitor := (s.monitor n).tested (s.sourceValue (s.monitor n).cfg.source)
    let warns (n : Nat) : Prop := tests n ∧ (s.monitor n).status = .normal ∧ (after n).status ≠ .normal
    let trips (n : Nat) : Prop := tests n ∧ (s.monitor n).status ≠ .trip ∧ (after n).status = .trip
    let holds (b : BoomId) (n : Nat) (a : Actions) : Prop :=
      (s.monitor n).cfg.scope.has b = true ∧ (a.holdAny = true ∨ a.holdDrill = true ∧ drills b)
    let held (b : BoomId) : Prop :=
      ∃ n, n < 12 ∧ (warns n ∧ holds b n (s.monitor n).cfg.warnActs ∨ trips n ∧ holds b n (s.monitor n).cfg.tripActs)
    t.monitors.length = 12 ∧ t.analogs = s.analogs ∧
      (∀ n, n < 12 →
        ((s.monitor n).cfg.source ∉ srcs → t.monitor n = s.monitor n) ∧
        ((s.monitor n).cfg.source ∈ srcs → ¬tests n →
          t.monitor n = { s.monitor n with valid := s.sourceValid (s.monitor n).cfg.source }) ∧
        (tests n → t.monitor n = { after n with valid := true }) ∧
        (warns n → t.raised (.monitor n false) = true) ∧ (trips n → t.raised (.monitor n true) = true) ∧
        (¬warns n → t.raised (.monitor n false) = s.raised (.monitor n false)) ∧
        (¬trips n → t.raised (.monitor n true) = s.raised (.monitor n true))) ∧
      ∀ b, (held b → HoldReached s t b .monitor) ∧ (¬held b → FlowTouches s t b)) ∧
  (∀ (oil : RawSample) (s : State), s.phase = .running →
    ∃ u : State, exec (.scanGroupPublished (.g3 oil)) s = .next (u.publish [.value .oil]) ∧ u.monitors = s.monitors ∧
      u.sourceValue (.value .oil) = (s.analogs.oil.sample .oil (s.cal.shift .oil) oil (s.cal.convert .oil oil)).val) ∧
  ∀ s : State, s.horn = true ↔
    ∃ m ∈ s.monitors, m.status = .warn ∧ m.cfg.warnActs.horn = true ∨ m.status = .trip ∧ m.cfg.tripActs.horn = true

/-- R177, R181: SET MONITOR of a payload whose fields pass replaces the whole configuration with status NORMAL and the latches
kept, and tests an enabled monitor on a valid source at once; its reply gives the status after the test. A field that fails
refuses it with its number, the first in the payload's order. CLEAR MONITOR LATCH clears what the status does not show, in one
monitor or in all twelve, and gives each before and after. R176: an entry by that test raises its event and takes its actions,
WARN's and TRIP's, on the booms in scope, and no other boom is touched.
Model choice (log 18, log 28): the coding of the enable field, and the valid mark that SET MONITOR records. Model choice
(log 17, log 38): the count byte and the marks of the replies. Model choice (log 9): boom A takes the actions before boom B.
Model choice (log 46): the reply is on the line at once. -/
def Obligations.SetMonitorAndClearLatch : Prop :=
  (∀ (q : Byte) (p : List Byte) (n : Nat) (s : State), s.takesFrames = true → p.length = 13 → 1 ≤ n → n ≤ 10 →
    monitorFieldOk p n = false → (∀ k, 1 ≤ k → k < n → monitorFieldOk p k = true) →
    exec (.setMonitor q p) s = .next (answered s q 0x1E (.refused .badField n))) ∧
  (∀ (q : Byte) (p : List Byte) (s : State), s.takesFrames = true → p.length = 13 → s.monitors.length = 12 →
    (∀ k, 1 ≤ k → k ≤ 10 → monitorFieldOk p k = true) →
    let n := (p.headD 0).toNat
    let c := monitorOf p
    let fresh : Monitor :=
      { s.monitor n with cfg := c, status := .normal, last := none, valid := s.sourceValid c.source }
    ∃ t, exec (.setMonitor q p) s = .next (answered t q 0x1E
        (.accepted [.u8 n, .u8 (t.monitor n).status.num, .flag (t.monitor n).warnSeen, .flag (t.monitor n).tripSeen])) ∧
      (∀ k, k ≠ n → t.monitor k = s.monitor k) ∧
      (c.enable = false ∨ s.sourceValid c.source = false →
        t = { s with monitors := s.monitors.set n fresh }) ∧
      (c.enable = true → s.sourceValid c.source = true →
        let after := fresh.tested (s.sourceValue c.source)
        let drills (b : BoomId) : Prop :=
          (s.engine b).state = .collar ∨ (s.engine b).state = .drill ∨
            (s.engine b).state = .hold ∧ ((s.engine b).resume = some .collar ∨ (s.engine b).resume = some .drill)
        let holds (b : BoomId) (a : Actions) : Prop := a.holdAny = true ∨ a.holdDrill = true ∧ drills b
        let held (b : BoomId) : Prop := c.scope.has b = true ∧
          (after.status ≠ .normal ∧ holds b c.warnActs ∨ after.status = .trip ∧ holds b c.tripActs)
        t.monitor n = after ∧
          t.raised (.monitor n false) = (s.raised (.monitor n false) || decide (after.status ≠ .normal)) ∧
          t.raised (.monitor n true) = (s.raised (.monitor n true) || decide (after.status = .trip)) ∧
          ∀ b, (held b → HoldReached s t b .monitor) ∧ (¬held b → FlowTouches s t b))) ∧
  ∀ (q k : Byte) (s : State), s.takesFrames = true → s.monitors.length = 12 →
    let i := Instr.clearMonitorLatch q [k]
    let kept (m : Monitor) : Monitor :=
      { m with warnSeen := m.warnSeen && decide (m.status ≠ .normal), tripSeen := m.tripSeen && decide (m.status = .trip) }
    (12 ≤ k.toNat → k.toNat ≠ 255 → exec i s = .next (answered s q 0x20 (.refused .badField 1))) ∧
    (k.toNat = 255 →
      exec i s = .next (answered { s with monitors := s.monitors.map kept } q 0x20
        (.accepted
          (.u8 12 ::
            (s.monitors.map (fun m =>
              [Wire.flag m.warnSeen, .flag m.tripSeen, .flag (kept m).warnSeen, .flag (kept m).tripSeen])).flatten)))) ∧
    (k.toNat ≤ 11 →
      let m := s.monitor k.toNat
      exec i s = .next (answered { s with monitors := s.monitors.set k.toNat (kept m) } q 0x20
        (.accepted [.u8 1, .flag m.warnSeen, .flag m.tripSeen, .flag (kept m).warnSeen, .flag (kept m).tripSeen])))

/-! ## Records and the calibration store (chapters 11 and 12) -/

/-- R191, R188, R187: RELEASE RECORD of the oldest record's number removes it, and the head of the room queue is then filed
under the next number, its engine's FILING ending in its choice; any other number is refused with BAD_FIELD, detail 1, and an
empty store with EMPTY.
Model choice (log 46): the reply is on the line at once. -/
def Obligations.ReleaseFilesRoomQueue : Prop :=
  ∀ (q hi lo : Byte) (s : State), s.takesFrames = true →
    let n := hi.toNat * 256 + lo.toNat
    let i := Instr.releaseRecord q [hi, lo]
    (s.store.records = [] → exec i s = .next (answered s q 0x27 (.refused .empty 0))) ∧
    ∀ r rest, s.store.records = r :: rest →
      (r.number ≠ some (BitVec.ofNat 16 n) → exec i s = .next (answered s q 0x27 (.refused .badField 1))) ∧
      (r.number = some (BitVec.ofNat 16 n) → s.store.room = [] →
        exec i s = .next (answered { s with store := { s.store with records := rest } } q 0x27
          (.accepted [.u16 n, .u8 rest.length, .flag false, .u16 0]))) ∧
      ∀ b more x, r.number = some (BitVec.ofNat 16 n) → s.store.room = b :: more → (s.engine b).record = some x →
        ∃ t, exec i s = .next (answered t q 0x27
            (.accepted [.u16 n, .u8 (rest.length + 1), .flag true, .u16 s.store.next.toNat])) ∧
          EngineEffect b s t ∧
          t.store =
            { s.store with
              records := rest ++ [{ x with number := some s.store.next }], next := s.store.next + 1, room := more } ∧
          t.raised .recordReady = true ∧ (t.boom b).active = none ∧ (t.engine b).record = none ∧
          (t.engine b).resinRunning = false ∧
          ((s.engine b).state = .filing →
            (t.engine b).state = chosen (s.boom b) ∧ t.raised (.jobDone b) = true ∧
              (t.engine b).lastFault = if x.outcome = some .good then none else (s.engine b).lastFault) ∧
          ((s.engine b).state ≠ .filing → (t.engine b).state = (s.engine b).state)

/-- R202, R204, R130, R74, R92, R110, R200: CALIBRATE and RECALL in the order of their checks, and what an accepted set does:
the working set is replaced whole and the absent mark cleared, the link timeout, the applied duties, the confirm runs and the
stale marks follow it, a sensing block whose mode or window changes starts afresh, and no request held changes its demand.
R89: a wait that the new limit finds past it is marked starved. R153, R160, R48, R179: a stale mark that turns moves the
boom's restricted flag, with RESTRICTED and RESTRICTED_RUN where that sets it, caps a feed jog's duty, and has the monitors of
that head record the valid mark. Everything else stands as it was.
Model choice (log 20): what becomes of a measurement in progress: it keeps its setting, and the mark `restart` has the one after
it use setting 1 (MeasurementEndsAndPassages).
Model choice (log 38): the coding of the absent mark in CALIBRATE's reply.
Model choice (log 46): the reply is on the line at once. -/
def Obligations.CalibrationTaken : Prop :=
  ∀ (q : Byte) (payload : List Byte) (s : State), s.takesFrames = true → payload.length = 192 →
    let calibrate := Instr.calibrate q payload
    let rcl := Instr.recallCalibration q []
    let atRest (b : BoomId) : Prop := (s.engine b).state = .idle ∨ (s.engine b).state = .ready ∨
      (s.engine b).state = .parked ∨ (s.engine b).state = .faulted
    let free := atRest .A ∧ atRest .B ∧ s.canopy.state ≠ .raising ∧ s.canopy.state ≠ .lowering
    let taken (vals : List Nat) (t : State) : Prop :=
      let due (w : Waiting) : Bool := decide (t.cal.starvation ≤ w.wait)
      let turned (b : BoomId) : Bool := (t.head b).stale != (s.head b).stale
      let restricts (b : BoomId) : Bool := !(s.engine b).restricted && t.restrictedNow b
      let applied (i : PairId) (duty : Nat) : Nat :=
        if duty = 0 then 0 else t.cal.minDuty i + duty * (1000 - t.cal.minDuty i) / 1000
      t = { s with
        cal := { s.cal with working := vals, absent := false }
        link := { s.link with timeout := t.cal.linkTimeout }
        canopy := { s.canopy with setRun := none, lossRun := none }
        arb := { s.arb with waits := t.arb.waits }
        boomA := t.boomA, boomB := t.boomB, canopyPair := t.canopyPair, monitors := t.monitors, events := t.events } ∧
      t.arb.waits.map (·.req) = s.arb.waits.map (·.req) ∧
      (ArbiterOk s.arb →
        t.arb.waits = s.arb.waits.map (fun w => if due w = true then { w with starved := true } else w)) ∧
      (∀ e : Event, e ≠ .flowStarved .A → e ≠ .flowStarved .B → e ≠ .restricted .A → e ≠ .restricted .B →
        t.raised e = s.raised e) ∧
      (s.monitors.length = 12 → ∀ n, n < 12 →
        let m := s.monitor n
        let reached := ∃ b, turned b = true ∧ (m.cfg.source = .headTemp b ∨ m.cfg.source = .headVacuum b)
        (reached → t.monitor n = { m with valid := t.sourceValid m.cfg.source }) ∧ (¬reached → t.monitor n = m)) ∧
      (∀ i, (∀ b, i = .boom b .feed → turned b = false) →
        t.pair i = { s.pair i with applied := applied i (s.pair i).duty }) ∧
      ∀ b,
        t.boom b =
          { s.boom b with
            engine := { s.engine b with restricted := (t.engine b).restricted, record := (t.engine b).record }
            pairs := (t.boom b).pairs
            head := { s.head b with stale := (t.head b).stale }
            sensing := t.sensing b } ∧
        t.raised (.flowStarved b) =
          (s.raised (.flowStarved b) || s.arb.waits.any (fun w => w.req.who == .boom b && !w.starved && due w)) ∧
        ((s.engine b).restricted = s.restrictedNow b →
          (t.engine b).restricted = t.restrictedNow b ∧
            t.raised (.restricted b) = (s.raised (.restricted b) || restricts b) ∧
            (t.engine b).record =
              if restricts b = true then
                (s.engine b).record.map (fun r => { r with flags := { r.flags with restrictedRun := true } })
              else (s.engine b).record) ∧
        (let i := PairId.boom b .feed
          let jogged := (s.engine b).jog.filter (fun j => j.fn == .feed && (s.pair i).dir.isSome)
          (jogged = none ∨ (t.engine b).restricted = (s.engine b).restricted →
            t.pair i = { s.pair i with applied := applied i (s.pair i).duty }) ∧
          ∀ j, jogged = some j → (t.engine b).restricted ≠ (s.engine b).restricted →
            let duty := if (t.engine b).restricted = true then min j.duty 500 else j.duty
            (t.pair i).dir = some j.dir ∧ (t.pair i).duty = duty ∧ (t.pair i).applied = applied i duty) ∧
        ((t.head b).stale = true ↔ ∀ x, (s.head b).published = some x → t.cal.staleLimit < (s.now - x).toNat) ∧
        (t.sensing b).hop = t.cal.hop b ∧ (t.sensing b).window = t.cal.window b ∧
        (t.sensing b).magazine = (s.sensing b).magazine ∧
        (t.sensing b).passages = (s.sensing b).passages ∧
        ((s.sensing b).hop = t.cal.hop b → (s.sensing b).window = t.cal.window b → t.sensing b = s.sensing b) ∧
        (t.sensing b).threshold = (s.sensing b).threshold ∧
        ((s.sensing b).hop ≠ t.cal.hop b ∨ (s.sensing b).window ≠ t.cal.window b →
          (t.sensing b).present = false ∧ (t.sensing b).s1 = {} ∧ (t.sensing b).s2 = {} ∧ (t.sensing b).s3 = {} ∧
            (t.sensing b).agree = 0 ∧ (t.sensing b).setting = (s.sensing b).setting ∧ (t.sensing b).restart = true)
    (s.cal.writing ≠ none →
      exec calibrate s = .next (answered s q 0x28 (.refused .busy 0)) ∧
        exec rcl s = .next (answered s q 0x2B (.refused .busy 0))) ∧
    (s.cal.writing = none → ¬free →
      exec calibrate s = .next (answered s q 0x28 (.refused .wrongState 0)) ∧
        exec rcl s = .next (answered s q 0x2B (.refused .wrongState 0))) ∧
    (s.cal.writing = none → free →
      (∀ n, 1 ≤ n → n ≤ 96 → calValueOk (calValues payload) n = false →
        (∀ k, 1 ≤ k → k < n → calValueOk (calValues payload) k = true) →
        exec calibrate s = .next (answered s q 0x28 (.refused .badField n))) ∧
      ((∀ k, 1 ≤ k → k ≤ 96 → calValueOk (calValues payload) k = true) →
        ∃ t, exec calibrate s = .next (answered t q 0x28 (.accepted [.flag false])) ∧ taken (calValues payload) t) ∧
      (crc16 s.cal.image ≠ s.cal.crc → exec rcl s = .next (answered s q 0x2B (.refused .empty 0))) ∧
      (crc16 s.cal.image = s.cal.crc →
        ∃ t, exec rcl s = .next (answered t q 0x2B (.accepted [])) ∧ taken (calValues s.cal.image) t))

/-- R203: STORE CALIBRATION begins a write of the working set and is refused with BUSY during one; its confirmation stores the
set it began with under its CRC and raises STORE_DONE; 50 ms without one fail it, with the copy no longer valid and
STORE_FAILED. An ending without a write does nothing. R206: a warm reset that comes during a write waits for its end and is
performed in that event.
Model choice (log 3, log 8): the expiry ends the write, and what a failed write leaves is a free value. Model choice (log 31):
the reset command is the performing of the reset wherever it comes, so that during a write, asked for by a RESET or not, it
ends the sending, becomes due and waits; that is the model's inference from R206.
Model choice (log 46): the reply is on the line at once. -/
def Obligations.StoreWritesCopy : Prop :=
  (∀ (q : Byte) (s : State), s.takesFrames = true →
    (s.cal.writing ≠ none → exec (.storeCalibration q []) s = .next (answered s q 0x2A (.refused .busy 0))) ∧
    (s.cal.writing = none →
      exec (.storeCalibration q []) s =
        .next (answered
          { s with cal := { s.cal with writing := some s.cal.working, writeTimer := 0, copyValid := false } } q 0x2A
          (.accepted [.u8 1])))) ∧
  (∀ (s : State) (vals : List Nat), s.phase = .running → s.cal.writing = some vals →
    exec .warmReset s = .next { s with link := { s.link with sending := false, resetStage := .due } } ∧
    (s.link.resetStage = .due →
      (∃ t, exec .storeWriteConfirmed s = .next t ∧ t.takesFrames = true ∧ t.events = 0 ∧
        exec .warmReset
            { s with
              cal :=
                { s.cal with
                  image := calBytes vals, crc := crc16 (calBytes vals), copyValid := true, writing := none, writeTimer := 0
                  last := .done } } =
          .next t) ∧
      ∃ t image crc, exec .storeWriteTimeout s = .next t ∧ t.takesFrames = true ∧ t.events = 0 ∧
        exec .warmReset
            { s with
              cal :=
                { s.cal with
                  image := image, crc := crc, copyValid := false, writing := none, writeTimer := 0, last := .failed }
              freeCount := s.freeCount + 1 } =
          .next t)) ∧
  ∀ s : State, s.phase = .running → s.link.resetStage ≠ .due →
    (s.cal.writing = none → exec .storeWriteConfirmed s = .next s ∧ exec .storeWriteTimeout s = .next s) ∧
    ∀ vals, s.cal.writing = some vals →
      exec .storeWriteConfirmed s =
        .next { s with
          cal :=
            { s.cal with
              image := calBytes vals, crc := crc16 (calBytes vals), copyValid := true, writing := none, writeTimer := 0
              last := .done }
          events := s.events ||| (1#96 <<< Event.storeDone.bit) } ∧
      ∃ image crc, exec .storeWriteTimeout s =
        .next { s with
          cal :=
            { s.cal with
              image := image, crc := crc, copyValid := false, writing := none, writeTimer := 0, last := .failed }
          events := s.events ||| (1#96 <<< Event.storeFailed.bit), freeCount := s.freeCount + 1 }

/-- R205, R203, R116, R118, R124, R145: a power-on reset keeps the lines, the queue of commands and the non-volatile copy,
which is no longer valid where a write is cut short, and puts every other block in its power-on state with every coil off and
no block running: of the motion inputs only the lines of the encoders and the pickup stand, and the last store result is NONE;
during the load an ENCODER_COUNT moves the lines alone; the end of the load takes the copy whose CRC matches, or the defaults
with the absent mark, starts the blocks with the first runs of the switches and pickups whose lines differ, begins a scan, and
leaves a link that is LIVE.
Model choice (log 4, log 21, log 24): the values that the data book does not give, and that only lines change during the load.
Model choice (log 5): the first round begins with the expiry of a poll timer that stands at 0. -/
def Obligations.PowerOnLoadsCalibration : Prop :=
  (∀ (x y : Bool) (s : State),
    ∃ t, exec (.powerOnReset x y) s = .next t ∧ t.phase = .loading ∧
      (s.cal.writing = none →
        t.cal.image = s.cal.image ∧ t.cal.crc = s.cal.crc ∧ t.cal.copyValid = s.cal.copyValid ∧
          t.freeCount = s.freeCount) ∧
      (s.cal.writing ≠ none → t.cal.copyValid = false ∧ t.freeCount = s.freeCount + 1) ∧
      t.cal.writing = none ∧ t.cal.working = calDefaults ∧ t.cal.absent = true ∧ t.cal.last = .none ∧ t.cal.writeTimer = 0 ∧
      t.pending = s.pending ∧ t.loadTimer = 0 ∧
      t.link.strap = (if x = y then 0 else if x = true then 2 else 1) ∧ t.takesFrames = false ∧ t.events = 0 ∧
      t.plans = [] ∧ t.arb = {} ∧ t.canopy = {} ∧ t.trip = true ∧ t.analogs = {} ∧ t.bus = {} ∧
      t.monitors = List.replicate 12 {} ∧ t.store = {} ∧ t.lastScan = 0 ∧ t.scan = {} ∧
      (∀ i, t.pair i = {}) ∧
      (∀ i, t.switch i = { line := (s.switch i).line, level := decide (i = .estop), run := none }) ∧
      ∀ b, (t.boom b).queue = [] ∧ (t.boom b).active = none ∧ t.engine b = { restricted := true } ∧ t.logger b = {} ∧
        t.head b = {} ∧ t.sensing b = {} ∧
        t.motion b =
          { torqueEst := 0, feedPos := 0, scanPos := 0, encI := (s.motion b).encI, encQ := (s.motion b).encQ, pulses := 0
            pickup := { line := (s.motion b).pickup.line, level := false, run := none } }) ∧
  (∀ (b : BoomId) (i q : Bool) (s : State), s.phase = .loading →
    exec (.encoderCount b i q) s = .next (s.setMotion b { s.motion b with encI := i, encQ := q })) ∧
  ∀ s : State,
    (s.phase = .running → exec .powerOnLoadComplete s = .next s) ∧
    (s.phase = .loading →
      ∃ t, exec .powerOnLoadComplete s = .next t ∧ t.phase = .running ∧ t.now = 0 ∧ t.link.live = true ∧
        t.link.silence = 0 ∧ t.link.receiver = .hunting ∧ t.link.timeout = t.cal.linkTimeout ∧
        t.cal.image = s.cal.image ∧ t.cal.crc = s.cal.crc ∧ t.cal.writing = none ∧
        (crc16 s.cal.image = s.cal.crc →
          t.cal.working = calValues s.cal.image ∧ t.cal.absent = false ∧ t.cal.copyValid = true) ∧
        (crc16 s.cal.image ≠ s.cal.crc →
          t.cal.working = calDefaults ∧ t.cal.absent = true ∧ t.cal.copyValid = false) ∧
        (∀ i, t.switch i =
          { s.switch i with run := if (s.switch i).line = (s.switch i).level then none else some 0 }) ∧
        (∀ b,
          t.boom b =
            { s.boom b with
              switches := (t.boom b).switches
              motion :=
                { s.motion b with
                  pickup :=
                    { (s.motion b).pickup with
                      run := if (s.motion b).pickup.line = (s.motion b).pickup.level then none else some 0 } }
              sensing :=
                { s.sensing b with hop := t.cal.hop b, window := t.cal.window b, threshold := t.cal.threshold b } }) ∧
        (∀ i, t.pair i = s.pair i) ∧ t.cal.last = .none ∧ t.store = s.store ∧ t.analogs = s.analogs ∧ t.loadTimer = 0 ∧
        t.freeCount = s.freeCount ∧ t.link.strap = s.link.strap ∧
        t.scan = { done := 0, leftA := [], leftB := [] } ∧
        t.events = s.events ∧ t.trip = s.trip ∧ t.plans = s.plans ∧ t.arb = s.arb ∧ t.canopy = s.canopy ∧
        t.monitors = s.monitors ∧ t.bus = s.bus ∧ t.pending = s.pending)

/-! ## What every step keeps -/

/-- R76, R73, R75, R77: every step keeps the arbiter's promise: the granted demands within the budget, one request for a
requester, every class 1 to 4; and with it the stamps apart, below the counter, and the wait list in order. -/
def Obligations.StepKeepsArbiter : Prop :=
  (∀ s t : State, ArbiterOk s.arb → step s = .next t → ArbiterOk t.arb) ∧
  ∀ s t : State, ArbiterOk s.arb → StampsOk s.arb → step s = .next t → StampsOk t.arb

/-- R97: in every step that finds no boom engaged without a SET canopy, none is left so. -/
def Obligations.StepKeepsBoomsUnderCanopy : Prop :=
  ∀ s t : State, EngagedUnderCanopy s → step s = .next t → EngagedUnderCanopy t

/-- R107, R111: every step keeps each coil output what its request, gate, timer and last direction make it; so no coil of the
part is driven while the trip latch is set, and none of a boom whose presence is not held. -/
def Obligations.StepKeepsCoils : Prop :=
  (∀ s t : State, CoilsOk s → step s = .next t → CoilsOk t) ∧
  ∀ s : State, CoilsOk s → ∀ i,
    (s.trip = true → (s.pair i).coil = .off) ∧
      ∀ b f, i = .boom b f → s.closed (.prs b) = false → (s.pair i).coil = .off

/-- R4, R6, R12, R14, R16, R20, R187, R188: every step keeps the plans in order of id and at most sixteen, the queues at most
four deep, tags that name one job of a boom, and every plan that a queued or active job names; an active job and a record with
every engaged, held or FILING engine; and in the room queue the booms whose record waits. -/
def Obligations.StepKeepsJobs : Prop :=
  ∀ s t : State, JobsOk s → step s = .next t → JobsOk t

/-- R186, R173, R181, R48, R138, R143, R134, R162: every step keeps the record numbers in sequence and at most eight records
filed, the twelve monitors with the latches of each above its status, the restricted flags true to the channels, the fault
counts and restores within their ranges, and feed positions, latched positions and magazines within theirs. -/
def Obligations.StepKeepsRecordsAndMeasures : Prop :=
  (∀ s t : State, StoreOk s.store → step s = .next t → StoreOk t.store) ∧
  (∀ s t : State, LatchesOk s → step s = .next t → LatchesOk t) ∧
  (∀ s t : State, RestrictedOk s → step s = .next t → RestrictedOk t) ∧
  (∀ s t : State, CountsOk s → step s = .next t → CountsOk t) ∧
  ∀ s t : State, RangesOk s → step s = .next t → RangesOk t

/-- The state after reset meets every invariant that the steps keep. -/
def Obligations.ResetMeetsInvariants : Prop :=
  ArbiterOk State.reset.arb ∧ StampsOk State.reset.arb ∧ EngagedUnderCanopy State.reset ∧ CoilsOk State.reset ∧ JobsOk State.reset ∧
    StoreOk State.reset.store ∧ LatchesOk State.reset ∧ RestrictedOk State.reset ∧ CountsOk State.reset ∧
    RangesOk State.reset
end

