-- ==== Sys2Proof/Laws/Arbiter.lean ====
section
/-! SUPPORT. The flow arbiter alone: the grant pass, preemption and the budget keep the budget, the counter and the requests
held, and keep the granted demands within the budget. -/
namespace Sys2Proof.Machine

theorem joinWaits_perm (w : Waiting) (ws : List Waiting) : (joinWaits w ws).Perm (w :: ws) := by
  induction ws with
  | nil => exact List.Perm.refl _
  | cons x xs ih =>
    unfold joinWaits
    split
    · exact List.Perm.refl _
    · exact (List.Perm.cons x ih).trans (List.Perm.swap w x xs)

/-- What the arbiter holds after an operation is what it held before, and budget and counter stand. -/
def ArbKeeps (a a' : Arbiter) : Prop := a'.held.Perm a.held ∧ a'.budget = a.budget ∧ a'.counter = a.counter

theorem ArbKeeps.refl (a : Arbiter) : ArbKeeps a a := ⟨.refl _, rfl, rfl⟩

theorem ArbKeeps.trans {a b c : Arbiter} (h : ArbKeeps a b) (k : ArbKeeps b c) : ArbKeeps a c :=
  ⟨k.1.trans h.1, k.2.1.trans h.2.1, k.2.2.trans h.2.2⟩

/-- The victim of a preemption is a grant of a class above that of the head. -/
theorem victim_mem {cls : Nat} {gs : List FlowReq} {r : FlowReq} (h : victim cls gs = some r) : r ∈ gs ∧ cls < r.cls := by
  induction gs generalizing r with
  | nil => simp [victim] at h
  | cons x xs ih =>
    unfold victim at h
    split at h
    · rename_i v hv
      have hi := ih hv
      split at h
      · split at h <;> cases h
        · exact ⟨.head _, ‹_›⟩
        · exact ⟨.tail _ hi.1, hi.2⟩
      · cases h
        exact ⟨.tail _ hi.1, hi.2⟩
    · split at h <;> cases h
      exact ⟨.head _, ‹_›⟩

theorem victim_none {cls : Nat} {gs : List FlowReq} (h : victim cls gs = none) : ∀ r ∈ gs, r.cls ≤ cls := by
  induction gs with
  | nil => simp
  | cons x xs ih =>
    unfold victim at h
    split at h
    · split at h <;> (try split at h) <;> cases h
    · split at h
      · cases h
      · intro r hr
        rcases List.mem_cons.1 hr with rfl | hr
        · omega
        · exact ih ‹_› r hr

/-- R82, R85: the victim goes first: every other grant of a class above `cls` is of a lower class number, or of its class and
granted before it. -/
theorem victim_first {cls : Nat} {gs : List FlowReq} {r : FlowReq} (hn : gs.Nodup) (h : victim cls gs = some r) :
    ∀ x ∈ gs, cls < x.cls → x ≠ r → x.cls < r.cls ∨ x.cls = r.cls ∧ gs.idxOf x < gs.idxOf r := by
  induction gs generalizing r with
  | nil => simp
  | cons y ys ih =>
    obtain ⟨hy, hn⟩ := List.nodup_cons.1 hn
    intro x hx hc hne
    unfold victim at h
    split at h
    · rename_i v hv
      obtain ⟨hvm, hvc⟩ := victim_mem hv
      split at h
      · split at h <;> cases h
        · rcases List.mem_cons.1 hx with rfl | hx
          · exact absurd rfl hne
          · rcases eq_or_ne x v with rfl | hxv
            · exact .inl ‹_›
            · rcases ih hn hv x hx hc hxv with h | h <;> omega
        · omega
      · cases h
        have hyr : y ≠ r := fun e => hy (e ▸ hvm)
        rcases List.mem_cons.1 hx with rfl | hx
        · simp only [List.idxOf_cons_self, List.idxOf_cons_ne _ hyr]
          omega
        · have hyx : y ≠ x := fun e => hy (e ▸ hx)
          rw [List.idxOf_cons_ne _ hyr, List.idxOf_cons_ne _ hyx]
          have := ih hn hv x hx hc hne
          omega
    · rename_i hv
      split at h <;> cases h
      rcases List.mem_cons.1 hx with rfl | hx
      · exact absurd rfl hne
      · have := victim_none hv x hx
        omega

/-- Where no requester holds two requests, taking out a grant by its requester takes out that grant. -/
theorem filter_who_perm {gs : List FlowReq} {r : FlowReq} (hn : (gs.map (·.who)).Nodup) (hr : r ∈ gs) :
    gs.Perm (r :: gs.filter (fun x => x.who != r.who)) := by
  induction gs with
  | nil => cases hr
  | cons x xs ih =>
    simp only [List.map_cons, List.nodup_cons, List.mem_map, not_exists, not_and] at hn
    rcases List.mem_cons.1 hr with rfl | hr
    · have : xs.filter (fun x => x.who != r.who) = xs := by
        apply List.filter_eq_self.2
        intro y hy
        simpa using fun h => hn.1 y hy h
      simp [this]
    · have hx : x.who ≠ r.who := fun h => hn.1 r hr h.symm
      have := ih hn.2 hr
      simp only [List.filter_cons, bne_iff_ne, ne_eq, hx, not_false_eq_true, if_true]
      exact (List.Perm.cons x this).trans (List.Perm.swap r x _)

theorem Arbiter.held_nodup_grants {a : Arbiter} (h : (a.held.map (·.who)).Nodup) : (a.grants.map (·.who)).Nodup := by
  simp only [Arbiter.held, List.map_append, List.nodup_append] at h
  exact h.1

theorem Arbiter.preempt_keeps {a : Arbiter} {r : FlowReq} (hn : (a.held.map (·.who)).Nodup) (hr : r ∈ a.grants) :
    ArbKeeps a (a.preempt r) := by
  refine ⟨?_, rfl, rfl⟩
  have h1 := filter_who_perm (Arbiter.held_nodup_grants hn) hr
  have h2 : ((joinWaits r.waiting a.waits).map (·.req)).Perm (r :: a.waits.map (·.req)) :=
    (joinWaits_perm r.waiting a.waits).map _
  simp only [Arbiter.held, Arbiter.preempt]
  refine (h2.append_left _).trans ?_
  refine List.perm_middle.trans ?_
  exact ((h1.append_right _).symm)

/-- A preemption frees the demand of the grant it takes out. -/
theorem Arbiter.preempt_sum {a : Arbiter} {r : FlowReq} (hn : (a.held.map (·.who)).Nodup) (hr : r ∈ a.grants) :
    (a.preempt r).grantedSum + r.demand = a.grantedSum := by
  have h := ((filter_who_perm (Arbiter.held_nodup_grants hn) hr).map (·.demand)).sum_eq
  simp only [Arbiter.grantedSum, Arbiter.preempt] at *
  simp only [List.map_cons, List.sum_cons] at h
  omega

theorem ArbKeeps.nodup {a a' : Arbiter} (h : ArbKeeps a a') (hn : (a.held.map (·.who)).Nodup) :
    (a'.held.map (·.who)).Nodup := ((h.1.map _).nodup_iff).2 hn

/-- R82: what the preemptions for a head do: the requests held stay the same, the sum falls, and if the free flow with the
candidates' demands reached the need, the free flow now does. -/
theorem Arbiter.preemptFor_spec (need cls n : Nat) (a : Arbiter) (hn : (a.held.map (·.who)).Nodup) :
    ArbKeeps a (a.preemptFor need cls n).1 ∧ (a.preemptFor need cls n).1.grantedSum ≤ a.grantedSum ∧
      (a.grantedSum ≤ a.budget → a.grants.length ≤ n → need ≤ a.free + a.candidateSum cls →
        need ≤ (a.preemptFor need cls n).1.free) := by
  induction n generalizing a with
  | zero =>
    refine ⟨.refl a, Nat.le_refl _, fun _ hl h => ?_⟩
    have : a.grants = [] := List.length_eq_zero_iff.1 (Nat.le_zero.1 hl)
    simpa [Arbiter.preemptFor, Arbiter.candidateSum, this] using h
  | succ n ih =>
    unfold Arbiter.preemptFor
    split
    · exact ⟨.refl a, Nat.le_refl _, fun _ _ _ => ‹_›⟩
    · split
      · rename_i hv
        refine ⟨.refl a, Nat.le_refl _, fun _ _ h => ?_⟩
        have : a.grants.filter (fun r => r.cls > cls) = [] := by
          apply List.filter_eq_nil_iff.2
          intro r hr
          have := victim_none hv r hr
          simp
          omega
        simpa [Arbiter.candidateSum, this] using h
      · rename_i r hv
        obtain ⟨hr, hc⟩ := victim_mem hv
        have hk := Arbiter.preempt_keeps hn hr
        have hs := Arbiter.preempt_sum hn hr
        obtain ⟨k1, k2, k3⟩ := ih (a.preempt r) (hk.nodup hn)
        refine ⟨hk.trans k1, by simp only; omega, fun hb hl h => ?_⟩
        have hb' : (a.preempt r).budget = a.budget := rfl
        have hlen : (a.preempt r).grants.length < a.grants.length := by
          have := (filter_who_perm (Arbiter.held_nodup_grants hn) hr).length_eq
          simp only [List.length_cons] at this
          simp only [Arbiter.preempt]
          omega
        apply k3
        · rw [hb']; omega
        · omega
        · have hcs := ((filter_who_perm (Arbiter.held_nodup_grants hn) hr).filter (fun x => decide (x.cls > cls)))
          have hcs := (hcs.map (·.demand)).sum_eq
          simp only [List.filter_cons, hc, gt_iff_lt, decide_true, if_true, List.map_cons, List.sum_cons] at hcs
          simp only [Arbiter.candidateSum, Arbiter.free, hb'] at *
          have : (a.preempt r).grants = a.grants.filter (fun x => x.who != r.who) := rfl
          rw [this]
          simp only [gt_iff_lt] at *
          omega

theorem Arbiter.grantHead_keeps (a : Arbiter) (w : Waiting) (ws : List Waiting) (h : a.waits = w :: ws) :
    ArbKeeps a (({ a with waits := ws } : Arbiter).grantHead w) := by
  refine ⟨?_, rfl, rfl⟩
  simp only [Arbiter.held, Arbiter.grantHead, h, List.map_cons, List.append_assoc, List.singleton_append]
  exact List.Perm.refl _

/-- R81, R82, R83: the grant pass keeps what is held, the budget and the counter, and keeps the sum within the budget. -/
theorem Arbiter.passFuel_spec (n : Nat) (a : Arbiter) (hn : (a.held.map (·.who)).Nodup) :
    ArbKeeps a (a.passFuel n).1 ∧ (a.grantedSum ≤ a.budget → (a.passFuel n).1.grantedSum ≤ a.budget) := by
  induction n generalizing a with
  | zero => exact ⟨.refl a, id⟩
  | succ n ih =>
    unfold Arbiter.passFuel
    split
    · exact ⟨.refl a, id⟩
    · rename_i w ws hw
      have hk := Arbiter.grantHead_keeps a w ws hw
      split
      · obtain ⟨k1, k2⟩ := ih _ (hk.nodup hn)
        refine ⟨hk.trans k1, fun hb => k2 ?_⟩
        rename_i hd
        simp only [Arbiter.free, Arbiter.grantedSum, Arbiter.grantHead, List.map_append, List.map_cons, List.map_nil,
          List.sum_append, List.sum_cons, List.sum_nil] at *
        omega
      · split
        · exact ⟨.refl a, id⟩
        · split
          · exact ⟨.refl a, id⟩
          · -- the head is granted after preemption; its own request stands aside meanwhile
            rename_i hd _ hc
            let a0 : Arbiter := { a with waits := ws }
            have hn0 : (a0.held.map (·.who)).Nodup := by
              have : (a0.held.map (·.who)).Sublist (a.held.map (·.who)) := by
                refine List.Sublist.map _ ?_
                simp only [Arbiter.held, hw, a0, List.map_cons]
                exact List.Sublist.append (List.Sublist.refl _) (List.sublist_cons_self _ _)
              exact this.nodup hn
            obtain ⟨p1, p2, p3⟩ := Arbiter.preemptFor_spec w.req.demand w.req.cls a.grants.length a0 hn0
            have hk2 : ArbKeeps a (((a0.preemptFor w.req.demand w.req.cls a.grants.length).1).grantHead w) := by
              refine ⟨?_, p1.2.1, p1.2.2⟩
              have e1 : ((a0.preemptFor w.req.demand w.req.cls a.grants.length).1.grantHead w).held.Perm
                  (w.req :: (a0.preemptFor w.req.demand w.req.cls a.grants.length).1.held) := by
                simp only [Arbiter.held, Arbiter.grantHead, List.append_assoc, List.singleton_append]
                exact List.perm_middle
              refine e1.trans ((List.Perm.cons _ p1.1).trans ?_)
              simp only [Arbiter.held, hw, a0, List.map_cons]
              exact List.perm_middle.symm
            obtain ⟨k1, k2⟩ := ih _ (hk2.nodup hn)
            refine ⟨hk2.trans k1, fun hb => ?_⟩
            have hb2 : ((a0.preemptFor w.req.demand w.req.cls a.grants.length).1.grantHead w).budget = a.budget := hk2.2.1
            rw [hb2] at k2
            apply k2
            have hfree := p3 hb (Nat.le_refl _) (by
              have e1 : a0.free = a.free := rfl
              have e2 : a0.candidateSum w.req.cls = a.candidateSum w.req.cls := rfl
              rw [e1, e2]
              omega)
            have hb3 : (a0.preemptFor w.req.demand w.req.cls a.grants.length).1.budget = a.budget := p1.2.1
            have e0 : a0.grantedSum = a.grantedSum := rfl
            simp only [Arbiter.free, hb3] at hfree
            have hsum : ((a0.preemptFor w.req.demand w.req.cls a.grants.length).1.grantHead w).grantedSum =
                (a0.preemptFor w.req.demand w.req.cls a.grants.length).1.grantedSum + w.req.demand := by
              simp [Arbiter.grantedSum, Arbiter.grantHead]
            rw [hsum]
            omega

theorem Arbiter.pass_spec (a : Arbiter) (hn : (a.held.map (·.who)).Nodup) :
    ArbKeeps a a.pass.1 ∧ (a.grantedSum ≤ a.budget → a.pass.1.grantedSum ≤ a.budget) := Arbiter.passFuel_spec 8 a hn

theorem ArbKeeps.ok {a a' : Arbiter} (h : ArbKeeps a a') (ha : ArbiterOk a) (hs : a'.grantedSum ≤ a.budget) : ArbiterOk a' :=
  ⟨by rw [h.2.1]; exact hs, h.nodup ha.2.1, fun r hr => ha.2.2 r (h.1.mem_iff.1 hr)⟩

/-- R81: the grant pass keeps `ArbiterOk`. -/
theorem Arbiter.pass_ok {a : Arbiter} (h : ArbiterOk a) : ArbiterOk a.pass.1 :=
  (a.pass_spec h.2.1).1.ok h ((a.pass_spec h.2.1).2 h.1)

theorem Arbiter.preemptFor_budget (need cls n : Nat) (a : Arbiter) : (a.preemptFor need cls n).1.budget = a.budget := by
  induction n generalizing a with
  | zero => rfl
  | succ n ih =>
    unfold Arbiter.preemptFor
    split
    · rfl
    · split
      · rfl
      · exact ih _

theorem Arbiter.passFuel_budget (n : Nat) (a : Arbiter) : (a.passFuel n).1.budget = a.budget := by
  induction n generalizing a with
  | zero => rfl
  | succ n ih =>
    unfold Arbiter.passFuel
    split
    · rfl
    · split
      · exact ih _
      · split
        · rfl
        · split
          · rfl
          · exact (ih _).trans (Arbiter.preemptFor_budget _ _ _ _)

@[simp] theorem Arbiter.pass_budget (a : Arbiter) : a.pass.1.budget = a.budget := Arbiter.passFuel_budget 8 a

theorem Arbiter.fitBudget_budget (n : Nat) (a : Arbiter) : (a.fitBudget n).1.budget = a.budget := by
  induction n generalizing a with
  | zero => rfl
  | succ n ih =>
    unfold Arbiter.fitBudget
    split
    · rfl
    · split
      · rfl
      · exact ih _

/-- R85: preempting until the sum lies within the budget: the requests held stay the same, and the sum comes to lie there. -/
theorem Arbiter.fitBudget_spec (n : Nat) (a : Arbiter) (hn : (a.held.map (·.who)).Nodup) (hc : ∀ r ∈ a.held, 1 ≤ r.cls) :
    ArbKeeps a (a.fitBudget n).1 ∧ (a.grants.length ≤ n → (a.fitBudget n).1.grantedSum ≤ a.budget) := by
  induction n generalizing a with
  | zero =>
    refine ⟨.refl a, fun h => ?_⟩
    have : a.grants = [] := List.length_eq_zero_iff.1 (Nat.le_zero.1 h)
    simp [Arbiter.fitBudget, Arbiter.grantedSum, this]
  | succ n ih =>
    unfold Arbiter.fitBudget
    split
    · exact ⟨.refl a, fun _ => ‹_›⟩
    · split
      · rename_i hv
        refine ⟨.refl a, fun _ => ?_⟩
        have : a.grants = [] := by
          rcases hg : a.grants with _ | ⟨r, rs⟩
          · rfl
          · have h1 := victim_none hv r (by simp [hg])
            have h2 := hc r (by simp [Arbiter.held, hg])
            omega
        simp [Arbiter.grantedSum, this]
      · rename_i r hv
        have hr := (victim_mem hv).1
        have hk := Arbiter.preempt_keeps hn hr
        obtain ⟨k1, k2⟩ := ih (a.preempt r) (hk.nodup hn) (fun x hx => hc x (hk.1.mem_iff.1 hx))
        refine ⟨hk.trans k1, fun hl => k2 ?_⟩
        have := (filter_who_perm (Arbiter.held_nodup_grants hn) hr).length_eq
        simp only [List.length_cons] at this
        simp only [Arbiter.preempt]
        omega

/-- R84, R85: a new budget, once the grants fit it, keeps `ArbiterOk`. -/
theorem Arbiter.setBudget_ok {a : Arbiter} (h : ArbiterOk a) (v : Nat) : ArbiterOk (a.setBudget v).1 := by
  let b : Arbiter := { a with budget := clampBudget v }
  obtain ⟨k1, k2⟩ := Arbiter.fitBudget_spec a.grants.length b h.2.1 (fun r hr => (h.2.2 r hr).1)
  refine ⟨?_, k1.nodup h.2.1, fun r hr => h.2.2 r (k1.1.mem_iff.1 hr)⟩
  show (b.fitBudget a.grants.length).1.grantedSum ≤ (b.fitBudget a.grants.length).1.budget
  rw [k1.2.1]
  exact k2 (Nat.le_refl _)

theorem Arbiter.remove_ok {a : Arbiter} (h : ArbiterOk a) (who : Requester) : ArbiterOk (a.remove who) := by
  have hsub : ((a.remove who).held).Sublist a.held := by
    simp only [Arbiter.held, Arbiter.remove]
    exact List.Sublist.append List.filter_sublist (List.Sublist.map _ List.filter_sublist)
  refine ⟨?_, (hsub.map _).nodup h.2.1, fun r hr => h.2.2 r (hsub.subset hr)⟩
  have : (a.remove who).grantedSum ≤ a.grantedSum := by
    simp only [Arbiter.grantedSum, Arbiter.remove]
    exact List.Sublist.sum_le_sum (List.Sublist.map _ List.filter_sublist) (by simp)
  exact this.trans h.1

/-- After a removal the requester holds nothing. -/
theorem Arbiter.remove_not_mem (a : Arbiter) (who : Requester) : who ∉ (a.remove who).held.map (·.who) := by
  simp only [Arbiter.held, Arbiter.remove, List.map_append, List.mem_append, List.map_map, List.mem_map, List.mem_filter,
    not_or, not_exists, not_and]
  constructor
  · rintro x ⟨_, hx⟩
    simpa using hx
  · rintro w ⟨_, hw⟩
    simpa using hw

theorem Purpose.cls_range (p : Purpose) : 1 ≤ p.cls ∧ p.cls ≤ 4 := by
  unfold Purpose.cls
  split <;> decide

theorem Arbiter.renumber_ok {a : Arbiter} (h : ArbiterOk a) : ArbiterOk a.renumber := by
  unfold Arbiter.renumber
  split
  · have hw : ∀ (l : List FlowReq), (l.map (fun r => { r with stamp := a.rank r })).map (·.who) = l.map (·.who) := by
      intro l; simp [List.map_map, Function.comp_def]
    have hheld : ({ a with
        grants := a.grants.map (fun r => { r with stamp := a.rank r })
        waits := a.waits.map (fun w => { w with req := { w.req with stamp := a.rank w.req } })
        counter := a.held.length } : Arbiter).held = a.held.map (fun r => { r with stamp := a.rank r }) := by
      simp [Arbiter.held, List.map_map, Function.comp_def]
    refine ⟨?_, by rw [hheld, hw]; exact h.2.1, ?_⟩
    · have := h.1
      simpa [Arbiter.grantedSum, List.map_map, Function.comp_def] using this
    · intro r hr
      rw [hheld] at hr
      obtain ⟨x, hx, rfl⟩ := List.mem_map.1 hr
      exact h.2.2 x hx
  · exact h

/-- R78, R79: a placement or exchange, before its grant pass, keeps `ArbiterOk`. -/
theorem Arbiter.submit_ok {a : Arbiter} (h : ArbiterOk a) (who : Requester) (p : Purpose) (d : Nat) :
    ArbiterOk (a.submit who p d) := by
  have hr := Arbiter.remove_ok (Arbiter.renumber_ok h) who
  have hnot := Arbiter.remove_not_mem a.renumber who
  let r : FlowReq := { who := who, purpose := p, cls := p.cls, demand := d, stamp := a.renumber.counter + 1 }
  have hp : (a.submit who p d).held.Perm (r :: (a.renumber.remove who).held) := by
    simp only [Arbiter.held, Arbiter.submit]
    exact (((joinWaits_perm _ _).map _).append_left _).trans (List.perm_middle)
  refine ⟨hr.1, ((hp.map _).nodup_iff).2 ?_, fun x hx => ?_⟩
  · simp only [List.map_cons, List.nodup_cons]
    exact ⟨hnot, hr.2.1⟩
  · rcases List.mem_cons.1 (hp.mem_iff.1 hx) with rfl | hx
    · exact Purpose.cls_range p
    · exact hr.2.2 x hx

theorem Arbiter.markStarved_ok {a : Arbiter} (h : ArbiterOk a) (who : Requester) (n : Nat) :
    ArbiterOk (a.markStarved who n) := by
  have hheld : (a.markStarved who n).held = a.held := by
    simp only [Arbiter.held, Arbiter.markStarved, List.map_map]
    congr 1
    apply List.map_congr_left
    intro w _
    simp only [Function.comp_apply]
    split <;> rfl
  exact ⟨h.1, by rw [hheld]; exact h.2.1, by rw [hheld]; exact h.2.2⟩

theorem Arbiter.tick_ok {a : Arbiter} (h : ArbiterOk a) : ArbiterOk a.tick := by
  have hheld : a.tick.held = a.held := by simp [Arbiter.held, Arbiter.tick, List.map_map, Function.comp_def]
  exact ⟨h.1, by rw [hheld]; exact h.2.1, by rw [hheld]; exact h.2.2⟩

end Sys2Proof.Machine
end

