-- ==== Sys2Proof/Laws/Blocks.lean ====
section
/-! SUPPORT. One law per shared operation of the smaller blocks: pairs, plan table, channels, monitors, cartridge sensing. -/
namespace Sys2Proof.Machine

/-! ## Pairs -/

/-- R107, R108: deciding a pair leaves its coil as request, gate, timer and last direction make it. -/
theorem Pair.settle_ok (gate : Bool) (deadTime period : Nat) (p : Pair) : CoilOk gate (p.settle gate deadTime period) := by
  unfold Pair.settle CoilOk
  cases hd : p.dir with
  | none => simp
  | some d =>
    cases gate with
    | false => simp
    | true =>
      by_cases h : (if p.stops true = true then deadTime else p.dead) = 0 ∨ p.last = some d
      · simp [h]
      · simp only [if_true, if_neg h]
        exact ⟨trivial, by simp, fun e => h (.inr e)⟩

/-- R121: a monitor expires just when it is armed at 0, not frozen, and its coil drives. -/
theorem Pair.expires_iff (p : Pair) :
    p.expires = true ↔ ∃ r d, p.monitor = .armed 0 r false ∧ p.coil = .driving d := by
  unfold Pair.expires Pair.counting
  constructor
  · intro h
    split at h
    · split at h
      · simp_all
      · cases h
    · cases h
  · rintro ⟨r, d, hm, hc⟩
    simp [hm, hc]

/-- Deciding a pair changes neither its request nor its monitor. -/
theorem Pair.settle_frame (gate : Bool) (deadTime period : Nat) (p : Pair) :
    (p.settle gate deadTime period).dir = p.dir ∧ (p.settle gate deadTime period).duty = p.duty ∧
      (p.settle gate deadTime period).applied = p.applied ∧ (p.settle gate deadTime period).monitor = p.monitor := by
  unfold Pair.settle
  cases hd : p.dir with
  | none => simp
  | some d =>
    cases gate with
    | false => simp
    | true =>
      simp only [if_true]
      split_ifs <;> exact ⟨rfl, rfl, rfl, rfl⟩

/-- R107: while the gate is closed no coil drives. -/
theorem Pair.settle_closed (deadTime period : Nat) (p : Pair) : (p.settle false deadTime period).coil = .off := by
  unfold Pair.settle
  cases p.dir <;> simp

/-- R106: an off request leaves the pair without a drive. -/
@[simp] theorem Pair.record_off_dir (p : Pair) (hold : Bool) (m r : Nat) (x : Int) : (p.record (.off hold) m r x).dir = none := rfl
@[simp] theorem Pair.record_drive_dir (p : Pair) (d : Dir) (duty : Nat) (a : Arming) (m r : Nat) (x : Int) :
    (p.record (.drive d duty a) m r x).dir = some d := rfl

/-! ## The plan table -/

theorem findPlan_insertPlan_self (p : HolePlan) (ps : List HolePlan) : findPlan (insertPlan p ps) p.id = some p := by
  induction ps with
  | nil => simp [insertPlan, findPlan]
  | cons x xs ih =>
    simp only [insertPlan]
    split
    · simp [findPlan]
    · split
      · simp [findPlan]
      · rename_i h1 h2
        have hx : (x.id == p.id) = false := by simp; omega
        simpa [findPlan, hx] using ih

theorem findPlan_insertPlan_of_ne (p : HolePlan) (ps : List HolePlan) {id : Nat} (h : id ≠ p.id) :
    findPlan (insertPlan p ps) id = findPlan ps id := by
  have hp : (p.id == id) = false := by simp; omega
  induction ps with
  | nil => simp [insertPlan, findPlan, hp]
  | cons x xs ih =>
    simp only [insertPlan]
    split
    · simp [findPlan, hp]
    · split
      · rename_i h1 h2
        have hx : (x.id == id) = false := by simp; omega
        simp [findPlan, hp, hx]
      · simp only [findPlan, List.find?_cons] at ih ⊢
        rw [ih]

theorem insertPlan_sorted (p : HolePlan) (ps : List HolePlan) (h : ps.Pairwise (fun x y => x.id < y.id)) :
    (insertPlan p ps).Pairwise (fun x y => x.id < y.id) ∧ ∀ y ∈ insertPlan p ps, y = p ∨ y ∈ ps := by
  induction ps with
  | nil => simp [insertPlan]
  | cons x xs ih =>
    obtain ⟨hx, hs⟩ := List.pairwise_cons.1 h
    obtain ⟨i1, i2⟩ := ih hs
    simp only [insertPlan]
    split
    · rename_i h1
      refine ⟨List.pairwise_cons.2 ⟨fun y hy => ?_, h⟩, fun y hy => by simpa using hy⟩
      rcases List.mem_cons.1 hy with rfl | hy
      · exact h1
      · exact h1.trans (hx y hy)
    · split
      · rename_i h1 h2
        refine ⟨List.pairwise_cons.2 ⟨fun y hy => h2 ▸ hx y hy, hs⟩, fun y hy => ?_⟩
        rcases List.mem_cons.1 hy with rfl | hy
        · exact .inl rfl
        · exact .inr (List.mem_cons_of_mem _ hy)
      · rename_i h1 h2
        refine ⟨List.pairwise_cons.2 ⟨fun y hy => ?_, i1⟩, fun y hy => ?_⟩
        · rcases i2 y hy with rfl | hy
          · omega
          · exact hx y hy
        · rcases List.mem_cons.1 hy with rfl | hy
          · exact .inr (List.mem_cons_self ..)
          · exact (i2 y hy).imp_right (List.mem_cons_of_mem _)

theorem findPlan_dropPlan (id k : Nat) (ps : List HolePlan) :
    findPlan (dropPlan id ps) k = if k = id then none else findPlan ps k := by
  unfold findPlan dropPlan
  induction ps with
  | nil => simp
  | cons x xs ih =>
    by_cases hx : x.id = id <;> by_cases hk : k = id <;> by_cases hxk : x.id = k <;> simp_all

/-! ## Channels -/

/-- R138: a fault count stays within 0 to 256. -/
theorem countAfter_le {n : Nat} (h : n ≤ 256) (good : Bool) : countAfter n good ≤ 256 := by
  unfold countAfter
  split <;> omega

/-- R138: the health state FAILED is the count 256 and no other. -/
theorem Health.ofCount_failed (n : Nat) : Health.ofCount n = .failed ↔ 255 < n := by
  unfold Health.ofCount
  repeat' split
  all_goals (simp; omega)

/-- R131: a filter with shift 0 takes the value itself. -/
theorem filterStep_zero (f x : Int) : filterStep f x 0 = x := by
  simp [filterStep]

/-- R131: a filter step stays between the old filtered value and the sample. -/
theorem filterStep_between (f x : Int) (k : Nat) :
    (f ≤ x → f ≤ filterStep f x k ∧ filterStep f x k ≤ x) ∧ (x ≤ f → x ≤ filterStep f x k ∧ filterStep f x k ≤ f) := by
  have hp : (0 : Int) < 2 ^ k := by positivity
  unfold filterStep
  refine ⟨fun h => ?_, fun h => ?_⟩
  · have h0 : 0 ≤ x - f := by omega
    have h1 := Int.tdiv_nonneg h0 hp.le
    have h2 := Int.tdiv_le_self (2 ^ k) h0
    omega
  · have h0 : 0 ≤ f - x := by omega
    have h1 := Int.tdiv_nonneg h0 hp.le
    have h2 := Int.tdiv_le_self (2 ^ k) h0
    have h3 : Int.tdiv (x - f) (2 ^ k) = -Int.tdiv (f - x) (2 ^ k) := by rw [← Int.neg_tdiv]; congr 1; omega
    omega

/-! ## Monitors -/

/-- R175, R176, R181: a test keeps the latches above the status. -/
theorem Monitor.tested_latches (m : Monitor) (x : Int) (h : (m.status ≠ .normal → m.warnSeen = true) ∧
    (m.status = .trip → m.tripSeen = true)) :
    ((m.tested x).status ≠ .normal → (m.tested x).warnSeen = true) ∧
      ((m.tested x).status = .trip → (m.tested x).tripSeen = true) := by
  obtain ⟨cfg, status, seen, tripped⟩ := m
  obtain ⟨h1, h2⟩ := h
  simp only [Monitor.tested, Monitor.nextStatus, Monitor.fallen, Monitor.entersTrip, Monitor.entersWarn] at *
  cases status <;> cases cfg.reaches cfg.warn x <;> cases cfg.reaches cfg.trip x <;>
    cases cfg.returns cfg.warn x <;> cases cfg.returns cfg.trip x <;> simp_all

@[simp] theorem Monitor.tested_cfg (m : Monitor) (x : Int) : (m.tested x).cfg = m.cfg := rfl
@[simp] theorem Monitor.tested_last (m : Monitor) (x : Int) : (m.tested x).last = some x := rfl
@[simp] theorem Monitor.tested_valid (m : Monitor) (x : Int) : (m.tested x).valid = m.valid := rfl

/-! ## Cartridge sensing -/

@[simp] theorem Sensing.get_put_self (x : Sensing) (i : Setting) (y : SettingState) : (x.put i y).get i = y := by cases i <;> rfl
theorem Sensing.get_put_of_ne (x : Sensing) {i j : Setting} (h : j ≠ i) (y : SettingState) : (x.put i y).get j = x.get j := by
  cases i <;> cases j <;> first | rfl | exact absurd rfl h

/-- R165: deciding the presence touches the presence and the agreement run only. -/
theorem Sensing.decide_eq (x : Sensing) (m : Bool) :
    x.decide m = { x with present := (x.decide m).present, agree := (x.decide m).agree } := by
  unfold Sensing.decide
  split_ifs <;> rfl

/-- R162, R171: a measurement ends with the threshold in force for the next one; mode, window, magazine and passages stand. -/
theorem Sensing.measured_frame (x : Sensing) (threshold : Nat) (home : Bool) (c : Nat) :
    (x.measured threshold home c).threshold = threshold ∧ (x.measured threshold home c).hop = x.hop ∧
      (x.measured threshold home c).window = x.window ∧ (x.measured threshold home c).restart = false ∧
      (x.measured threshold home c).magazine = x.magazine ∧ (x.measured threshold home c).passages = x.passages := by
  unfold Sensing.measured
  rw [Sensing.decide_eq]
  cases x.setting <;> exact ⟨rfl, rfl, rfl, rfl, rfl, rfl⟩

/-! ## Pickups -/

/-- R118: a line that returns to the qualified level discards its run. -/
theorem Pickup.take_back (x : Pickup) : x.take x.level = { x with line := x.level, run := none } := by simp [Pickup.take]

/-- R118: a line that leaves the qualified level has a run. -/
theorem Pickup.take_away (x : Pickup) : (x.take (!x.level)).runs (!x.level) = true := by
  cases h : x.level <;> cases hr : x.run <;> simp [Pickup.take, Pickup.runs, h, hr]

/-- R118: a run of one level is none of the other. -/
theorem Pickup.runs_line {x : Pickup} {active : Bool} (h : x.runs active = true) :
    x.line = active ∧ x.level = !active ∧ x.run.isSome = true := by
  cases active <;> simp_all [Pickup.runs]

/-- R118: a millisecond moves the run only. -/
@[simp] theorem Pickup.tick_runs (x : Pickup) (active : Bool) : x.tick.runs active = x.runs active := by
  cases h : x.run <;> simp [Pickup.tick, Pickup.runs, h]

end Sys2Proof.Machine
end

