-- ==== Sys2Proof/Laws/State.lean ====
section
/-! SUPPORT. One lemma per field per update of the state, so that no proof unfolds a record update. -/
namespace Sys2Proof.Machine

@[simp] theorem State.setBoom_phase (s : State) (b : BoomId) (x : BoomState) : (s.setBoom b x).phase = s.phase := by cases b <;> rfl
@[simp] theorem State.setBoom_loadTimer (s : State) (b : BoomId) (x : BoomState) : (s.setBoom b x).loadTimer = s.loadTimer := by cases b <;> rfl
@[simp] theorem State.setBoom_now (s : State) (b : BoomId) (x : BoomState) : (s.setBoom b x).now = s.now := by cases b <;> rfl
@[simp] theorem State.setBoom_lastScan (s : State) (b : BoomId) (x : BoomState) : (s.setBoom b x).lastScan = s.lastScan := by cases b <;> rfl
@[simp] theorem State.setBoom_scan (s : State) (b : BoomId) (x : BoomState) : (s.setBoom b x).scan = s.scan := by cases b <;> rfl
@[simp] theorem State.setBoom_link (s : State) (b : BoomId) (x : BoomState) : (s.setBoom b x).link = s.link := by cases b <;> rfl
@[simp] theorem State.setBoom_events (s : State) (b : BoomId) (x : BoomState) : (s.setBoom b x).events = s.events := by cases b <;> rfl
@[simp] theorem State.setBoom_plans (s : State) (b : BoomId) (x : BoomState) : (s.setBoom b x).plans = s.plans := by cases b <;> rfl
@[simp] theorem State.setBoom_arb (s : State) (b : BoomId) (x : BoomState) : (s.setBoom b x).arb = s.arb := by cases b <;> rfl
@[simp] theorem State.setBoom_canopy (s : State) (b : BoomId) (x : BoomState) : (s.setBoom b x).canopy = s.canopy := by cases b <;> rfl
@[simp] theorem State.setBoom_canopyPair (s : State) (b : BoomId) (x : BoomState) : (s.setBoom b x).canopyPair = s.canopyPair := by cases b <;> rfl
@[simp] theorem State.setBoom_trip (s : State) (b : BoomId) (x : BoomState) : (s.setBoom b x).trip = s.trip := by cases b <;> rfl
@[simp] theorem State.setBoom_estop (s : State) (b : BoomId) (x : BoomState) : (s.setBoom b x).estop = s.estop := by cases b <;> rfl
@[simp] theorem State.setBoom_clow (s : State) (b : BoomId) (x : BoomState) : (s.setBoom b x).clow = s.clow := by cases b <;> rfl
@[simp] theorem State.setBoom_analogs (s : State) (b : BoomId) (x : BoomState) : (s.setBoom b x).analogs = s.analogs := by cases b <;> rfl
@[simp] theorem State.setBoom_bus (s : State) (b : BoomId) (x : BoomState) : (s.setBoom b x).bus = s.bus := by cases b <;> rfl
@[simp] theorem State.setBoom_monitors (s : State) (b : BoomId) (x : BoomState) : (s.setBoom b x).monitors = s.monitors := by cases b <;> rfl
@[simp] theorem State.setBoom_store (s : State) (b : BoomId) (x : BoomState) : (s.setBoom b x).store = s.store := by cases b <;> rfl
@[simp] theorem State.setBoom_cal (s : State) (b : BoomId) (x : BoomState) : (s.setBoom b x).cal = s.cal := by cases b <;> rfl
@[simp] theorem State.setBoom_freeCount (s : State) (b : BoomId) (x : BoomState) : (s.setBoom b x).freeCount = s.freeCount := by cases b <;> rfl
@[simp] theorem State.setBoom_pending (s : State) (b : BoomId) (x : BoomState) : (s.setBoom b x).pending = s.pending := by cases b <;> rfl
@[simp] theorem State.setBoom_boom (s : State) (b c : BoomId) (x : BoomState) :
    (s.setBoom b x).boom c = if c = b then x else s.boom c := by cases b <;> cases c <;> rfl

@[simp] theorem State.setEngine_phase (s : State) (b : BoomId) (x : Engine) : (s.setEngine b x).phase = s.phase := by cases b <;> rfl
@[simp] theorem State.setEngine_loadTimer (s : State) (b : BoomId) (x : Engine) : (s.setEngine b x).loadTimer = s.loadTimer := by cases b <;> rfl
@[simp] theorem State.setEngine_now (s : State) (b : BoomId) (x : Engine) : (s.setEngine b x).now = s.now := by cases b <;> rfl
@[simp] theorem State.setEngine_lastScan (s : State) (b : BoomId) (x : Engine) : (s.setEngine b x).lastScan = s.lastScan := by cases b <;> rfl
@[simp] theorem State.setEngine_scan (s : State) (b : BoomId) (x : Engine) : (s.setEngine b x).scan = s.scan := by cases b <;> rfl
@[simp] theorem State.setEngine_link (s : State) (b : BoomId) (x : Engine) : (s.setEngine b x).link = s.link := by cases b <;> rfl
@[simp] theorem State.setEngine_events (s : State) (b : BoomId) (x : Engine) : (s.setEngine b x).events = s.events := by cases b <;> rfl
@[simp] theorem State.setEngine_plans (s : State) (b : BoomId) (x : Engine) : (s.setEngine b x).plans = s.plans := by cases b <;> rfl
@[simp] theorem State.setEngine_arb (s : State) (b : BoomId) (x : Engine) : (s.setEngine b x).arb = s.arb := by cases b <;> rfl
@[simp] theorem State.setEngine_canopy (s : State) (b : BoomId) (x : Engine) : (s.setEngine b x).canopy = s.canopy := by cases b <;> rfl
@[simp] theorem State.setEngine_canopyPair (s : State) (b : BoomId) (x : Engine) : (s.setEngine b x).canopyPair = s.canopyPair := by cases b <;> rfl
@[simp] theorem State.setEngine_trip (s : State) (b : BoomId) (x : Engine) : (s.setEngine b x).trip = s.trip := by cases b <;> rfl
@[simp] theorem State.setEngine_estop (s : State) (b : BoomId) (x : Engine) : (s.setEngine b x).estop = s.estop := by cases b <;> rfl
@[simp] theorem State.setEngine_clow (s : State) (b : BoomId) (x : Engine) : (s.setEngine b x).clow = s.clow := by cases b <;> rfl
@[simp] theorem State.setEngine_analogs (s : State) (b : BoomId) (x : Engine) : (s.setEngine b x).analogs = s.analogs := by cases b <;> rfl
@[simp] theorem State.setEngine_bus (s : State) (b : BoomId) (x : Engine) : (s.setEngine b x).bus = s.bus := by cases b <;> rfl
@[simp] theorem State.setEngine_monitors (s : State) (b : BoomId) (x : Engine) : (s.setEngine b x).monitors = s.monitors := by cases b <;> rfl
@[simp] theorem State.setEngine_store (s : State) (b : BoomId) (x : Engine) : (s.setEngine b x).store = s.store := by cases b <;> rfl
@[simp] theorem State.setEngine_cal (s : State) (b : BoomId) (x : Engine) : (s.setEngine b x).cal = s.cal := by cases b <;> rfl
@[simp] theorem State.setEngine_freeCount (s : State) (b : BoomId) (x : Engine) : (s.setEngine b x).freeCount = s.freeCount := by cases b <;> rfl
@[simp] theorem State.setEngine_pending (s : State) (b : BoomId) (x : Engine) : (s.setEngine b x).pending = s.pending := by cases b <;> rfl
@[simp] theorem State.setEngine_boom (s : State) (b c : BoomId) (x : Engine) :
    (s.setEngine b x).boom c = if c = b then { s.boom b with engine := x } else s.boom c := by cases b <;> cases c <;> rfl

@[simp] theorem State.setLogger_phase (s : State) (b : BoomId) (x : Logger) : (s.setLogger b x).phase = s.phase := by cases b <;> rfl
@[simp] theorem State.setLogger_loadTimer (s : State) (b : BoomId) (x : Logger) : (s.setLogger b x).loadTimer = s.loadTimer := by cases b <;> rfl
@[simp] theorem State.setLogger_now (s : State) (b : BoomId) (x : Logger) : (s.setLogger b x).now = s.now := by cases b <;> rfl
@[simp] theorem State.setLogger_lastScan (s : State) (b : BoomId) (x : Logger) : (s.setLogger b x).lastScan = s.lastScan := by cases b <;> rfl
@[simp] theorem State.setLogger_scan (s : State) (b : BoomId) (x : Logger) : (s.setLogger b x).scan = s.scan := by cases b <;> rfl
@[simp] theorem State.setLogger_link (s : State) (b : BoomId) (x : Logger) : (s.setLogger b x).link = s.link := by cases b <;> rfl
@[simp] theorem State.setLogger_events (s : State) (b : BoomId) (x : Logger) : (s.setLogger b x).events = s.events := by cases b <;> rfl
@[simp] theorem State.setLogger_plans (s : State) (b : BoomId) (x : Logger) : (s.setLogger b x).plans = s.plans := by cases b <;> rfl
@[simp] theorem State.setLogger_arb (s : State) (b : BoomId) (x : Logger) : (s.setLogger b x).arb = s.arb := by cases b <;> rfl
@[simp] theorem State.setLogger_canopy (s : State) (b : BoomId) (x : Logger) : (s.setLogger b x).canopy = s.canopy := by cases b <;> rfl
@[simp] theorem State.setLogger_canopyPair (s : State) (b : BoomId) (x : Logger) : (s.setLogger b x).canopyPair = s.canopyPair := by cases b <;> rfl
@[simp] theorem State.setLogger_trip (s : State) (b : BoomId) (x : Logger) : (s.setLogger b x).trip = s.trip := by cases b <;> rfl
@[simp] theorem State.setLogger_estop (s : State) (b : BoomId) (x : Logger) : (s.setLogger b x).estop = s.estop := by cases b <;> rfl
@[simp] theorem State.setLogger_clow (s : State) (b : BoomId) (x : Logger) : (s.setLogger b x).clow = s.clow := by cases b <;> rfl
@[simp] theorem State.setLogger_analogs (s : State) (b : BoomId) (x : Logger) : (s.setLogger b x).analogs = s.analogs := by cases b <;> rfl
@[simp] theorem State.setLogger_bus (s : State) (b : BoomId) (x : Logger) : (s.setLogger b x).bus = s.bus := by cases b <;> rfl
@[simp] theorem State.setLogger_monitors (s : State) (b : BoomId) (x : Logger) : (s.setLogger b x).monitors = s.monitors := by cases b <;> rfl
@[simp] theorem State.setLogger_store (s : State) (b : BoomId) (x : Logger) : (s.setLogger b x).store = s.store := by cases b <;> rfl
@[simp] theorem State.setLogger_cal (s : State) (b : BoomId) (x : Logger) : (s.setLogger b x).cal = s.cal := by cases b <;> rfl
@[simp] theorem State.setLogger_freeCount (s : State) (b : BoomId) (x : Logger) : (s.setLogger b x).freeCount = s.freeCount := by cases b <;> rfl
@[simp] theorem State.setLogger_pending (s : State) (b : BoomId) (x : Logger) : (s.setLogger b x).pending = s.pending := by cases b <;> rfl
@[simp] theorem State.setLogger_boom (s : State) (b c : BoomId) (x : Logger) :
    (s.setLogger b x).boom c = if c = b then { s.boom b with logger := x } else s.boom c := by cases b <;> cases c <;> rfl

@[simp] theorem State.setMotion_phase (s : State) (b : BoomId) (x : Motion) : (s.setMotion b x).phase = s.phase := by cases b <;> rfl
@[simp] theorem State.setMotion_loadTimer (s : State) (b : BoomId) (x : Motion) : (s.setMotion b x).loadTimer = s.loadTimer := by cases b <;> rfl
@[simp] theorem State.setMotion_now (s : State) (b : BoomId) (x : Motion) : (s.setMotion b x).now = s.now := by cases b <;> rfl
@[simp] theorem State.setMotion_lastScan (s : State) (b : BoomId) (x : Motion) : (s.setMotion b x).lastScan = s.lastScan := by cases b <;> rfl
@[simp] theorem State.setMotion_scan (s : State) (b : BoomId) (x : Motion) : (s.setMotion b x).scan = s.scan := by cases b <;> rfl
@[simp] theorem State.setMotion_link (s : State) (b : BoomId) (x : Motion) : (s.setMotion b x).link = s.link := by cases b <;> rfl
@[simp] theorem State.setMotion_events (s : State) (b : BoomId) (x : Motion) : (s.setMotion b x).events = s.events := by cases b <;> rfl
@[simp] theorem State.setMotion_plans (s : State) (b : BoomId) (x : Motion) : (s.setMotion b x).plans = s.plans := by cases b <;> rfl
@[simp] theorem State.setMotion_arb (s : State) (b : BoomId) (x : Motion) : (s.setMotion b x).arb = s.arb := by cases b <;> rfl
@[simp] theorem State.setMotion_canopy (s : State) (b : BoomId) (x : Motion) : (s.setMotion b x).canopy = s.canopy := by cases b <;> rfl
@[simp] theorem State.setMotion_canopyPair (s : State) (b : BoomId) (x : Motion) : (s.setMotion b x).canopyPair = s.canopyPair := by cases b <;> rfl
@[simp] theorem State.setMotion_trip (s : State) (b : BoomId) (x : Motion) : (s.setMotion b x).trip = s.trip := by cases b <;> rfl
@[simp] theorem State.setMotion_estop (s : State) (b : BoomId) (x : Motion) : (s.setMotion b x).estop = s.estop := by cases b <;> rfl
@[simp] theorem State.setMotion_clow (s : State) (b : BoomId) (x : Motion) : (s.setMotion b x).clow = s.clow := by cases b <;> rfl
@[simp] theorem State.setMotion_analogs (s : State) (b : BoomId) (x : Motion) : (s.setMotion b x).analogs = s.analogs := by cases b <;> rfl
@[simp] theorem State.setMotion_bus (s : State) (b : BoomId) (x : Motion) : (s.setMotion b x).bus = s.bus := by cases b <;> rfl
@[simp] theorem State.setMotion_monitors (s : State) (b : BoomId) (x : Motion) : (s.setMotion b x).monitors = s.monitors := by cases b <;> rfl
@[simp] theorem State.setMotion_store (s : State) (b : BoomId) (x : Motion) : (s.setMotion b x).store = s.store := by cases b <;> rfl
@[simp] theorem State.setMotion_cal (s : State) (b : BoomId) (x : Motion) : (s.setMotion b x).cal = s.cal := by cases b <;> rfl
@[simp] theorem State.setMotion_freeCount (s : State) (b : BoomId) (x : Motion) : (s.setMotion b x).freeCount = s.freeCount := by cases b <;> rfl
@[simp] theorem State.setMotion_pending (s : State) (b : BoomId) (x : Motion) : (s.setMotion b x).pending = s.pending := by cases b <;> rfl
@[simp] theorem State.setMotion_boom (s : State) (b c : BoomId) (x : Motion) :
    (s.setMotion b x).boom c = if c = b then { s.boom b with motion := x } else s.boom c := by cases b <;> cases c <;> rfl

@[simp] theorem State.setHead_phase (s : State) (b : BoomId) (x : Head) : (s.setHead b x).phase = s.phase := by cases b <;> rfl
@[simp] theorem State.setHead_loadTimer (s : State) (b : BoomId) (x : Head) : (s.setHead b x).loadTimer = s.loadTimer := by cases b <;> rfl
@[simp] theorem State.setHead_now (s : State) (b : BoomId) (x : Head) : (s.setHead b x).now = s.now := by cases b <;> rfl
@[simp] theorem State.setHead_lastScan (s : State) (b : BoomId) (x : Head) : (s.setHead b x).lastScan = s.lastScan := by cases b <;> rfl
@[simp] theorem State.setHead_scan (s : State) (b : BoomId) (x : Head) : (s.setHead b x).scan = s.scan := by cases b <;> rfl
@[simp] theorem State.setHead_link (s : State) (b : BoomId) (x : Head) : (s.setHead b x).link = s.link := by cases b <;> rfl
@[simp] theorem State.setHead_events (s : State) (b : BoomId) (x : Head) : (s.setHead b x).events = s.events := by cases b <;> rfl
@[simp] theorem State.setHead_plans (s : State) (b : BoomId) (x : Head) : (s.setHead b x).plans = s.plans := by cases b <;> rfl
@[simp] theorem State.setHead_arb (s : State) (b : BoomId) (x : Head) : (s.setHead b x).arb = s.arb := by cases b <;> rfl
@[simp] theorem State.setHead_canopy (s : State) (b : BoomId) (x : Head) : (s.setHead b x).canopy = s.canopy := by cases b <;> rfl
@[simp] theorem State.setHead_canopyPair (s : State) (b : BoomId) (x : Head) : (s.setHead b x).canopyPair = s.canopyPair := by cases b <;> rfl
@[simp] theorem State.setHead_trip (s : State) (b : BoomId) (x : Head) : (s.setHead b x).trip = s.trip := by cases b <;> rfl
@[simp] theorem State.setHead_estop (s : State) (b : BoomId) (x : Head) : (s.setHead b x).estop = s.estop := by cases b <;> rfl
@[simp] theorem State.setHead_clow (s : State) (b : BoomId) (x : Head) : (s.setHead b x).clow = s.clow := by cases b <;> rfl
@[simp] theorem State.setHead_analogs (s : State) (b : BoomId) (x : Head) : (s.setHead b x).analogs = s.analogs := by cases b <;> rfl
@[simp] theorem State.setHead_bus (s : State) (b : BoomId) (x : Head) : (s.setHead b x).bus = s.bus := by cases b <;> rfl
@[simp] theorem State.setHead_monitors (s : State) (b : BoomId) (x : Head) : (s.setHead b x).monitors = s.monitors := by cases b <;> rfl
@[simp] theorem State.setHead_store (s : State) (b : BoomId) (x : Head) : (s.setHead b x).store = s.store := by cases b <;> rfl
@[simp] theorem State.setHead_cal (s : State) (b : BoomId) (x : Head) : (s.setHead b x).cal = s.cal := by cases b <;> rfl
@[simp] theorem State.setHead_freeCount (s : State) (b : BoomId) (x : Head) : (s.setHead b x).freeCount = s.freeCount := by cases b <;> rfl
@[simp] theorem State.setHead_pending (s : State) (b : BoomId) (x : Head) : (s.setHead b x).pending = s.pending := by cases b <;> rfl
@[simp] theorem State.setHead_boom (s : State) (b c : BoomId) (x : Head) :
    (s.setHead b x).boom c = if c = b then { s.boom b with head := x } else s.boom c := by cases b <;> cases c <;> rfl

@[simp] theorem State.setSensing_phase (s : State) (b : BoomId) (x : Sensing) : (s.setSensing b x).phase = s.phase := by cases b <;> rfl
@[simp] theorem State.setSensing_loadTimer (s : State) (b : BoomId) (x : Sensing) : (s.setSensing b x).loadTimer = s.loadTimer := by cases b <;> rfl
@[simp] theorem State.setSensing_now (s : State) (b : BoomId) (x : Sensing) : (s.setSensing b x).now = s.now := by cases b <;> rfl
@[simp] theorem State.setSensing_lastScan (s : State) (b : BoomId) (x : Sensing) : (s.setSensing b x).lastScan = s.lastScan := by cases b <;> rfl
@[simp] theorem State.setSensing_scan (s : State) (b : BoomId) (x : Sensing) : (s.setSensing b x).scan = s.scan := by cases b <;> rfl
@[simp] theorem State.setSensing_link (s : State) (b : BoomId) (x : Sensing) : (s.setSensing b x).link = s.link := by cases b <;> rfl
@[simp] theorem State.setSensing_events (s : State) (b : BoomId) (x : Sensing) : (s.setSensing b x).events = s.events := by cases b <;> rfl
@[simp] theorem State.setSensing_plans (s : State) (b : BoomId) (x : Sensing) : (s.setSensing b x).plans = s.plans := by cases b <;> rfl
@[simp] theorem State.setSensing_arb (s : State) (b : BoomId) (x : Sensing) : (s.setSensing b x).arb = s.arb := by cases b <;> rfl
@[simp] theorem State.setSensing_canopy (s : State) (b : BoomId) (x : Sensing) : (s.setSensing b x).canopy = s.canopy := by cases b <;> rfl
@[simp] theorem State.setSensing_canopyPair (s : State) (b : BoomId) (x : Sensing) : (s.setSensing b x).canopyPair = s.canopyPair := by cases b <;> rfl
@[simp] theorem State.setSensing_trip (s : State) (b : BoomId) (x : Sensing) : (s.setSensing b x).trip = s.trip := by cases b <;> rfl
@[simp] theorem State.setSensing_estop (s : State) (b : BoomId) (x : Sensing) : (s.setSensing b x).estop = s.estop := by cases b <;> rfl
@[simp] theorem State.setSensing_clow (s : State) (b : BoomId) (x : Sensing) : (s.setSensing b x).clow = s.clow := by cases b <;> rfl
@[simp] theorem State.setSensing_analogs (s : State) (b : BoomId) (x : Sensing) : (s.setSensing b x).analogs = s.analogs := by cases b <;> rfl
@[simp] theorem State.setSensing_bus (s : State) (b : BoomId) (x : Sensing) : (s.setSensing b x).bus = s.bus := by cases b <;> rfl
@[simp] theorem State.setSensing_monitors (s : State) (b : BoomId) (x : Sensing) : (s.setSensing b x).monitors = s.monitors := by cases b <;> rfl
@[simp] theorem State.setSensing_store (s : State) (b : BoomId) (x : Sensing) : (s.setSensing b x).store = s.store := by cases b <;> rfl
@[simp] theorem State.setSensing_cal (s : State) (b : BoomId) (x : Sensing) : (s.setSensing b x).cal = s.cal := by cases b <;> rfl
@[simp] theorem State.setSensing_freeCount (s : State) (b : BoomId) (x : Sensing) : (s.setSensing b x).freeCount = s.freeCount := by cases b <;> rfl
@[simp] theorem State.setSensing_pending (s : State) (b : BoomId) (x : Sensing) : (s.setSensing b x).pending = s.pending := by cases b <;> rfl
@[simp] theorem State.setSensing_boom (s : State) (b c : BoomId) (x : Sensing) :
    (s.setSensing b x).boom c = if c = b then { s.boom b with sensing := x } else s.boom c := by cases b <;> cases c <;> rfl

@[simp] theorem State.setQueue_phase (s : State) (b : BoomId) (x : List Job) : (s.setQueue b x).phase = s.phase := by cases b <;> rfl
@[simp] theorem State.setQueue_loadTimer (s : State) (b : BoomId) (x : List Job) : (s.setQueue b x).loadTimer = s.loadTimer := by cases b <;> rfl
@[simp] theorem State.setQueue_now (s : State) (b : BoomId) (x : List Job) : (s.setQueue b x).now = s.now := by cases b <;> rfl
@[simp] theorem State.setQueue_lastScan (s : State) (b : BoomId) (x : List Job) : (s.setQueue b x).lastScan = s.lastScan := by cases b <;> rfl
@[simp] theorem State.setQueue_scan (s : State) (b : BoomId) (x : List Job) : (s.setQueue b x).scan = s.scan := by cases b <;> rfl
@[simp] theorem State.setQueue_link (s : State) (b : BoomId) (x : List Job) : (s.setQueue b x).link = s.link := by cases b <;> rfl
@[simp] theorem State.setQueue_events (s : State) (b : BoomId) (x : List Job) : (s.setQueue b x).events = s.events := by cases b <;> rfl
@[simp] theorem State.setQueue_plans (s : State) (b : BoomId) (x : List Job) : (s.setQueue b x).plans = s.plans := by cases b <;> rfl
@[simp] theorem State.setQueue_arb (s : State) (b : BoomId) (x : List Job) : (s.setQueue b x).arb = s.arb := by cases b <;> rfl
@[simp] theorem State.setQueue_canopy (s : State) (b : BoomId) (x : List Job) : (s.setQueue b x).canopy = s.canopy := by cases b <;> rfl
@[simp] theorem State.setQueue_canopyPair (s : State) (b : BoomId) (x : List Job) : (s.setQueue b x).canopyPair = s.canopyPair := by cases b <;> rfl
@[simp] theorem State.setQueue_trip (s : State) (b : BoomId) (x : List Job) : (s.setQueue b x).trip = s.trip := by cases b <;> rfl
@[simp] theorem State.setQueue_estop (s : State) (b : BoomId) (x : List Job) : (s.setQueue b x).estop = s.estop := by cases b <;> rfl
@[simp] theorem State.setQueue_clow (s : State) (b : BoomId) (x : List Job) : (s.setQueue b x).clow = s.clow := by cases b <;> rfl
@[simp] theorem State.setQueue_analogs (s : State) (b : BoomId) (x : List Job) : (s.setQueue b x).analogs = s.analogs := by cases b <;> rfl
@[simp] theorem State.setQueue_bus (s : State) (b : BoomId) (x : List Job) : (s.setQueue b x).bus = s.bus := by cases b <;> rfl
@[simp] theorem State.setQueue_monitors (s : State) (b : BoomId) (x : List Job) : (s.setQueue b x).monitors = s.monitors := by cases b <;> rfl
@[simp] theorem State.setQueue_store (s : State) (b : BoomId) (x : List Job) : (s.setQueue b x).store = s.store := by cases b <;> rfl
@[simp] theorem State.setQueue_cal (s : State) (b : BoomId) (x : List Job) : (s.setQueue b x).cal = s.cal := by cases b <;> rfl
@[simp] theorem State.setQueue_freeCount (s : State) (b : BoomId) (x : List Job) : (s.setQueue b x).freeCount = s.freeCount := by cases b <;> rfl
@[simp] theorem State.setQueue_pending (s : State) (b : BoomId) (x : List Job) : (s.setQueue b x).pending = s.pending := by cases b <;> rfl
@[simp] theorem State.setQueue_boom (s : State) (b c : BoomId) (x : List Job) :
    (s.setQueue b x).boom c = if c = b then { s.boom b with queue := x } else s.boom c := by cases b <;> cases c <;> rfl

@[simp] theorem State.setActive_phase (s : State) (b : BoomId) (x : Option Job) : (s.setActive b x).phase = s.phase := by cases b <;> rfl
@[simp] theorem State.setActive_loadTimer (s : State) (b : BoomId) (x : Option Job) : (s.setActive b x).loadTimer = s.loadTimer := by cases b <;> rfl
@[simp] theorem State.setActive_now (s : State) (b : BoomId) (x : Option Job) : (s.setActive b x).now = s.now := by cases b <;> rfl
@[simp] theorem State.setActive_lastScan (s : State) (b : BoomId) (x : Option Job) : (s.setActive b x).lastScan = s.lastScan := by cases b <;> rfl
@[simp] theorem State.setActive_scan (s : State) (b : BoomId) (x : Option Job) : (s.setActive b x).scan = s.scan := by cases b <;> rfl
@[simp] theorem State.setActive_link (s : State) (b : BoomId) (x : Option Job) : (s.setActive b x).link = s.link := by cases b <;> rfl
@[simp] theorem State.setActive_events (s : State) (b : BoomId) (x : Option Job) : (s.setActive b x).events = s.events := by cases b <;> rfl
@[simp] theorem State.setActive_plans (s : State) (b : BoomId) (x : Option Job) : (s.setActive b x).plans = s.plans := by cases b <;> rfl
@[simp] theorem State.setActive_arb (s : State) (b : BoomId) (x : Option Job) : (s.setActive b x).arb = s.arb := by cases b <;> rfl
@[simp] theorem State.setActive_canopy (s : State) (b : BoomId) (x : Option Job) : (s.setActive b x).canopy = s.canopy := by cases b <;> rfl
@[simp] theorem State.setActive_canopyPair (s : State) (b : BoomId) (x : Option Job) : (s.setActive b x).canopyPair = s.canopyPair := by cases b <;> rfl
@[simp] theorem State.setActive_trip (s : State) (b : BoomId) (x : Option Job) : (s.setActive b x).trip = s.trip := by cases b <;> rfl
@[simp] theorem State.setActive_estop (s : State) (b : BoomId) (x : Option Job) : (s.setActive b x).estop = s.estop := by cases b <;> rfl
@[simp] theorem State.setActive_clow (s : State) (b : BoomId) (x : Option Job) : (s.setActive b x).clow = s.clow := by cases b <;> rfl
@[simp] theorem State.setActive_analogs (s : State) (b : BoomId) (x : Option Job) : (s.setActive b x).analogs = s.analogs := by cases b <;> rfl
@[simp] theorem State.setActive_bus (s : State) (b : BoomId) (x : Option Job) : (s.setActive b x).bus = s.bus := by cases b <;> rfl
@[simp] theorem State.setActive_monitors (s : State) (b : BoomId) (x : Option Job) : (s.setActive b x).monitors = s.monitors := by cases b <;> rfl
@[simp] theorem State.setActive_store (s : State) (b : BoomId) (x : Option Job) : (s.setActive b x).store = s.store := by cases b <;> rfl
@[simp] theorem State.setActive_cal (s : State) (b : BoomId) (x : Option Job) : (s.setActive b x).cal = s.cal := by cases b <;> rfl
@[simp] theorem State.setActive_freeCount (s : State) (b : BoomId) (x : Option Job) : (s.setActive b x).freeCount = s.freeCount := by cases b <;> rfl
@[simp] theorem State.setActive_pending (s : State) (b : BoomId) (x : Option Job) : (s.setActive b x).pending = s.pending := by cases b <;> rfl
@[simp] theorem State.setActive_boom (s : State) (b c : BoomId) (x : Option Job) :
    (s.setActive b x).boom c = if c = b then { s.boom b with active := x } else s.boom c := by cases b <;> cases c <;> rfl

@[simp] theorem State.setAnalog_phase (s : State) (c : AnalogId) (x : Analog) : (s.setAnalog c x).phase = s.phase := by cases c <;> rfl
@[simp] theorem State.setAnalog_loadTimer (s : State) (c : AnalogId) (x : Analog) : (s.setAnalog c x).loadTimer = s.loadTimer := by cases c <;> rfl
@[simp] theorem State.setAnalog_now (s : State) (c : AnalogId) (x : Analog) : (s.setAnalog c x).now = s.now := by cases c <;> rfl
@[simp] theorem State.setAnalog_lastScan (s : State) (c : AnalogId) (x : Analog) : (s.setAnalog c x).lastScan = s.lastScan := by cases c <;> rfl
@[simp] theorem State.setAnalog_scan (s : State) (c : AnalogId) (x : Analog) : (s.setAnalog c x).scan = s.scan := by cases c <;> rfl
@[simp] theorem State.setAnalog_link (s : State) (c : AnalogId) (x : Analog) : (s.setAnalog c x).link = s.link := by cases c <;> rfl
@[simp] theorem State.setAnalog_events (s : State) (c : AnalogId) (x : Analog) : (s.setAnalog c x).events = s.events := by cases c <;> rfl
@[simp] theorem State.setAnalog_plans (s : State) (c : AnalogId) (x : Analog) : (s.setAnalog c x).plans = s.plans := by cases c <;> rfl
@[simp] theorem State.setAnalog_arb (s : State) (c : AnalogId) (x : Analog) : (s.setAnalog c x).arb = s.arb := by cases c <;> rfl
@[simp] theorem State.setAnalog_canopy (s : State) (c : AnalogId) (x : Analog) : (s.setAnalog c x).canopy = s.canopy := by cases c <;> rfl
@[simp] theorem State.setAnalog_canopyPair (s : State) (c : AnalogId) (x : Analog) : (s.setAnalog c x).canopyPair = s.canopyPair := by cases c <;> rfl
@[simp] theorem State.setAnalog_trip (s : State) (c : AnalogId) (x : Analog) : (s.setAnalog c x).trip = s.trip := by cases c <;> rfl
@[simp] theorem State.setAnalog_estop (s : State) (c : AnalogId) (x : Analog) : (s.setAnalog c x).estop = s.estop := by cases c <;> rfl
@[simp] theorem State.setAnalog_clow (s : State) (c : AnalogId) (x : Analog) : (s.setAnalog c x).clow = s.clow := by cases c <;> rfl
@[simp] theorem State.setAnalog_bus (s : State) (c : AnalogId) (x : Analog) : (s.setAnalog c x).bus = s.bus := by cases c <;> rfl
@[simp] theorem State.setAnalog_monitors (s : State) (c : AnalogId) (x : Analog) : (s.setAnalog c x).monitors = s.monitors := by cases c <;> rfl
@[simp] theorem State.setAnalog_store (s : State) (c : AnalogId) (x : Analog) : (s.setAnalog c x).store = s.store := by cases c <;> rfl
@[simp] theorem State.setAnalog_cal (s : State) (c : AnalogId) (x : Analog) : (s.setAnalog c x).cal = s.cal := by cases c <;> rfl
@[simp] theorem State.setAnalog_freeCount (s : State) (c : AnalogId) (x : Analog) : (s.setAnalog c x).freeCount = s.freeCount := by cases c <;> rfl
@[simp] theorem State.setAnalog_pending (s : State) (c : AnalogId) (x : Analog) : (s.setAnalog c x).pending = s.pending := by cases c <;> rfl
@[simp] theorem State.setAnalog_analog (s : State) (c d : AnalogId) (x : Analog) :
    (s.setAnalog c x).analog d = if d = c then x else s.analog d := by cases c <;> cases d <;> rfl

@[simp] theorem State.setAnalog_boom (s : State) (c : AnalogId) (x : Analog) (b : BoomId) :
    (s.setAnalog c x).boom b = s.boom b := by cases c <;> cases b <;> rfl

@[simp] theorem State.setSwitch_phase (s : State) (i : SwitchId) (x : SwitchInput) : (s.setSwitch i x).phase = s.phase := by rcases i with _ | b | b | b | b | _ <;> (try cases b) <;> rfl
@[simp] theorem State.setSwitch_loadTimer (s : State) (i : SwitchId) (x : SwitchInput) : (s.setSwitch i x).loadTimer = s.loadTimer := by rcases i with _ | b | b | b | b | _ <;> (try cases b) <;> rfl
@[simp] theorem State.setSwitch_now (s : State) (i : SwitchId) (x : SwitchInput) : (s.setSwitch i x).now = s.now := by rcases i with _ | b | b | b | b | _ <;> (try cases b) <;> rfl
@[simp] theorem State.setSwitch_lastScan (s : State) (i : SwitchId) (x : SwitchInput) : (s.setSwitch i x).lastScan = s.lastScan := by rcases i with _ | b | b | b | b | _ <;> (try cases b) <;> rfl
@[simp] theorem State.setSwitch_scan (s : State) (i : SwitchId) (x : SwitchInput) : (s.setSwitch i x).scan = s.scan := by rcases i with _ | b | b | b | b | _ <;> (try cases b) <;> rfl
@[simp] theorem State.setSwitch_link (s : State) (i : SwitchId) (x : SwitchInput) : (s.setSwitch i x).link = s.link := by rcases i with _ | b | b | b | b | _ <;> (try cases b) <;> rfl
@[simp] theorem State.setSwitch_events (s : State) (i : SwitchId) (x : SwitchInput) : (s.setSwitch i x).events = s.events := by rcases i with _ | b | b | b | b | _ <;> (try cases b) <;> rfl
@[simp] theorem State.setSwitch_plans (s : State) (i : SwitchId) (x : SwitchInput) : (s.setSwitch i x).plans = s.plans := by rcases i with _ | b | b | b | b | _ <;> (try cases b) <;> rfl
@[simp] theorem State.setSwitch_arb (s : State) (i : SwitchId) (x : SwitchInput) : (s.setSwitch i x).arb = s.arb := by rcases i with _ | b | b | b | b | _ <;> (try cases b) <;> rfl
@[simp] theorem State.setSwitch_canopy (s : State) (i : SwitchId) (x : SwitchInput) : (s.setSwitch i x).canopy = s.canopy := by rcases i with _ | b | b | b | b | _ <;> (try cases b) <;> rfl
@[simp] theorem State.setSwitch_canopyPair (s : State) (i : SwitchId) (x : SwitchInput) : (s.setSwitch i x).canopyPair = s.canopyPair := by rcases i with _ | b | b | b | b | _ <;> (try cases b) <;> rfl
@[simp] theorem State.setSwitch_trip (s : State) (i : SwitchId) (x : SwitchInput) : (s.setSwitch i x).trip = s.trip := by rcases i with _ | b | b | b | b | _ <;> (try cases b) <;> rfl
@[simp] theorem State.setSwitch_analogs (s : State) (i : SwitchId) (x : SwitchInput) : (s.setSwitch i x).analogs = s.analogs := by rcases i with _ | b | b | b | b | _ <;> (try cases b) <;> rfl
@[simp] theorem State.setSwitch_bus (s : State) (i : SwitchId) (x : SwitchInput) : (s.setSwitch i x).bus = s.bus := by rcases i with _ | b | b | b | b | _ <;> (try cases b) <;> rfl
@[simp] theorem State.setSwitch_monitors (s : State) (i : SwitchId) (x : SwitchInput) : (s.setSwitch i x).monitors = s.monitors := by rcases i with _ | b | b | b | b | _ <;> (try cases b) <;> rfl
@[simp] theorem State.setSwitch_store (s : State) (i : SwitchId) (x : SwitchInput) : (s.setSwitch i x).store = s.store := by rcases i with _ | b | b | b | b | _ <;> (try cases b) <;> rfl
@[simp] theorem State.setSwitch_cal (s : State) (i : SwitchId) (x : SwitchInput) : (s.setSwitch i x).cal = s.cal := by rcases i with _ | b | b | b | b | _ <;> (try cases b) <;> rfl
@[simp] theorem State.setSwitch_freeCount (s : State) (i : SwitchId) (x : SwitchInput) : (s.setSwitch i x).freeCount = s.freeCount := by rcases i with _ | b | b | b | b | _ <;> (try cases b) <;> rfl
@[simp] theorem State.setSwitch_pending (s : State) (i : SwitchId) (x : SwitchInput) : (s.setSwitch i x).pending = s.pending := by rcases i with _ | b | b | b | b | _ <;> (try cases b) <;> rfl
@[simp] theorem State.setSwitch_switch (s : State) (i j : SwitchId) (x : SwitchInput) :
    (s.setSwitch i x).switch j = if j = i then x else s.switch j := by
  rcases i with _ | b | b | b | b | _ <;> (try cases b) <;> rcases j with _ | c | c | c | c | _ <;> (try cases c) <;> rfl

@[simp] theorem State.setPair_phase (s : State) (p : PairId) (x : Pair) : (s.setPair p x).phase = s.phase := by rcases p with ⟨b, f⟩ | _ <;> (try cases b) <;> (try cases f) <;> rfl
@[simp] theorem State.setPair_loadTimer (s : State) (p : PairId) (x : Pair) : (s.setPair p x).loadTimer = s.loadTimer := by rcases p with ⟨b, f⟩ | _ <;> (try cases b) <;> (try cases f) <;> rfl
@[simp] theorem State.setPair_now (s : State) (p : PairId) (x : Pair) : (s.setPair p x).now = s.now := by rcases p with ⟨b, f⟩ | _ <;> (try cases b) <;> (try cases f) <;> rfl
@[simp] theorem State.setPair_lastScan (s : State) (p : PairId) (x : Pair) : (s.setPair p x).lastScan = s.lastScan := by rcases p with ⟨b, f⟩ | _ <;> (try cases b) <;> (try cases f) <;> rfl
@[simp] theorem State.setPair_scan (s : State) (p : PairId) (x : Pair) : (s.setPair p x).scan = s.scan := by rcases p with ⟨b, f⟩ | _ <;> (try cases b) <;> (try cases f) <;> rfl
@[simp] theorem State.setPair_link (s : State) (p : PairId) (x : Pair) : (s.setPair p x).link = s.link := by rcases p with ⟨b, f⟩ | _ <;> (try cases b) <;> (try cases f) <;> rfl
@[simp] theorem State.setPair_events (s : State) (p : PairId) (x : Pair) : (s.setPair p x).events = s.events := by rcases p with ⟨b, f⟩ | _ <;> (try cases b) <;> (try cases f) <;> rfl
@[simp] theorem State.setPair_plans (s : State) (p : PairId) (x : Pair) : (s.setPair p x).plans = s.plans := by rcases p with ⟨b, f⟩ | _ <;> (try cases b) <;> (try cases f) <;> rfl
@[simp] theorem State.setPair_arb (s : State) (p : PairId) (x : Pair) : (s.setPair p x).arb = s.arb := by rcases p with ⟨b, f⟩ | _ <;> (try cases b) <;> (try cases f) <;> rfl
@[simp] theorem State.setPair_canopy (s : State) (p : PairId) (x : Pair) : (s.setPair p x).canopy = s.canopy := by rcases p with ⟨b, f⟩ | _ <;> (try cases b) <;> (try cases f) <;> rfl
@[simp] theorem State.setPair_trip (s : State) (p : PairId) (x : Pair) : (s.setPair p x).trip = s.trip := by rcases p with ⟨b, f⟩ | _ <;> (try cases b) <;> (try cases f) <;> rfl
@[simp] theorem State.setPair_estop (s : State) (p : PairId) (x : Pair) : (s.setPair p x).estop = s.estop := by rcases p with ⟨b, f⟩ | _ <;> (try cases b) <;> (try cases f) <;> rfl
@[simp] theorem State.setPair_clow (s : State) (p : PairId) (x : Pair) : (s.setPair p x).clow = s.clow := by rcases p with ⟨b, f⟩ | _ <;> (try cases b) <;> (try cases f) <;> rfl
@[simp] theorem State.setPair_analogs (s : State) (p : PairId) (x : Pair) : (s.setPair p x).analogs = s.analogs := by rcases p with ⟨b, f⟩ | _ <;> (try cases b) <;> (try cases f) <;> rfl
@[simp] theorem State.setPair_bus (s : State) (p : PairId) (x : Pair) : (s.setPair p x).bus = s.bus := by rcases p with ⟨b, f⟩ | _ <;> (try cases b) <;> (try cases f) <;> rfl
@[simp] theorem State.setPair_monitors (s : State) (p : PairId) (x : Pair) : (s.setPair p x).monitors = s.monitors := by rcases p with ⟨b, f⟩ | _ <;> (try cases b) <;> (try cases f) <;> rfl
@[simp] theorem State.setPair_store (s : State) (p : PairId) (x : Pair) : (s.setPair p x).store = s.store := by rcases p with ⟨b, f⟩ | _ <;> (try cases b) <;> (try cases f) <;> rfl
@[simp] theorem State.setPair_cal (s : State) (p : PairId) (x : Pair) : (s.setPair p x).cal = s.cal := by rcases p with ⟨b, f⟩ | _ <;> (try cases b) <;> (try cases f) <;> rfl
@[simp] theorem State.setPair_freeCount (s : State) (p : PairId) (x : Pair) : (s.setPair p x).freeCount = s.freeCount := by rcases p with ⟨b, f⟩ | _ <;> (try cases b) <;> (try cases f) <;> rfl
@[simp] theorem State.setPair_pending (s : State) (p : PairId) (x : Pair) : (s.setPair p x).pending = s.pending := by rcases p with ⟨b, f⟩ | _ <;> (try cases b) <;> (try cases f) <;> rfl
@[simp] theorem State.setPair_pair (s : State) (p q : PairId) (x : Pair) :
    (s.setPair p x).pair q = if q = p then x else s.pair q := by
  rcases p with ⟨b, f⟩ | _ <;> (try cases b) <;> (try cases f) <;> rcases q with ⟨c, g⟩ | _ <;> (try cases c) <;>
    (try cases g) <;> rfl

/-- Setting a pair of one boom leaves everything of a boom but its pairs. -/
theorem State.setPair_boom (s : State) (p : PairId) (x : Pair) (b : BoomId) :
    (s.setPair p x).boom b = { s.boom b with pairs := ((s.setPair p x).boom b).pairs } := by
  rcases p with ⟨c, f⟩ | _ <;> (try cases c) <;> (try cases f) <;> cases b <;> rfl

@[simp] theorem State.setPair_engine (s : State) (p : PairId) (x : Pair) (b : BoomId) :
    (s.setPair p x).engine b = s.engine b := by
  rcases p with ⟨c, f⟩ | _ <;> (try cases c) <;> (try cases f) <;> cases b <;> rfl
@[simp] theorem State.setPair_logger (s : State) (p : PairId) (x : Pair) (b : BoomId) :
    (s.setPair p x).logger b = s.logger b := by
  rcases p with ⟨c, f⟩ | _ <;> (try cases c) <;> (try cases f) <;> cases b <;> rfl
@[simp] theorem State.setPair_motion (s : State) (p : PairId) (x : Pair) (b : BoomId) :
    (s.setPair p x).motion b = s.motion b := by
  rcases p with ⟨c, f⟩ | _ <;> (try cases c) <;> (try cases f) <;> cases b <;> rfl
@[simp] theorem State.setPair_head (s : State) (p : PairId) (x : Pair) (b : BoomId) :
    (s.setPair p x).head b = s.head b := by
  rcases p with ⟨c, f⟩ | _ <;> (try cases c) <;> (try cases f) <;> cases b <;> rfl
@[simp] theorem State.setPair_sensing (s : State) (p : PairId) (x : Pair) (b : BoomId) :
    (s.setPair p x).sensing b = s.sensing b := by
  rcases p with ⟨c, f⟩ | _ <;> (try cases c) <;> (try cases f) <;> cases b <;> rfl
@[simp] theorem State.setSwitch_engine (s : State) (i : SwitchId) (x : SwitchInput) (b : BoomId) :
    (s.setSwitch i x).engine b = s.engine b := by
  rcases i with _ | c | c | c | c | _ <;> (try cases c) <;> cases b <;> rfl
@[simp] theorem State.setSwitch_logger (s : State) (i : SwitchId) (x : SwitchInput) (b : BoomId) :
    (s.setSwitch i x).logger b = s.logger b := by
  rcases i with _ | c | c | c | c | _ <;> (try cases c) <;> cases b <;> rfl
@[simp] theorem State.setSwitch_motion (s : State) (i : SwitchId) (x : SwitchInput) (b : BoomId) :
    (s.setSwitch i x).motion b = s.motion b := by
  rcases i with _ | c | c | c | c | _ <;> (try cases c) <;> cases b <;> rfl
@[simp] theorem State.setSwitch_head (s : State) (i : SwitchId) (x : SwitchInput) (b : BoomId) :
    (s.setSwitch i x).head b = s.head b := by
  rcases i with _ | c | c | c | c | _ <;> (try cases c) <;> cases b <;> rfl
@[simp] theorem State.setSwitch_sensing (s : State) (i : SwitchId) (x : SwitchInput) (b : BoomId) :
    (s.setSwitch i x).sensing b = s.sensing b := by
  rcases i with _ | c | c | c | c | _ <;> (try cases c) <;> cases b <;> rfl
@[simp] theorem State.setPair_switch (s : State) (p : PairId) (x : Pair) (i : SwitchId) :
    (s.setPair p x).switch i = s.switch i := by
  rcases p with ⟨c, f⟩ | _ <;> (try cases c) <;> (try cases f) <;> rcases i with _ | b | b | b | b | _ <;> (try cases b) <;>
    rfl
@[simp] theorem State.setEngine_engine (s : State) (b c : BoomId) (x : Engine) :
    (s.setEngine b x).engine c = if c = b then x else s.engine c := by cases b <;> cases c <;> rfl
@[simp] theorem State.setEngine_setEngine (s : State) (b : BoomId) (x y : Engine) :
    (s.setEngine b x).setEngine b y = s.setEngine b y := by cases b <;> rfl
@[simp] theorem State.raise_setEngine (s : State) (b : BoomId) (x : Engine) (e : Event) :
    (s.raise e).setEngine b x = (s.setEngine b x).raise e := by cases b <;> rfl
@[simp] theorem State.setEngine_logger (s : State) (b c : BoomId) (x : Engine) : (s.setEngine b x).logger c = s.logger c := by
  cases b <;> cases c <;> rfl
@[simp] theorem State.setEngine_motion (s : State) (b c : BoomId) (x : Engine) : (s.setEngine b x).motion c = s.motion c := by
  cases b <;> cases c <;> rfl
@[simp] theorem State.setEngine_head (s : State) (b c : BoomId) (x : Engine) : (s.setEngine b x).head c = s.head c := by
  cases b <;> cases c <;> rfl
@[simp] theorem State.setEngine_sensing (s : State) (b c : BoomId) (x : Engine) : (s.setEngine b x).sensing c = s.sensing c := by
  cases b <;> cases c <;> rfl
@[simp] theorem State.setEngine_pair (s : State) (b : BoomId) (x : Engine) (p : PairId) :
    (s.setEngine b x).pair p = s.pair p := by
  rcases p with ⟨c, f⟩ | _ <;> (try cases c) <;> (try cases f) <;> cases b <;> rfl
@[simp] theorem State.setEngine_switch (s : State) (b : BoomId) (x : Engine) (i : SwitchId) :
    (s.setEngine b x).switch i = s.switch i := by
  rcases i with _ | c | c | c | c | _ <;> (try cases c) <;> cases b <;> rfl
@[simp] theorem State.setLogger_engine (s : State) (b c : BoomId) (x : Logger) : (s.setLogger b x).engine c = s.engine c := by
  cases b <;> cases c <;> rfl
@[simp] theorem State.setLogger_logger (s : State) (b c : BoomId) (x : Logger) :
    (s.setLogger b x).logger c = if c = b then x else s.logger c := by cases b <;> cases c <;> rfl
@[simp] theorem State.setLogger_motion (s : State) (b c : BoomId) (x : Logger) : (s.setLogger b x).motion c = s.motion c := by
  cases b <;> cases c <;> rfl
@[simp] theorem State.setLogger_head (s : State) (b c : BoomId) (x : Logger) : (s.setLogger b x).head c = s.head c := by
  cases b <;> cases c <;> rfl
@[simp] theorem State.setLogger_sensing (s : State) (b c : BoomId) (x : Logger) : (s.setLogger b x).sensing c = s.sensing c := by
  cases b <;> cases c <;> rfl
@[simp] theorem State.setLogger_pair (s : State) (b : BoomId) (x : Logger) (p : PairId) :
    (s.setLogger b x).pair p = s.pair p := by
  rcases p with ⟨c, f⟩ | _ <;> (try cases c) <;> (try cases f) <;> cases b <;> rfl
@[simp] theorem State.setLogger_switch (s : State) (b : BoomId) (x : Logger) (i : SwitchId) :
    (s.setLogger b x).switch i = s.switch i := by
  rcases i with _ | c | c | c | c | _ <;> (try cases c) <;> cases b <;> rfl
@[simp] theorem State.setMotion_engine (s : State) (b c : BoomId) (x : Motion) : (s.setMotion b x).engine c = s.engine c := by
  cases b <;> cases c <;> rfl
@[simp] theorem State.setMotion_logger (s : State) (b c : BoomId) (x : Motion) : (s.setMotion b x).logger c = s.logger c := by
  cases b <;> cases c <;> rfl
@[simp] theorem State.setMotion_motion (s : State) (b c : BoomId) (x : Motion) :
    (s.setMotion b x).motion c = if c = b then x else s.motion c := by cases b <;> cases c <;> rfl
@[simp] theorem State.setMotion_head (s : State) (b c : BoomId) (x : Motion) : (s.setMotion b x).head c = s.head c := by
  cases b <;> cases c <;> rfl
@[simp] theorem State.setMotion_sensing (s : State) (b c : BoomId) (x : Motion) : (s.setMotion b x).sensing c = s.sensing c := by
  cases b <;> cases c <;> rfl
@[simp] theorem State.setMotion_pair (s : State) (b : BoomId) (x : Motion) (p : PairId) :
    (s.setMotion b x).pair p = s.pair p := by
  rcases p with ⟨c, f⟩ | _ <;> (try cases c) <;> (try cases f) <;> cases b <;> rfl
@[simp] theorem State.setMotion_switch (s : State) (b : BoomId) (x : Motion) (i : SwitchId) :
    (s.setMotion b x).switch i = s.switch i := by
  rcases i with _ | c | c | c | c | _ <;> (try cases c) <;> cases b <;> rfl
@[simp] theorem State.setHead_engine (s : State) (b c : BoomId) (x : Head) : (s.setHead b x).engine c = s.engine c := by
  cases b <;> cases c <;> rfl
@[simp] theorem State.setHead_logger (s : State) (b c : BoomId) (x : Head) : (s.setHead b x).logger c = s.logger c := by
  cases b <;> cases c <;> rfl
@[simp] theorem State.setHead_motion (s : State) (b c : BoomId) (x : Head) : (s.setHead b x).motion c = s.motion c := by
  cases b <;> cases c <;> rfl
@[simp] theorem State.setHead_head (s : State) (b c : BoomId) (x : Head) :
    (s.setHead b x).head c = if c = b then x else s.head c := by cases b <;> cases c <;> rfl
@[simp] theorem State.setHead_sensing (s : State) (b c : BoomId) (x : Head) : (s.setHead b x).sensing c = s.sensing c := by
  cases b <;> cases c <;> rfl
@[simp] theorem State.setHead_pair (s : State) (b : BoomId) (x : Head) (p : PairId) :
    (s.setHead b x).pair p = s.pair p := by
  rcases p with ⟨c, f⟩ | _ <;> (try cases c) <;> (try cases f) <;> cases b <;> rfl
@[simp] theorem State.setHead_switch (s : State) (b : BoomId) (x : Head) (i : SwitchId) :
    (s.setHead b x).switch i = s.switch i := by
  rcases i with _ | c | c | c | c | _ <;> (try cases c) <;> cases b <;> rfl
@[simp] theorem State.setSensing_engine (s : State) (b c : BoomId) (x : Sensing) : (s.setSensing b x).engine c = s.engine c := by
  cases b <;> cases c <;> rfl
@[simp] theorem State.setSensing_logger (s : State) (b c : BoomId) (x : Sensing) : (s.setSensing b x).logger c = s.logger c := by
  cases b <;> cases c <;> rfl
@[simp] theorem State.setSensing_motion (s : State) (b c : BoomId) (x : Sensing) : (s.setSensing b x).motion c = s.motion c := by
  cases b <;> cases c <;> rfl
@[simp] theorem State.setSensing_head (s : State) (b c : BoomId) (x : Sensing) : (s.setSensing b x).head c = s.head c := by
  cases b <;> cases c <;> rfl
@[simp] theorem State.setSensing_sensing (s : State) (b c : BoomId) (x : Sensing) :
    (s.setSensing b x).sensing c = if c = b then x else s.sensing c := by cases b <;> cases c <;> rfl
@[simp] theorem State.setSensing_pair (s : State) (b : BoomId) (x : Sensing) (p : PairId) :
    (s.setSensing b x).pair p = s.pair p := by
  rcases p with ⟨c, f⟩ | _ <;> (try cases c) <;> (try cases f) <;> cases b <;> rfl
@[simp] theorem State.setSensing_switch (s : State) (b : BoomId) (x : Sensing) (i : SwitchId) :
    (s.setSensing b x).switch i = s.switch i := by
  rcases i with _ | c | c | c | c | _ <;> (try cases c) <;> cases b <;> rfl
@[simp] theorem State.setQueue_engine (s : State) (b c : BoomId) (x : List Job) : (s.setQueue b x).engine c = s.engine c := by
  cases b <;> cases c <;> rfl
@[simp] theorem State.setQueue_logger (s : State) (b c : BoomId) (x : List Job) : (s.setQueue b x).logger c = s.logger c := by
  cases b <;> cases c <;> rfl
@[simp] theorem State.setQueue_motion (s : State) (b c : BoomId) (x : List Job) : (s.setQueue b x).motion c = s.motion c := by
  cases b <;> cases c <;> rfl
@[simp] theorem State.setQueue_head (s : State) (b c : BoomId) (x : List Job) : (s.setQueue b x).head c = s.head c := by
  cases b <;> cases c <;> rfl
@[simp] theorem State.setQueue_sensing (s : State) (b c : BoomId) (x : List Job) : (s.setQueue b x).sensing c = s.sensing c := by
  cases b <;> cases c <;> rfl
@[simp] theorem State.setQueue_pair (s : State) (b : BoomId) (x : List Job) (p : PairId) :
    (s.setQueue b x).pair p = s.pair p := by
  rcases p with ⟨c, f⟩ | _ <;> (try cases c) <;> (try cases f) <;> cases b <;> rfl
@[simp] theorem State.setQueue_switch (s : State) (b : BoomId) (x : List Job) (i : SwitchId) :
    (s.setQueue b x).switch i = s.switch i := by
  rcases i with _ | c | c | c | c | _ <;> (try cases c) <;> cases b <;> rfl
@[simp] theorem State.setActive_engine (s : State) (b c : BoomId) (x : Option Job) : (s.setActive b x).engine c = s.engine c := by
  cases b <;> cases c <;> rfl
@[simp] theorem State.setActive_logger (s : State) (b c : BoomId) (x : Option Job) : (s.setActive b x).logger c = s.logger c := by
  cases b <;> cases c <;> rfl
@[simp] theorem State.setActive_motion (s : State) (b c : BoomId) (x : Option Job) : (s.setActive b x).motion c = s.motion c := by
  cases b <;> cases c <;> rfl
@[simp] theorem State.setActive_head (s : State) (b c : BoomId) (x : Option Job) : (s.setActive b x).head c = s.head c := by
  cases b <;> cases c <;> rfl
@[simp] theorem State.setActive_sensing (s : State) (b c : BoomId) (x : Option Job) : (s.setActive b x).sensing c = s.sensing c := by
  cases b <;> cases c <;> rfl
@[simp] theorem State.setActive_pair (s : State) (b : BoomId) (x : Option Job) (p : PairId) :
    (s.setActive b x).pair p = s.pair p := by
  rcases p with ⟨c, f⟩ | _ <;> (try cases c) <;> (try cases f) <;> cases b <;> rfl
@[simp] theorem State.setActive_switch (s : State) (b : BoomId) (x : Option Job) (i : SwitchId) :
    (s.setActive b x).switch i = s.switch i := by
  rcases i with _ | c | c | c | c | _ <;> (try cases c) <;> cases b <;> rfl
@[simp] theorem State.raise_phase (s : State) (e : Event) : (s.raise e).phase = s.phase := rfl
@[simp] theorem State.raise_loadTimer (s : State) (e : Event) : (s.raise e).loadTimer = s.loadTimer := rfl
@[simp] theorem State.raise_now (s : State) (e : Event) : (s.raise e).now = s.now := rfl
@[simp] theorem State.raise_lastScan (s : State) (e : Event) : (s.raise e).lastScan = s.lastScan := rfl
@[simp] theorem State.raise_scan (s : State) (e : Event) : (s.raise e).scan = s.scan := rfl
@[simp] theorem State.raise_link (s : State) (e : Event) : (s.raise e).link = s.link := rfl
@[simp] theorem State.raise_plans (s : State) (e : Event) : (s.raise e).plans = s.plans := rfl
@[simp] theorem State.raise_arb (s : State) (e : Event) : (s.raise e).arb = s.arb := rfl
@[simp] theorem State.raise_canopy (s : State) (e : Event) : (s.raise e).canopy = s.canopy := rfl
@[simp] theorem State.raise_canopyPair (s : State) (e : Event) : (s.raise e).canopyPair = s.canopyPair := rfl
@[simp] theorem State.raise_trip (s : State) (e : Event) : (s.raise e).trip = s.trip := rfl
@[simp] theorem State.raise_estop (s : State) (e : Event) : (s.raise e).estop = s.estop := rfl
@[simp] theorem State.raise_clow (s : State) (e : Event) : (s.raise e).clow = s.clow := rfl
@[simp] theorem State.raise_analogs (s : State) (e : Event) : (s.raise e).analogs = s.analogs := rfl
@[simp] theorem State.raise_bus (s : State) (e : Event) : (s.raise e).bus = s.bus := rfl
@[simp] theorem State.raise_monitors (s : State) (e : Event) : (s.raise e).monitors = s.monitors := rfl
@[simp] theorem State.raise_store (s : State) (e : Event) : (s.raise e).store = s.store := rfl
@[simp] theorem State.raise_cal (s : State) (e : Event) : (s.raise e).cal = s.cal := rfl
@[simp] theorem State.raise_freeCount (s : State) (e : Event) : (s.raise e).freeCount = s.freeCount := rfl
@[simp] theorem State.raise_pending (s : State) (e : Event) : (s.raise e).pending = s.pending := rfl
@[simp] theorem State.raise_engine (s : State) (e : Event) (b : BoomId) : (s.raise e).engine b = s.engine b := by cases b <;> rfl
@[simp] theorem State.raise_logger (s : State) (e : Event) (b : BoomId) : (s.raise e).logger b = s.logger b := by cases b <;> rfl
@[simp] theorem State.raise_motion (s : State) (e : Event) (b : BoomId) : (s.raise e).motion b = s.motion b := by cases b <;> rfl
@[simp] theorem State.raise_head (s : State) (e : Event) (b : BoomId) : (s.raise e).head b = s.head b := by cases b <;> rfl
@[simp] theorem State.raise_sensing (s : State) (e : Event) (b : BoomId) : (s.raise e).sensing b = s.sensing b := by cases b <;> rfl
@[simp] theorem State.raise_boom (s : State) (e : Event) (b : BoomId) : (s.raise e).boom b = s.boom b := by cases b <;> rfl
@[simp] theorem State.raise_pair (s : State) (e : Event) (p : PairId) : (s.raise e).pair p = s.pair p := by
  rcases p with ⟨c, f⟩ | _ <;> (try cases c) <;> (try cases f) <;> rfl
@[simp] theorem State.raise_switch (s : State) (e : Event) (i : SwitchId) : (s.raise e).switch i = s.switch i := by
  rcases i with _ | c | c | c | c | _ <;> (try cases c) <;> rfl
@[simp] theorem State.setMonitorAt_phase (s : State) (n : Nat) (m : Monitor) : (s.setMonitorAt n m).phase = s.phase := rfl
@[simp] theorem State.setMonitorAt_loadTimer (s : State) (n : Nat) (m : Monitor) : (s.setMonitorAt n m).loadTimer = s.loadTimer := rfl
@[simp] theorem State.setMonitorAt_now (s : State) (n : Nat) (m : Monitor) : (s.setMonitorAt n m).now = s.now := rfl
@[simp] theorem State.setMonitorAt_lastScan (s : State) (n : Nat) (m : Monitor) : (s.setMonitorAt n m).lastScan = s.lastScan := rfl
@[simp] theorem State.setMonitorAt_scan (s : State) (n : Nat) (m : Monitor) : (s.setMonitorAt n m).scan = s.scan := rfl
@[simp] theorem State.setMonitorAt_link (s : State) (n : Nat) (m : Monitor) : (s.setMonitorAt n m).link = s.link := rfl
@[simp] theorem State.setMonitorAt_events (s : State) (n : Nat) (m : Monitor) : (s.setMonitorAt n m).events = s.events := rfl
@[simp] theorem State.setMonitorAt_plans (s : State) (n : Nat) (m : Monitor) : (s.setMonitorAt n m).plans = s.plans := rfl
@[simp] theorem State.setMonitorAt_arb (s : State) (n : Nat) (m : Monitor) : (s.setMonitorAt n m).arb = s.arb := rfl
@[simp] theorem State.setMonitorAt_canopy (s : State) (n : Nat) (m : Monitor) : (s.setMonitorAt n m).canopy = s.canopy := rfl
@[simp] theorem State.setMonitorAt_canopyPair (s : State) (n : Nat) (m : Monitor) : (s.setMonitorAt n m).canopyPair = s.canopyPair := rfl
@[simp] theorem State.setMonitorAt_trip (s : State) (n : Nat) (m : Monitor) : (s.setMonitorAt n m).trip = s.trip := rfl
@[simp] theorem State.setMonitorAt_estop (s : State) (n : Nat) (m : Monitor) : (s.setMonitorAt n m).estop = s.estop := rfl
@[simp] theorem State.setMonitorAt_clow (s : State) (n : Nat) (m : Monitor) : (s.setMonitorAt n m).clow = s.clow := rfl
@[simp] theorem State.setMonitorAt_analogs (s : State) (n : Nat) (m : Monitor) : (s.setMonitorAt n m).analogs = s.analogs := rfl
@[simp] theorem State.setMonitorAt_bus (s : State) (n : Nat) (m : Monitor) : (s.setMonitorAt n m).bus = s.bus := rfl
@[simp] theorem State.setMonitorAt_store (s : State) (n : Nat) (m : Monitor) : (s.setMonitorAt n m).store = s.store := rfl
@[simp] theorem State.setMonitorAt_cal (s : State) (n : Nat) (m : Monitor) : (s.setMonitorAt n m).cal = s.cal := rfl
@[simp] theorem State.setMonitorAt_freeCount (s : State) (n : Nat) (m : Monitor) : (s.setMonitorAt n m).freeCount = s.freeCount := rfl
@[simp] theorem State.setMonitorAt_pending (s : State) (n : Nat) (m : Monitor) : (s.setMonitorAt n m).pending = s.pending := rfl
@[simp] theorem State.setReceiver_phase (s : State) (r : Receiver) : (s.setReceiver r).phase = s.phase := rfl
@[simp] theorem State.setReceiver_loadTimer (s : State) (r : Receiver) : (s.setReceiver r).loadTimer = s.loadTimer := rfl
@[simp] theorem State.setReceiver_now (s : State) (r : Receiver) : (s.setReceiver r).now = s.now := rfl
@[simp] theorem State.setReceiver_lastScan (s : State) (r : Receiver) : (s.setReceiver r).lastScan = s.lastScan := rfl
@[simp] theorem State.setReceiver_scan (s : State) (r : Receiver) : (s.setReceiver r).scan = s.scan := rfl
@[simp] theorem State.setReceiver_events (s : State) (r : Receiver) : (s.setReceiver r).events = s.events := rfl
@[simp] theorem State.setReceiver_plans (s : State) (r : Receiver) : (s.setReceiver r).plans = s.plans := rfl
@[simp] theorem State.setReceiver_arb (s : State) (r : Receiver) : (s.setReceiver r).arb = s.arb := rfl
@[simp] theorem State.setReceiver_canopy (s : State) (r : Receiver) : (s.setReceiver r).canopy = s.canopy := rfl
@[simp] theorem State.setReceiver_canopyPair (s : State) (r : Receiver) : (s.setReceiver r).canopyPair = s.canopyPair := rfl
@[simp] theorem State.setReceiver_trip (s : State) (r : Receiver) : (s.setReceiver r).trip = s.trip := rfl
@[simp] theorem State.setReceiver_estop (s : State) (r : Receiver) : (s.setReceiver r).estop = s.estop := rfl
@[simp] theorem State.setReceiver_clow (s : State) (r : Receiver) : (s.setReceiver r).clow = s.clow := rfl
@[simp] theorem State.setReceiver_analogs (s : State) (r : Receiver) : (s.setReceiver r).analogs = s.analogs := rfl
@[simp] theorem State.setReceiver_bus (s : State) (r : Receiver) : (s.setReceiver r).bus = s.bus := rfl
@[simp] theorem State.setReceiver_monitors (s : State) (r : Receiver) : (s.setReceiver r).monitors = s.monitors := rfl
@[simp] theorem State.setReceiver_store (s : State) (r : Receiver) : (s.setReceiver r).store = s.store := rfl
@[simp] theorem State.setReceiver_cal (s : State) (r : Receiver) : (s.setReceiver r).cal = s.cal := rfl
@[simp] theorem State.setReceiver_freeCount (s : State) (r : Receiver) : (s.setReceiver r).freeCount = s.freeCount := rfl
@[simp] theorem State.setReceiver_pending (s : State) (r : Receiver) : (s.setReceiver r).pending = s.pending := rfl

/-! ## The scan in progress -/

@[simp] theorem State.beginScan_scan (s : State) : s.beginScan.scan = {} := rfl
@[simp] theorem State.beginScan_now (s : State) : s.beginScan.now = s.now := rfl
@[simp] theorem State.beginScan_phase (s : State) : s.beginScan.phase = s.phase := rfl
@[simp] theorem State.beginScan_analog (s : State) (c : AnalogId) : s.beginScan.analog c = s.analog c := by cases c <;> rfl
@[simp] theorem State.beginScan_boom (s : State) (b : BoomId) : s.beginScan.boom b = s.boom b := by cases b <;> rfl
@[simp] theorem Scan.left_A (x : Scan) : x.left .A = x.leftA := rfl
@[simp] theorem Scan.left_B (x : Scan) : x.left .B = x.leftB := rfl
@[simp] theorem Scan.leave_done (x : Scan) (b : BoomId) (pos : Nat) : (x.leave b pos).done = x.done := by cases b <;> rfl
@[simp] theorem Scan.leave_left (x : Scan) (b : BoomId) (pos : Nat) : (x.leave b pos).left b = pos :: x.left b := by
  cases b <;> rfl
@[simp] theorem Scan.latched_zero (x : Scan) (b : BoomId) (pos : Nat) : x.latched b pos 0 = pos := rfl
@[simp] theorem Scan.latched_unmoved (b : BoomId) (pos later : Nat) : ({} : Scan).latched b pos later = pos := by
  cases b <;> cases later <;> rfl

/-- R124: before the sampling instant the position was set once more: it is the one that the event left. -/
theorem Scan.latched_leave (x : Scan) (b : BoomId) (pos now later : Nat) :
    (x.leave b pos).latched b now (later + 1) = x.latched b pos later := by
  simp only [Scan.latched, Scan.leave_left, List.getD_cons_succ, List.getLastD_cons]

/-- R124: a latched position is one that the boom's feed holds or has held in the scan. -/
theorem Scan.latched_mem (x : Scan) (b : BoomId) (pos later : Nat) : x.latched b pos later ∈ pos :: x.left b := by
  unfold Scan.latched
  rw [List.getD_eq_getElem?_getD]
  cases h : (pos :: x.left b)[later]? with
  | none =>
    rw [Option.getD_none, List.getLastD_eq_getLast?, List.getLast?_eq_getLast_of_ne_nil (List.cons_ne_nil _ _)]
    exact List.getLast_mem _
  | some y => exact List.mem_of_getElem? h

/-- R124: a completing group counts in the scan in progress, or, out of its order, in a new one; nothing else changes. -/
theorem State.takeGroup_eq (s : State) (i : Nat) :
    s.takeGroup i =
      { s with
        scan :=
          if i < s.scan.done then { done := i + 1 }
          else { s.scan with done := i + 1 } } := by
  unfold State.takeGroup
  split <;> rfl

/-- R124, R125: a boom's record takes the latched position, and nothing else changes. -/
theorem State.recordPosition_eq (s : State) (b : BoomId) (later : Nat) :
    s.recordPosition b later =
      s.setMotion b { s.motion b with scanPos := s.scan.latched b (s.motion b).feedPos later } := rfl

/-! ## A feed position that is set -/

@[simp] theorem State.moveFeed_scan (s : State) (b : BoomId) (pos : Nat) :
    (s.moveFeed b pos).scan = s.scan.leave b (s.motion b).feedPos := rfl
@[simp] theorem State.moveFeed_motion (s : State) (b : BoomId) (pos : Nat) :
    (s.moveFeed b pos).motion b = { s.motion b with feedPos := pos } := by cases b <;> rfl
@[simp] theorem State.moveFeed_motion_ne (s : State) (b c : BoomId) (pos : Nat) (h : c ≠ b) :
    (s.moveFeed b pos).motion c = s.motion c := by cases b <;> cases c <;> first | exact absurd rfl h | rfl

/-- R134, R135: the boom's feed position and what the scan keeps of the one left; nothing else changes. -/
theorem State.moveFeed_eq (s : State) (b : BoomId) (pos : Nat) :
    s.moveFeed b pos =
      { s.setMotion b { s.motion b with feedPos := pos } with scan := s.scan.leave b (s.motion b).feedPos } := rfl

/-! ## One millisecond -/

@[simp] theorem State.tickTimers_now (s : State) : s.tickTimers.now = s.now + 1 := rfl
@[simp] theorem State.tickTimers_scan (s : State) : s.tickTimers.scan = s.scan := rfl
@[simp] theorem State.tickTimers_feedPos (s : State) (b : BoomId) :
    (s.tickTimers.motion b).feedPos = (s.motion b).feedPos := by cases b <;> rfl

/-- R124: at an even timestamp a scan begins, at an odd one the scan in progress goes on. -/
theorem State.scanStarts_eq (s : State) :
    s.scanStarts = if s.now.toNat % 2 = 0 then s.beginScan else s := rfl

end Sys2Proof.Machine
end

