-- ==== Sys2Proof/Laws/Flow.lean ====
section
/-! SUPPORT. What the flow arbiter may touch: every placement, withdrawal, grant pass and re-issued drive is a `FlowEffect`,
and what a `FlowEffect` leaves alone. -/
namespace Sys2Proof.Machine

/-! ## The relation -/

theorem FlowTouches.refl (s : State) (b : BoomId) : FlowTouches s s b := ⟨rfl, .inl rfl⟩

theorem FlowTouches.engine {s t : State} {b : BoomId} (h : FlowTouches s t b) :
    t.engine b = { s.engine b with armOnGrant := (t.engine b).armOnGrant, record := (t.engine b).record } :=
  congrArg BoomState.engine h.1

theorem FlowTouches.state {s t : State} {b : BoomId} (h : FlowTouches s t b) : (t.engine b).state = (s.engine b).state :=
  congrArg (·.state) h.engine

theorem FlowTouches.trans {s t u : State} {b : BoomId} (h : FlowTouches s t b) (k : FlowTouches t u b) :
    FlowTouches s u b := by
  refine ⟨?_, ?_⟩
  · have := k.1
    rw [h.engine, h.1] at this
    exact this
  · rcases k.2 with k2 | ⟨k1, k2⟩
    · rw [k2]; exact h.2
    · refine .inr ⟨h.state ▸ k1, ?_⟩
      rcases h.2 with h2 | ⟨_, h2⟩
      · rw [k2, h2]
      · rw [k2, h2, Option.map_map]
        rfl

theorem FlowEffect.refl (s : State) : FlowEffect s s := ⟨rfl, rfl, ⟨rfl, .inl rfl⟩, rfl, .inl rfl⟩

theorem FlowEffect.boom {s t : State} (h : FlowEffect s t) (b : BoomId) : FlowTouches s t b := by
  cases b
  · exact h.2.2.1
  · exact h.2.2.2

theorem FlowEffect.trans {s t u : State} (h : FlowEffect s t) (k : FlowEffect t u) : FlowEffect s u := by
  refine ⟨?_, k.2.1.trans h.2.1, h.2.2.1.trans k.2.2.1, h.2.2.2.trans k.2.2.2⟩
  have hk := k.1
  rw [h.1] at hk
  exact hk

/-! ## What stays -/

section
variable {s t : State} (h : FlowEffect s t)
include h

theorem FlowEffect.phase : t.phase = s.phase := by rw [h.1]
theorem FlowEffect.now : t.now = s.now := by rw [h.1]
theorem FlowEffect.link : t.link = s.link := by rw [h.1]
theorem FlowEffect.events : t.events = s.events := by rw [h.1]
theorem FlowEffect.plans : t.plans = s.plans := by rw [h.1]
theorem FlowEffect.trip : t.trip = s.trip := by rw [h.1]
theorem FlowEffect.estop : t.estop = s.estop := by rw [h.1]
theorem FlowEffect.clow : t.clow = s.clow := by rw [h.1]
theorem FlowEffect.analogs : t.analogs = s.analogs := by rw [h.1]
theorem FlowEffect.bus : t.bus = s.bus := by rw [h.1]
theorem FlowEffect.monitors : t.monitors = s.monitors := by rw [h.1]
theorem FlowEffect.store : t.store = s.store := by rw [h.1]
theorem FlowEffect.cal : t.cal = s.cal := by rw [h.1]
theorem FlowEffect.pending : t.pending = s.pending := by rw [h.1]
theorem FlowEffect.canopy_state : t.canopy.state = s.canopy.state := by rw [h.1]
theorem FlowEffect.engine (b : BoomId) :
    t.engine b = { s.engine b with armOnGrant := (t.engine b).armOnGrant, record := (t.engine b).record } := (h.boom b).engine
theorem FlowEffect.engine_state (b : BoomId) : (t.engine b).state = (s.engine b).state := (h.boom b).state
theorem FlowEffect.engine_sub (b : BoomId) : (t.engine b).sub = (s.engine b).sub := congrArg (·.sub) (h.engine b)
theorem FlowEffect.engine_jog (b : BoomId) : (t.engine b).jog = (s.engine b).jog := congrArg (·.jog) (h.engine b)
theorem FlowEffect.engine_park (b : BoomId) : (t.engine b).park = (s.engine b).park := congrArg (·.park) (h.engine b)
theorem FlowEffect.engine_restricted (b : BoomId) : (t.engine b).restricted = (s.engine b).restricted :=
  congrArg (·.restricted) (h.engine b)
theorem FlowEffect.queue (b : BoomId) : (t.boom b).queue = (s.boom b).queue := congrArg (·.queue) (h.boom b).1
theorem FlowEffect.active (b : BoomId) : (t.boom b).active = (s.boom b).active := congrArg (·.active) (h.boom b).1
theorem FlowEffect.logger (b : BoomId) : t.logger b = s.logger b := congrArg (·.logger) (h.boom b).1
theorem FlowEffect.switches (b : BoomId) : (t.boom b).switches = (s.boom b).switches := congrArg (·.switches) (h.boom b).1
theorem FlowEffect.motion (b : BoomId) : t.motion b = s.motion b := congrArg (·.motion) (h.boom b).1
theorem FlowEffect.head (b : BoomId) : t.head b = s.head b := congrArg (·.head) (h.boom b).1
theorem FlowEffect.sensing (b : BoomId) : t.sensing b = s.sensing b := congrArg (·.sensing) (h.boom b).1
theorem FlowEffect.record_isSome (b : BoomId) : (t.engine b).record.isSome = (s.engine b).record.isSome := by
  rcases (h.boom b).2 with k | ⟨_, k⟩ <;> simp [k]

theorem FlowEffect.switch (i : SwitchId) : t.switch i = s.switch i := by
  cases i <;> simp only [State.switch, h.estop, h.clow, h.switches]

theorem FlowEffect.closed (i : SwitchId) : t.closed i = s.closed i := by simp only [State.closed, h.switch]

theorem FlowEffect.gateOpen (p : PairId) : t.gateOpen p = s.gateOpen p := by
  cases p <;> simp only [State.gateOpen, h.trip, h.closed]

end

/-! ## The single updates -/

/-- Two effects to one boom compose to a `FlowEffect` where nothing else changes. -/
theorem FlowEffect.of_setBoom {s : State} {b : BoomId} {x : BoomState}
    (h : x = { s.boom b with
      engine := { s.engine b with armOnGrant := x.engine.armOnGrant, record := x.engine.record }, pairs := x.pairs })
    (k : x.engine.record = (s.engine b).record ∨ (s.engine b).state = .mix ∧ x.engine.record =
      (s.engine b).record.map (fun r => { r with flags := { r.flags with mixInterrupted := true } })) :
    FlowEffect s (s.setBoom b x) := by
  cases b
  · exact ⟨rfl, rfl, ⟨h, k⟩, rfl, .inl rfl⟩
  · exact ⟨rfl, rfl, ⟨rfl, .inl rfl⟩, ⟨h, k⟩⟩

theorem FlowEffect.of_setPair (s : State) (p : PairId) (x : Pair) : FlowEffect s (s.setPair p x) := by
  cases p with
  | boom b f => cases f <;> exact .of_setBoom rfl (.inl rfl)
  | canopy => exact ⟨rfl, rfl, ⟨rfl, .inl rfl⟩, rfl, .inl rfl⟩

theorem FlowEffect.of_request (s : State) (p : PairId) (r : PairRequest) : FlowEffect s (s.request p r) := .of_setPair s p _

theorem FlowEffect.of_armOnGrant (s : State) (b : BoomId) (x : Bool) :
    FlowEffect s (s.setEngine b { s.engine b with armOnGrant := x }) := .of_setBoom rfl (.inl rfl)

theorem FlowEffect.of_arb (s : State) (a : Arbiter) (h : a.budget = s.arb.budget) : FlowEffect s { s with arb := a } :=
  ⟨rfl, h, ⟨rfl, .inl rfl⟩, rfl, .inl rfl⟩

theorem FlowEffect.of_mixInterrupted (s : State) (b : BoomId) (h : (s.engine b).state = .mix) :
    FlowEffect s (s.flagRecord b .mixInterrupted) := .of_setBoom rfl (.inr ⟨h, rfl⟩)

/-! ## Drives and tellings -/

theorem FlowEffect.of_boomOff (s : State) (b : BoomId) (hold : Bool) : FlowEffect s (s.boomOff b hold) :=
  ((of_request s _ _).trans (of_request _ _ _)).trans (of_request _ _ _)

theorem FlowEffect.of_issueStep (s : State) (b : BoomId) (m : Arming) : FlowEffect s (s.issueStep b m) :=
  ((of_request s _ _).trans (of_request _ _ _)).trans (of_request _ _ _)

theorem FlowEffect.of_issueJog (s : State) (b : BoomId) (j : Jog) : FlowEffect s (s.issueJog b j) :=
  ((of_request s _ _).trans (of_request _ _ _)).trans (of_request _ _ _)

theorem FlowEffect.of_onBoomGrant (s : State) (b : BoomId) : FlowEffect s (s.onBoomGrant b) := by
  unfold State.onBoomGrant
  split
  · exact of_issueJog s b _
  · exact (of_issueStep s b _).trans (of_armOnGrant _ b _)

theorem FlowEffect.of_onBoomPreempt (s : State) (b : BoomId) : FlowEffect s (s.onBoomPreempt b) := by
  have h := of_boomOff s b true
  unfold State.onBoomPreempt
  split
  · exact h.trans (of_mixInterrupted _ b ((h.engine_state b).trans ‹_›))
  · exact h

theorem FlowEffect.of_onCanopyGrant (s : State) : FlowEffect s s.onCanopyGrant := by
  unfold State.onCanopyGrant
  split
  · exact ⟨rfl, rfl, ⟨rfl, .inl rfl⟩, rfl, .inl rfl⟩
  · exact of_request s _ _
  · exact .refl s

theorem FlowEffect.of_tell (s : State) (n : FlowNote) : FlowEffect s (s.tell n) := by
  unfold State.tell
  split
  · exact of_onBoomGrant s _
  · exact of_onBoomPreempt s _
  · exact of_onCanopyGrant s
  · exact of_request s _ _

theorem FlowEffect.of_tells (ns : List FlowNote) (s : State) : FlowEffect s (ns.foldl State.tell s) := by
  induction ns generalizing s with
  | nil => exact .refl s
  | cons n ns ih => exact (of_tell s n).trans (ih _)

/-! ## The requesters' four acts -/

theorem FlowEffect.of_runPass (s : State) : FlowEffect s s.runPass :=
  (of_arb s _ (Arbiter.pass_budget s.arb)).trans (of_tells _ _)

theorem Arbiter.submit_budget (a : Arbiter) (who : Requester) (p : Purpose) (d : Nat) :
    (a.submit who p d).budget = a.budget := by
  simp only [Arbiter.submit, Arbiter.remove, Arbiter.renumber]
  split <;> rfl

theorem FlowEffect.of_place (s : State) (who : Requester) (p : Purpose) : FlowEffect s (s.place who p) :=
  (of_arb s _ (Arbiter.submit_budget _ _ _ _)).trans (of_runPass _)

theorem FlowEffect.of_withdraw (s : State) (who : Requester) : FlowEffect s (s.withdraw who) := by
  unfold State.withdraw
  split
  · exact (of_arb s (s.arb.remove who) rfl).trans (of_runPass _)
  · exact .refl s

theorem FlowEffect.of_noFlow (s : State) (b : BoomId) : FlowEffect s (s.noFlow b) :=
  (of_boomOff s b false).trans (of_withdraw _ _)

theorem FlowEffect.of_beginFlow (s : State) (b : BoomId) (p : Purpose) : FlowEffect s (s.beginFlow b p) := by
  have h := (of_armOnGrant s b true).trans (of_place _ (.boom b) p)
  unfold State.beginFlow
  dsimp only
  split
  · exact h
  · exact h.trans (of_boomOff _ b false)

theorem FlowEffect.of_changeDrive (s : State) (b : BoomId) : FlowEffect s (s.changeDrive b) := by
  unfold State.changeDrive
  split
  · exact of_issueStep s b _
  · exact (of_armOnGrant s b true).trans (of_boomOff _ b false)

theorem FlowEffect.of_reissueFeed (s : State) (b : BoomId) : FlowEffect s (s.reissueFeed b) := by
  unfold State.reissueFeed
  dsimp only
  split
  · exact of_request s _ _
  · exact .refl s

theorem FlowEffect.of_canopyStop (s : State) : FlowEffect s s.canopyStop :=
  (of_request s _ _).trans (of_withdraw _ _)

/-! ## The feed drive issued again -/

/-- R22: the row of the table of 2.1 drives the feed pair in its direction at its full duty under the cap. -/
theorem State.stepDrive_feed (s : State) (b : BoomId) :
    (s.stepDrive b).feed =
      ((s.setEngine b { s.engine b with restricted := false }).stepDrive b).feed.map
        (fun x => (x.1, if (s.engine b).restricted = true then min x.2 500 else x.2)) := by
  have hp : (s.setEngine b { s.engine b with restricted := false }).activePlan b = s.activePlan b := by cases b <;> rfl
  have hl : (s.setEngine b { s.engine b with restricted := false }).logger b = s.logger b := by cases b <;> rfl
  unfold State.stepDrive
  simp only [State.setEngine_engine, hp, hl]
  cases (s.engine b).state <;> cases (s.engine b).sub <;> (try cases (s.engine b).leg) <;> simp [capFeed]

theorem fullFeed_of_jog {s : State} {b : BoomId} {j : Jog} (h : (s.engine b).jog = some j) :
    fullFeed s b = if j.fn = .feed then some (j.dir, j.duty) else none := by
  unfold fullFeed
  split <;> simp_all

theorem fullFeed_of_step {s : State} {b : BoomId} (h : (s.engine b).jog = none) :
    fullFeed s b = ((s.setEngine b { s.engine b with restricted := false }).stepDrive b).feed := by
  unfold fullFeed
  split
  · simp_all
  · rfl

/-- R22, R66: re-issuing the feed drive is what `FeedReissued` says. -/
theorem State.reissueFeed_spec (s : State) (b : BoomId) : FeedReissued s (s.reissueFeed b) b := by
  unfold FeedReissued State.reissueFeed
  dsimp only
  cases hj : (s.engine b).jog with
  | some j =>
    rw [fullFeed_of_jog hj]
    cases (s.pair (.boom b .feed)).dir <;> cases hf : j.fn <;> simp [Jog.drive, hf, capFeed]
  | none =>
    dsimp only
    rw [s.stepDrive_feed b, ← fullFeed_of_step hj]
    cases (s.pair (.boom b .feed)).dir <;> cases fullFeed s b <;> simp
    rintro _ _ rfl
    rfl

/-! ## The arbiter's own promise through the four acts -/

theorem State.tells_arb (ns : List FlowNote) (s : State) : (ns.foldl State.tell s).arb = s.arb := by
  have hr : ∀ (s : State) p r, (s.request p r).arb = s.arb := fun s p r => by
    cases p with
    | boom b f => cases b <;> cases f <;> rfl
    | canopy => rfl
  have he : ∀ (s : State) b e, (s.setEngine b e).arb = s.arb := fun s b e => by cases b <;> rfl
  have ht : ∀ (s : State) n, (s.tell n).arb = s.arb := fun s n => by
    unfold State.tell
    split
    · unfold State.onBoomGrant
      split <;> simp only [State.issueJog, State.issueStep, hr, he]
    · unfold State.onBoomPreempt
      split <;> simp only [State.boomOff, State.flagRecord, State.modRecord, hr, he]
    · unfold State.onCanopyGrant
      split <;> simp only [hr]
    · simp only [State.onCanopyPreempt, hr]
  induction ns generalizing s with
  | nil => rfl
  | cons n ns ih => exact (ih _).trans (ht s n)

theorem State.runPass_arb (s : State) : s.runPass.arb = s.arb.pass.1 := State.tells_arb _ _

theorem State.place_arb_ok {s : State} (h : ArbiterOk s.arb) (who : Requester) (p : Purpose) :
    ArbiterOk (s.place who p).arb := by
  rw [State.place, State.runPass_arb]
  exact Arbiter.pass_ok (Arbiter.submit_ok h _ _ _)

theorem State.withdraw_arb_ok {s : State} (h : ArbiterOk s.arb) (who : Requester) : ArbiterOk (s.withdraw who).arb := by
  unfold State.withdraw
  split
  · rw [State.runPass_arb]
    exact Arbiter.pass_ok (Arbiter.remove_ok h who)
  · exact h

end Sys2Proof.Machine
end

