-- ==== Sys2Proof/Laws/Engine.lean ====
section
/-! SUPPORT. What an engine may touch: every act of the bolt cycle engine of boom `b` is an `EngineMoves b`, and what such an
act leaves alone. -/
namespace Sys2Proof.Machine

/-! ## The relation -/

@[simp] theorem otherBoom_ne (b : BoomId) : otherBoom b ≠ b := by cases b <;> decide

theorem EngineMoves.refl (b : BoomId) (s : State) : EngineMoves b s s := ⟨rfl, rfl, ⟨rfl, .inl rfl⟩, rfl, .inl rfl, rfl⟩

theorem EngineMoves.trans {b : BoomId} {s t u : State} (h : EngineMoves b s t) (k : EngineMoves b t u) :
    EngineMoves b s u := by
  obtain ⟨h1, h2, h3, h4, h5, h6⟩ := h
  obtain ⟨k1, k2, k3, k4, k5, k6⟩ := k
  refine ⟨?_, k2.trans h2, h3.trans k3, ?_, ?_, k6.trans h6⟩
  · rw [h1] at k1
    exact k1
  · rw [h4] at k4
    exact k4
  · rcases k5 with k5 | k5
    · rw [k5]; exact h5
    · exact .inr k5

theorem EngineMoves.of_flow {s t : State} (h : FlowEffect s t) (b : BoomId) : EngineMoves b s t := by
  refine ⟨?_, h.2.1, h.boom _, ?_, .inl (h.active b), h.engine_restricted b⟩
  · have hs := h.store
    have he := h.events
    rw [hs, he]
    exact h.1
  · have hb := (h.boom b).1
    have hl := h.logger b
    have ha := h.active b
    rw [ha, hl]
    rw [show t.engine b = _ from h.engine b]
    exact hb

section
variable {b : BoomId} {s t : State} (h : EngineMoves b s t)
include h

theorem EngineMoves.phase : t.phase = s.phase := by rw [h.1]
theorem EngineMoves.now : t.now = s.now := by rw [h.1]
theorem EngineMoves.scan : t.scan = s.scan := by rw [h.1]
theorem EngineMoves.link : t.link = s.link := by rw [h.1]
theorem EngineMoves.plans : t.plans = s.plans := by rw [h.1]
theorem EngineMoves.trip : t.trip = s.trip := by rw [h.1]
theorem EngineMoves.estop : t.estop = s.estop := by rw [h.1]
theorem EngineMoves.clow : t.clow = s.clow := by rw [h.1]
theorem EngineMoves.analogs : t.analogs = s.analogs := by rw [h.1]
theorem EngineMoves.bus : t.bus = s.bus := by rw [h.1]
theorem EngineMoves.monitors : t.monitors = s.monitors := by rw [h.1]
theorem EngineMoves.cal : t.cal = s.cal := by rw [h.1]
theorem EngineMoves.pending : t.pending = s.pending := by rw [h.1]
theorem EngineMoves.canopy_state : t.canopy.state = s.canopy.state := by rw [h.1]

theorem EngineMoves.otherState : (t.engine (otherBoom b)).state = (s.engine (otherBoom b)).state := h.2.2.1.state

theorem EngineMoves.queue (c : BoomId) : (t.boom c).queue = (s.boom c).queue := by
  by_cases hc : c = b
  · rw [hc, h.2.2.2.1]
  · have : c = otherBoom b := by revert hc; cases b <;> cases c <;> decide
    rw [this]
    exact congrArg (·.queue) h.2.2.1.1

theorem EngineMoves.switches (c : BoomId) : (t.boom c).switches = (s.boom c).switches := by
  by_cases hc : c = b
  · rw [hc, h.2.2.2.1]
  · have : c = otherBoom b := by revert hc; cases b <;> cases c <;> decide
    rw [this]
    exact congrArg (·.switches) h.2.2.1.1

theorem EngineMoves.motion (c : BoomId) : t.motion c = s.motion c := by
  by_cases hc : c = b
  · rw [hc]; show (t.boom b).motion = _; rw [h.2.2.2.1]; rfl
  · have : c = otherBoom b := by revert hc; cases b <;> cases c <;> decide
    rw [this]
    exact congrArg (·.motion) h.2.2.1.1

theorem EngineMoves.head (c : BoomId) : t.head c = s.head c := by
  by_cases hc : c = b
  · rw [hc]; show (t.boom b).head = _; rw [h.2.2.2.1]; rfl
  · have : c = otherBoom b := by revert hc; cases b <;> cases c <;> decide
    rw [this]
    exact congrArg (·.head) h.2.2.1.1

theorem EngineMoves.sensing (c : BoomId) : t.sensing c = s.sensing c := by
  by_cases hc : c = b
  · rw [hc]; show (t.boom b).sensing = _; rw [h.2.2.2.1]; rfl
  · have : c = otherBoom b := by revert hc; cases b <;> cases c <;> decide
    rw [this]
    exact congrArg (·.sensing) h.2.2.1.1

theorem EngineMoves.restricted (c : BoomId) : (t.engine c).restricted = (s.engine c).restricted := by
  by_cases hc : c = b
  · rw [hc]; exact h.2.2.2.2.2
  · have : c = otherBoom b := by revert hc; cases b <;> cases c <;> decide
    rw [this]
    exact congrArg (·.restricted) h.2.2.1.engine

/-- An act that begins in an engaged state, or that ends in one that is not, engages no engine. -/
theorem EngineMoves.effect (k : (s.engine b).state.engaged = true ∨ (t.engine b).state.engaged = false) :
    EngineEffect b s t := by
  refine ⟨h, fun e => ?_⟩
  rcases k with k | k
  · exact k
  · simp [k] at e

end

/-! ## The single updates -/

theorem EngineMoves.of_setEngine (s : State) (b : BoomId) (e : Engine) (h : e.restricted = (s.engine b).restricted) :
    EngineMoves b s (s.setEngine b e) := by
  cases b <;> exact ⟨rfl, rfl, ⟨rfl, .inl rfl⟩, rfl, .inl rfl, h⟩

theorem EngineMoves.of_setLogger (s : State) (b : BoomId) (l : Logger) : EngineMoves b s (s.setLogger b l) := by
  cases b <;> exact ⟨rfl, rfl, ⟨rfl, .inl rfl⟩, rfl, .inl rfl, rfl⟩

theorem EngineMoves.of_clearActive (s : State) (b : BoomId) : EngineMoves b s (s.setActive b none) := by
  cases b <;> exact ⟨rfl, rfl, ⟨rfl, .inl rfl⟩, rfl, .inr rfl, rfl⟩

theorem EngineMoves.of_raise (s : State) (b : BoomId) (e : Event) : EngineMoves b s (s.raise e) :=
  ⟨rfl, rfl, ⟨rfl, .inl rfl⟩, rfl, .inl rfl, rfl⟩

theorem EngineMoves.of_store (s : State) (b : BoomId) (x : RecordStore) : EngineMoves b s { s with store := x } :=
  ⟨rfl, rfl, ⟨rfl, .inl rfl⟩, rfl, .inl rfl, rfl⟩

theorem EngineMoves.of_modRecord (s : State) (b : BoomId) (f : InstRecord → InstRecord) :
    EngineMoves b s (s.modRecord b f) := of_setEngine s b _ (by rfl)

theorem EngineMoves.of_goto (s : State) (b : BoomId) (st : EngineState) (sub : SubCond) :
    EngineMoves b s (s.goto b st sub) := of_setEngine s b _ (by rfl)

/-- A change to an engine whose restricted flag stands, made after `h`. -/
theorem EngineMoves.then_setEngine {b : BoomId} {s t : State} (h : EngineMoves b s t) (e : Engine)
    (k : e.restricted = (t.engine b).restricted) : EngineMoves b s (t.setEngine b e) := h.trans (of_setEngine t b e k)

theorem EngineMoves.then_goto {b : BoomId} {s t : State} (h : EngineMoves b s t) (st : EngineState) (sub : SubCond) :
    EngineMoves b s (t.goto b st sub) := h.trans (of_goto t b st sub)

theorem EngineMoves.then_flow {b : BoomId} {s t u : State} (h : EngineMoves b s t) (k : FlowEffect t u) :
    EngineMoves b s u := h.trans (of_flow k b)

theorem EngineMoves.then_raise {b : BoomId} {s t : State} (h : EngineMoves b s t) (e : Event) :
    EngineMoves b s (t.raise e) := h.trans (of_raise t b e)

theorem EngineMoves.then_modRecord {b : BoomId} {s t : State} (h : EngineMoves b s t) (f : InstRecord → InstRecord) :
    EngineMoves b s (t.modRecord b f) := h.trans (of_modRecord t b f)

theorem EngineMoves.of_choose (s : State) (b : BoomId) : EngineMoves b s (s.choose b) := of_goto s b _ _

/-! ## Filing -/

theorem EngineMoves.of_filed (s : State) (b : BoomId) (o : Option JobOutcome) : EngineMoves b s (s.filed b o) := by
  have h := ((of_setEngine s b { s.engine b with resinRunning := false, n := none, record := none } rfl).trans
    (of_clearActive _ b)).trans (of_setLogger _ b {})
  unfold State.filed
  dsimp only
  split
  · split
    · refine .trans ?_ (of_choose _ b)
      exact (h.then_raise (.jobDone b)).then_setEngine _ (by rfl)
    · exact (h.then_raise _).trans (of_choose _ b)
  · exact h

theorem EngineMoves.of_file (s : State) (b : BoomId) : EngineMoves b s (s.file b) := by
  unfold State.file
  split
  · exact refl b s
  · exact (of_store s b _).then_raise _ |>.trans (of_filed _ b _)

theorem EngineMoves.of_offer (s : State) (b : BoomId) : EngineMoves b s (s.offer b) := by
  have h := of_modRecord s b (fun r => { r with retries := (s.engine b).retries })
  unfold State.offer
  dsimp only
  split
  · exact h.trans (of_file _ b)
  · exact (h.trans (of_store _ b _)).then_raise _

theorem EngineMoves.of_enterFiling (s : State) (b : BoomId) : EngineMoves b s (s.enterFiling b) :=
  (((of_goto s b _ _).then_flow (.of_noFlow _ b)).then_modRecord _).trans (of_offer _ b)

/-! ## Faults and holds -/

theorem EngineMoves.of_flagRecord (s : State) (b : BoomId) (f : RecordFlag) : EngineMoves b s (s.flagRecord b f) :=
  of_modRecord s b _

theorem EngineMoves.of_putLogger (s : State) (b : BoomId) (l : Logger) : EngineMoves b s (s.putLogger b l) := by
  have h := of_setLogger s b l
  unfold State.putLogger
  dsimp only
  split
  · exact (h.then_raise _).trans (of_flagRecord _ b _)
  · exact h

theorem EngineMoves.of_closeLog (s : State) (b : BoomId) : EngineMoves b s (s.closeLog b) :=
  (of_putLogger s b _).then_modRecord _

/-- Both branches of a choice. -/
theorem EngineMoves.of_ite {b : BoomId} {s t u : State} {P : Prop} [Decidable P] (h : EngineMoves b s t)
    (k : EngineMoves b s u) : EngineMoves b s (if P then t else u) := by
  split
  · exact h
  · exact k

theorem EngineMoves.of_enterFaulted (s : State) (b : BoomId) (c : FaultCause) : EngineMoves b s (s.enterFaulted b c) := by
  unfold State.enterFaulted
  have h1 := of_goto s b .faulted .none
  have h2 := h1.then_setEngine
    { (s.goto b .faulted .none).engine b with lastFault := some c, causes := {}, armOnGrant := false } rfl
  have h3 := of_ite (P := (s.engine b).jog.isSome = true) h2 (h2.then_flow (.of_noFlow _ b))
  have h4 := (h3.then_modRecord
    (faultRecord (s.engine b) (if (s.engine b).state = .hold then (s.engine b).resume.getD .idle else (s.engine b).state) c
      s.now)).then_raise (.jobFault b)
  exact (of_ite (h4.trans (of_closeLog _ b)) h4).trans (of_offer _ b)

theorem EngineMoves.of_enterHold (s : State) (b : BoomId) (c : HoldCause) : EngineMoves b s (s.enterHold b c) := by
  unfold State.enterHold
  dsimp only
  refine .then_raise (.then_flow ?_ (.of_noFlow _ b)) _
  split
  · exact (of_flagRecord s b _).then_setEngine _ (by rfl)
  · exact of_setEngine s b _ (by rfl)

theorem EngineMoves.of_holdCause (s : State) (b : BoomId) (c : HoldCause) : EngineMoves b s (s.holdCause b c) := by
  unfold State.holdCause
  dsimp only
  split
  · exact of_enterHold s b c
  · split
    · exact of_setEngine s b _ (by rfl)
    · exact refl b s

theorem EngineMoves.of_channelFailed (s : State) (b : BoomId) : EngineMoves b s (s.channelFailed b) := by
  unfold State.channelFailed
  dsimp only
  split
  · exact (of_holdCause s b _).trans (of_enterFaulted _ b _)
  · exact refl b s

/-! ## The steps -/

theorem EngineMoves.of_enterRelease (s : State) (b : BoomId) : EngineMoves b s (s.enterRelease b) := by
  have h := (of_goto s b .release .none).then_flow (.of_beginFlow _ b (.step .release))
  unfold State.enterRelease
  dsimp only
  split
  · exact h.trans (of_enterFiling _ b)
  · exact h

theorem EngineMoves.of_endTorque (s : State) (b : BoomId) (o : JobOutcome) (t : Nat) :
    EngineMoves b s (s.endTorque b o t) := (of_modRecord s b _).trans (of_enterRelease _ b)

theorem EngineMoves.of_enterTorque (s : State) (b : BoomId) : EngineMoves b s (s.enterTorque b) :=
  ((of_goto s b _ _).then_setEngine _ (by rfl)).then_flow (.of_beginFlow _ b _)

theorem EngineMoves.of_windowTest (s : State) (b : BoomId) : EngineMoves b s (s.windowTest b) := by
  unfold State.windowTest
  dsimp only
  split
  · exact of_enterTorque s b
  · exact (of_modRecord s b _).trans (of_enterRelease _ b)

theorem EngineMoves.of_enterGelHold (s : State) (b : BoomId) : EngineMoves b s (s.enterGelHold b) :=
  (of_goto s b _ _).then_flow (.of_beginFlow _ b _)

theorem EngineMoves.of_mixEnded (s : State) (b : BoomId) (short : Bool) : EngineMoves b s (s.mixEnded b short) := by
  unfold State.mixEnded
  dsimp only
  split
  · exact (of_modRecord s b _).trans (of_flagRecord _ b _)
  · exact of_modRecord s b _

theorem EngineMoves.of_endMix (s : State) (b : BoomId) (short : Bool) : EngineMoves b s (s.endMix b short) :=
  (of_mixEnded s b short).trans (of_enterGelHold _ b)

theorem EngineMoves.of_enterMix (s : State) (b : BoomId) : EngineMoves b s (s.enterMix b) :=
  (((of_goto s b _ _).then_setEngine _ (by rfl)).then_modRecord _).then_flow (.of_beginFlow _ b _)

theorem EngineMoves.of_enterPush (s : State) (b : BoomId) : EngineMoves b s (s.enterPush b) :=
  ((of_goto s b _ _).then_setEngine _ (by rfl)).then_flow (.of_beginFlow _ b _)

theorem EngineMoves.of_enterAwaitBolt (s : State) (b : BoomId) : EngineMoves b s (s.enterAwaitBolt b) :=
  ((of_goto s b _ _).then_flow (.of_noFlow _ b)).then_raise _

theorem EngineMoves.of_finishInsert (s : State) (b : BoomId) : EngineMoves b s (s.finishInsert b) :=
  (of_modRecord s b _).trans (of_enterAwaitBolt _ b)

theorem EngineMoves.of_setLeg (s : State) (b : BoomId) (l : Leg) : EngineMoves b s (s.setLeg b l) :=
  (of_setEngine s b _ (by rfl)).then_flow (.of_changeDrive _ b)

theorem EngineMoves.of_completeCartridge (s : State) (b : BoomId) : EngineMoves b s (s.completeCartridge b) := by
  unfold State.completeCartridge
  dsimp only
  split
  · exact (of_flagRecord s b _).then_setEngine _ (by rfl)
  · exact of_setEngine s b _ (by rfl)

theorem EngineMoves.of_runStroke (k : Nat) (s : State) (b : BoomId) : EngineMoves b s (State.runStroke k s b) := by
  induction k generalizing s with
  | zero => exact refl b s
  | succ k ih =>
    unfold State.runStroke
    dsimp only
    split
    · exact refl b s
    · split
      · split
        · exact of_finishInsert s b
        · exact (of_setLeg s b _).trans (ih _)
      · exact refl b s
    · split
      · exact (of_setLeg s b _).trans (ih _)
      · exact refl b s
    · split
      · split
        · split
          · exact (of_completeCartridge s b).trans (of_finishInsert _ b)
          · exact ((of_completeCartridge s b).trans (of_setLeg _ b _)).trans (ih _)
        · split
          · exact ((of_setEngine s b _ (by rfl)).trans (of_setLeg _ b _)).trans (ih _)
          · exact of_enterFaulted s b _
      · exact refl b s

theorem EngineMoves.of_strokes (s : State) (b : BoomId) : EngineMoves b s (s.strokes b) := of_runStroke 24 s b

theorem EngineMoves.of_beginStrokes (s : State) (b : BoomId) : EngineMoves b s (s.beginStrokes b) :=
  (((of_goto s b _ _).then_setEngine _ (by rfl)).then_flow (.of_beginFlow _ b _)).trans (of_strokes _ b)

theorem EngineMoves.of_insertOrWait (s : State) (b : BoomId) : EngineMoves b s (s.insertOrWait b) := by
  unfold State.insertOrWait
  split
  · exact ((of_goto s b _ _).then_flow (.of_noFlow _ b)).then_raise _
  · exact of_beginStrokes s b

theorem EngineMoves.of_enterInsert (s : State) (b : BoomId) : EngineMoves b s (s.enterInsert b) :=
  (of_setEngine s b _ (by rfl)).trans (of_insertOrWait _ b)

theorem EngineMoves.of_beginRetract (s : State) (b : BoomId) : EngineMoves b s (s.beginRetract b) := by
  have h := (of_goto s b .retract .none).then_flow (.of_beginFlow _ b (.step .retract))
  unfold State.beginRetract
  dsimp only
  split
  · exact h.trans (of_enterInsert _ b)
  · exact h

theorem EngineMoves.of_enterRetract (s : State) (b : BoomId) : EngineMoves b s (s.enterRetract b) := by
  unfold State.enterRetract
  dsimp only
  refine .trans ?_ (of_beginRetract _ b)
  split
  · exact ((((of_putLogger s b _).trans (of_setLogger _ b _)).then_setEngine _ (by cases b <;> rfl)).then_modRecord _).trans
      (of_flagRecord _ b _)
  · exact (((of_putLogger s b _).trans (of_setLogger _ b _)).then_setEngine _ (by cases b <;> rfl)).then_modRecord _

theorem EngineMoves.of_enterDrill (s : State) (b : BoomId) : EngineMoves b s (s.enterDrill b) :=
  (of_goto s b _ _).then_flow (.of_beginFlow _ b _)

theorem EngineMoves.of_stall (s : State) (b : BoomId) (pos : Nat) : EngineMoves b s (s.stall b pos) := by
  unfold State.stall
  dsimp only
  split
  · exact (of_setEngine s b _ (by rfl)).then_flow (.of_changeDrive _ b)
  · exact of_enterFaulted s b _

theorem EngineMoves.of_endBackoff (s : State) (b : BoomId) : EngineMoves b s (s.endBackoff b) :=
  (of_setEngine s b _ (by rfl)).then_flow (.of_changeDrive _ b)

/-! ## Events taken by an engine -/

theorem EngineMoves.of_loggerScan (s : State) (b : BoomId) : EngineMoves b s (s.loggerScan b) := by
  unfold State.loggerScan
  dsimp only
  split
  · split
    · exact (of_putLogger s b _).then_flow (.of_reissueFeed _ b)
    · exact of_putLogger s b _
  · exact refl b s

theorem EngineMoves.of_scanApproach (s : State) (b : BoomId) : EngineMoves b s (s.scanApproach b) := by
  unfold State.scanApproach
  dsimp only
  split
  · exact ((of_setLogger s b _).then_setEngine _ (by rfl)).then_flow (.of_changeDrive _ b)
  · exact refl b s

theorem EngineMoves.of_scanBackoff (s : State) (b : BoomId) : EngineMoves b s (s.scanBackoff b) := by
  unfold State.scanBackoff
  split
  · exact of_endBackoff s b
  · exact refl b s

theorem EngineMoves.of_scanDrill (s : State) (b : BoomId) : EngineMoves b s (s.scanDrill b) := by
  unfold State.scanDrill
  split
  · exact of_enterRetract s b
  · split
    · exact of_scanBackoff s b
    · split
      · exact of_stall s b _
      · exact refl b s

theorem EngineMoves.of_scanTorque (s : State) (b : BoomId) : EngineMoves b s (s.scanTorque b) := by
  unfold State.scanTorque
  dsimp only
  split
  · exact (of_setEngine s b _ (by rfl)).trans (of_endTorque _ b _ _)
  · split
    · exact (of_setEngine s b _ (by rfl)).trans (of_endTorque _ b _ _)
    · exact of_setEngine s b _ (by rfl)

theorem EngineMoves.of_engineScan (s : State) (b : BoomId) : EngineMoves b s (s.engineScan b) := by
  unfold State.engineScan
  dsimp only
  split
  · exact of_scanApproach s b
  · exact of_scanBackoff s b
  · split
    · exact of_enterDrill s b
    · exact refl b s
  · exact of_scanDrill s b
  · split
    · exact of_enterMix s b
    · exact refl b s
  · split
    · exact of_scanTorque s b
    · exact refl b s
  · exact refl b s

theorem EngineMoves.of_homeClosed (s : State) (b : BoomId) : EngineMoves b s (s.homeClosed b) := by
  unfold State.homeClosed
  split
  · exact of_enterInsert s b
  · exact of_enterFiling s b
  · exact of_endBackoff s b
  · exact of_endBackoff s b
  · exact refl b s

theorem EngineMoves.of_inserterClosed (s : State) (b : BoomId) : EngineMoves b s (s.inserterClosed b) := by
  unfold State.inserterClosed
  split
  · exact of_strokes s b
  · exact refl b s

theorem EngineMoves.of_engineExpiry (s : State) (b : BoomId) (f : PairFn) : EngineMoves b s (s.engineExpiry b f) := by
  unfold State.engineExpiry
  dsimp only
  split <;>
    first | exact of_enterFaulted s b _ | exact of_stall s b _ | exact of_endMix s b _ | exact of_endTorque s b _ _
          | exact refl b s

theorem EngineMoves.of_mixPulse (s : State) (b : BoomId) : EngineMoves b s (s.mixPulse b) := by
  unfold State.mixPulse
  dsimp only
  split
  · split
    · exact (of_setEngine s b _ (by rfl)).trans (of_endMix _ b _)
    · exact of_setEngine s b _ (by rfl)
  · split
    · exact of_setEngine s b _ (by rfl)
    · exact refl b s

theorem EngineMoves.of_tallyPulse (s : State) (b : BoomId) : EngineMoves b s (s.tallyPulse b) := by
  unfold State.tallyPulse
  dsimp only
  split
  · exact of_setLogger s b _
  · exact refl b s

theorem EngineMoves.of_enginePassage (s : State) (b : BoomId) : EngineMoves b s (s.enginePassage b) := by
  unfold State.enginePassage
  dsimp only
  split
  · exact of_setEngine s b _ (by rfl)
  · exact refl b s

theorem EngineMoves.of_endJog (s : State) (b : BoomId) : EngineMoves b s (s.endJog b) := by
  unfold State.endJog
  split
  · exact (of_setEngine s b _ (by rfl)).then_flow (.of_noFlow _ b)
  · exact refl b s

theorem EngineMoves.of_parkBoom (s : State) (b : BoomId) (c : HoldCause) : EngineMoves b s (s.parkBoom b c) := by
  have h := of_setEngine s b { s.engine b with park := true } rfl
  unfold State.parkBoom
  dsimp only
  split <;> first | exact h.then_goto _ _ | exact h.trans (of_enterHold _ b _) | exact h

/-! ## The requests that move an engine -/

theorem EngineMoves.of_dropJog (s : State) (b : BoomId) : EngineMoves b s (s.dropJog b) := by
  unfold State.dropJog
  split
  · exact (of_setEngine s b _ (by rfl)).then_flow (.of_boomOff _ b _)
  · exact refl b s

theorem EngineMoves.of_startJog (s : State) (b : BoomId) (j : Jog) : EngineMoves b s (s.startJog b j) := by
  have h := ((of_dropJog s b).then_setEngine { (s.dropJog b).engine b with jog := some j } rfl).then_flow
    (.of_place _ (.boom b) (.jog j.fn))
  unfold State.startJog
  dsimp only
  split
  · refine .trans ?_ (of_endJog _ b)
    split
    · exact h
    · exact h.then_flow (.of_boomOff _ b _)
  · split
    · exact h
    · exact h.then_flow (.of_boomOff _ b _)

theorem EngineMoves.of_resumeGel (s : State) (b : BoomId) : EngineMoves b s (s.resumeGel b) := by
  unfold State.resumeGel
  split
  · exact of_enterGelHold s b
  · exact of_windowTest s b

theorem EngineMoves.of_resumeMix (s : State) (b : BoomId) : EngineMoves b s (s.resumeMix b) := by
  unfold State.resumeMix
  dsimp only
  split
  · exact (of_mixEnded s b _).trans (of_resumeGel _ b)
  · split
    · exact (of_goto s b _ _).then_flow (.of_beginFlow _ b _)
    · exact (of_mixEnded s b _).trans (of_resumeGel _ b)

theorem EngineMoves.of_resumeInsert (s : State) (b : BoomId) : EngineMoves b s (s.resumeInsert b) := by
  have k : ∀ u, EngineMoves b s u → EngineMoves b s
      (if (u.engine b).completed ≥ u.cartridges b then
        if u.closed (.ihome b) then u.finishInsert b
        else (u.setEngine b { u.engine b with leg := some .homing }).beginFlow b (.step .insert)
      else ((u.setEngine b { u.engine b with leg := some (u.firstLeg b) }).beginFlow b (.step .insert)).strokes b) := by
    intro u hu
    split
    · split
      · exact hu.trans (of_finishInsert u b)
      · exact (hu.then_setEngine _ (by rfl)).then_flow (.of_beginFlow _ b _)
    · exact ((hu.then_setEngine _ (by rfl)).then_flow (.of_beginFlow _ b _)).trans (of_strokes _ b)
  unfold State.resumeInsert
  dsimp only
  split
  · exact of_insertOrWait s b
  · refine k _ (.then_goto ?_ _ _)
    split
    · exact of_completeCartridge s b
    · exact refl b s

theorem EngineMoves.of_resumeStep (s : State) (b : BoomId) (st : EngineState) : EngineMoves b s (s.resumeStep b st) := by
  have h := of_setEngine s b { s.engine b with state := st, resume := none } rfl
  unfold State.resumeStep
  dsimp only
  split
  · exact h.then_flow (.of_beginFlow _ b _)
  · exact h.then_flow (.of_beginFlow _ b _)
  · exact of_beginRetract s b
  · exact of_resumeInsert s b
  · split
    · exact of_enterPush s b
    · exact of_enterAwaitBolt s b
  · exact of_enterPush s b
  · exact of_resumeMix s b
  · exact of_resumeGel s b
  · exact (h.then_setEngine _ (by rfl)).then_flow (.of_beginFlow _ b _)
  · exact of_enterRelease s b
  · exact refl b s

theorem EngineMoves.of_resume (s : State) (b : BoomId) : EngineMoves b s (s.resume b) :=
  ((of_dropJog s b).then_setEngine _ (by rfl)).trans (of_resumeStep _ b _)

/-! ## The restricted flag -/

/-- R48, R22: following the channels is what `RestrictedFollows` says. -/
theorem State.updateRestricted_spec (s : State) (b : BoomId) :
    RestrictedFollows s (s.updateRestricted b) b (s.restrictedNow b) := by
  unfold RestrictedFollows State.updateRestricted
  refine ⟨fun h => if_pos h.symm, fun h => ?_⟩
  simp only [if_neg (Ne.symm h)]
  have : restrictedTo s b (s.restrictedNow b) =
      (if s.restrictedNow b = true then
        ((s.setEngine b { s.engine b with restricted := s.restrictedNow b }).raise (.restricted b)).flagRecord b .restrictedRun
      else s.setEngine b { s.engine b with restricted := s.restrictedNow b }) := by
    unfold restrictedTo State.flagRecord State.modRecord
    cases s.restrictedNow b <;> simp [RecordFlags.add]
  rw [this]
  exact State.reissueFeed_spec _ b

end Sys2Proof.Machine
end

