-- ==== Sys2Proof/Laws/Link.lean ====
section
/-! SUPPORT. What the link port does with a request: one law per port operation, said in `answered`. -/
namespace Sys2Proof.Machine

/-- A frame that the port does not take has no effect. -/
theorem State.serve_of_not_takes {s : State} (h : s.takesFrames = false) (seq code : Byte) (payload : List Byte)
    (decide : State → Decision) : s.serve seq code payload decide = s := by
  simp [State.serve, h]

/-- A frame that the port takes is answered with its request's decision, made once the frame has been taken. -/
theorem State.serve_of_takes {s : State} (h : s.takesFrames = true) {payload : List Byte} (hl : payload.length ≤ 250)
    (seq code : Byte) (decide : State → Decision) :
    s.serve seq code payload decide =
      (decide s.frameTaken).state.reply seq code (decide s.frameTaken).answer := by
  simp [State.serve, h, hl]

/-- A decision that leaves the link as it found it: the reply is that of the state with the link as it was before. -/
theorem State.serve_answered {s : State} (h : s.takesFrames = true) {payload : List Byte} (hl : payload.length ≤ 250)
    (seq code : Byte) (decide : State → Decision) {u : State}
    (hu : (decide s.frameTaken).state = { u with link := s.frameTaken.link }) (hk : u.link = s.link) :
    s.serve seq code payload decide = answered u seq code (decide s.frameTaken).answer := by
  rw [State.serve_of_takes h hl, hu]
  simp only [State.reply, State.replyWith, answered, answeredWith, hk]
  rfl

/-- A request of fixed length with another length is refused, and nothing else changes. -/
theorem State.serveFixed_badLength {s : State} (h : s.takesFrames = true) {payload : List Byte} (hl : payload.length ≤ 250)
    {n : Nat} (hn : payload.length ≠ n) (seq code : Byte) (decide : State → Decision) :
    s.serveFixed seq code n payload decide = answered s seq code (.refused .badLength 0) := by
  refine (State.serve_answered h hl seq code _ (u := s) ?_ rfl).trans ?_ <;> simp [checkLength, hn, State.refuse, State.frameTaken]

/-- A request of fixed length with that length goes to its block. -/
theorem State.serveFixed_answered {s : State} (h : s.takesFrames = true) {payload : List Byte} {n : Nat}
    (hn : payload.length = n) (hl : n ≤ 250) (seq code : Byte) (decide : State → Decision) {u : State}
    (hu : (decide s.frameTaken).state = { u with link := s.frameTaken.link }) (hk : u.link = s.link) :
    s.serveFixed seq code n payload decide = answered u seq code (decide s.frameTaken).answer := by
  refine (State.serve_answered h (by omega) seq code _ (u := u) ?_ hk).trans ?_ <;> simp [checkLength, hn, hu]

/-- A decision that refuses leaves the part as it was. -/
theorem State.serveFixed_refused {s : State} (h : s.takesFrames = true) {payload : List Byte} {n : Nat}
    (hn : payload.length = n) (hl : n ≤ 250) (seq code : Byte) (decide : State → Decision) {r : Reason} {d : Nat}
    (hd : decide s.frameTaken = ⟨s.frameTaken, .refused r d⟩) :
    s.serveFixed seq code n payload decide = answered s seq code (.refused r d) := by
  have hs : (decide s.frameTaken).state = { s with link := s.frameTaken.link } := by rw [hd]; rfl
  rw [State.serveFixed_answered h hn hl seq code decide hs rfl, hd]

/-- The boom field of a request names boom `b`. -/
@[simp] theorem boomOf_num (b : BoomId) : boomOf b.num = some b := by cases b <;> rfl

theorem boomOf_above {n : Nat} (h : 2 ≤ n) : boomOf n = none := by
  unfold boomOf
  rw [if_neg (by omega), if_neg (by omega)]

@[simp] theorem byteAt_zero (x : Byte) (p : List Byte) : byteAt (x :: p) 0 = x.toNat := rfl

@[simp] theorem BoomId.num_byte (b : BoomId) : (BitVec.ofNat 8 b.num).toNat = b.num := by cases b <;> rfl

@[simp] theorem withBoom_num (b : BoomId) (decide : BoomId → State → Decision) (s : State) :
    withBoom b.num decide s = decide b s := by simp [withBoom]

/-- What the port and the status summary read is untouched by the taking of a frame. -/
@[simp] theorem State.frameTaken_summary (s : State) : s.frameTaken.summary = s.summary := rfl

@[simp] theorem State.frameTaken_link_timeout (s : State) : s.frameTaken.link.timeout = s.link.timeout := rfl
@[simp] theorem State.frameTaken_boom (s : State) (b : BoomId) : s.frameTaken.boom b = s.boom b := by cases b <;> rfl
@[simp] theorem State.frameTaken_engine (s : State) (b : BoomId) : s.frameTaken.engine b = s.engine b := by cases b <;> rfl
@[simp] theorem State.frameTaken_head (s : State) (b : BoomId) : s.frameTaken.head b = s.head b := by cases b <;> rfl
@[simp] theorem State.frameTaken_sensing (s : State) (b : BoomId) : s.frameTaken.sensing b = s.sensing b := by cases b <;> rfl
@[simp] theorem State.frameTaken_motion (s : State) (b : BoomId) : s.frameTaken.motion b = s.motion b := by cases b <;> rfl
@[simp] theorem State.frameTaken_switch (s : State) (i : SwitchId) : s.frameTaken.switch i = s.switch i := by
  rcases i with _ | _ | _ | _ | _ | _ <;> rfl
@[simp] theorem State.frameTaken_closed (s : State) (i : SwitchId) : s.frameTaken.closed i = s.closed i := by
  simp only [State.closed, State.frameTaken_switch]
@[simp] theorem State.frameTaken_pair (s : State) (p : PairId) : s.frameTaken.pair p = s.pair p := by
  rcases p with ⟨b, f⟩ | _
  · cases f <;> simp [State.pair]
  · rfl
@[simp] theorem State.frameTaken_analog (s : State) (c : AnalogId) : s.frameTaken.analog c = s.analog c := by cases c <;> rfl
@[simp] theorem State.frameTaken_refs (s : State) (id : Nat) : s.frameTaken.refs id = s.refs id := rfl

/-! ## The receiver -/

/-- Bytes taken in two parts are taken as the whole. -/
theorem Receiver.feed_append (r : Receiver) (xs ys : List Byte) :
    r.feed (xs ++ ys) = (((r.feed xs).1.feed ys).1, (r.feed xs).2 ++ ((r.feed xs).1.feed ys).2) := by
  induction xs generalizing r with
  | nil => simp [Receiver.feed]
  | cons x xs ih => simp [Receiver.feed, ih]

/-- A hunting receiver passes over every byte but SYNC. -/
theorem Receiver.take_hunting (b : Byte) :
    Receiver.take .hunting b = ⟨if b = 0xC3 then .assembling [] else .hunting, none⟩ := rfl

end Sys2Proof.Machine
end

