-- ==== Sys2Proof/Tests/Slice0.lean ====
section
/-! SUPPORT. Tests: the smoke tests of well-formedness, the bytes of frames, the worked sequences and tables of the data
book, and one witness for every obligation that has hypotheses. Every expected number is the data book's own, or was computed
by hand or by an independent CRC program from its rules. -/
namespace Sys2Proof.Tests
open Sys2Proof.Machine

/-! ## Small states -/

/-- The state a command leaves; the reply of the command before it has gone out. -/
def run (i : Instr) (s : State) : State :=
  match exec i { s with link := { s.link with sending := false } } with
  | .next t => t
  | _ => s

/-- The answer of the reply a command leaves. -/
def answer (i : Instr) (s : State) : Option Answer := (run i s).link.reply.map (·.answer)

/-- Plan 7 of chapters 1 to 3. -/
def plan7 : HolePlan :=
  { id := 7, holeLength := 1800, bondLength := 900, contact := 400, collarDepth := 40, approachFeed := 400, collarFeed := 500
    collarRot := 600, drillFeed := 600, drillRot := 700, hardFeed := some 450, voidFeed := some 300, jam := 2600
    retryLimit := 2, autoRetry := 1, drillLimit := 240, kf := 40, voidMax := 300, softMax := 600, hardMin := 1400
    dropTime := some 120, fill := 400, wv := 12, ws := 6, base := 2, maxCart := 4, pushFeed := 300, pushContact := 800
    mixRot := 400, mixCount := 120, mixLimit := 8000, gelTime := 20000, torqueWindow := 15000, holdFeed := 300
    torqueRot := 500, torqueTarget := 300, torqueLimit := none, torqueTime := 6000, retractDuty := 300, releaseDuty := 300 }

/-- Plan 12 of chapter 1. -/
def plan12 : HolePlan :=
  { plan7 with id := 12, holeLength := 1500, bondLength := 700, torqueTarget := 250, torqueLimit := some 400 }

def job101 : Job := { tag := 101, planId := 7, holeLength := none, torqueTarget := none, base := none }
def record101 : InstRecord := { boom := .A, tag := 101, planId := 7, start := 0 }
def on : SwitchInput := { line := true, level := true }

/-- A head module that reads roof contact, published at `stamp`. -/
def headAt (stamp : Timestamp) : Head :=
  { hasGood := true, data := some { temp := 20, vacuum := 300, contact := true }, published := some stamp, stale := false }

/-- A boom with its presence held, its head fresh and the engine `e`. -/
def boomWith (e : Engine) : BoomState := { engine := e, switches := { prs := on }, head := headAt 0 }

/-- A calibrated rig, latch clear, canopy SET, both plans loaded, boom A with engine `e`, its active job 101 and its record. -/
def rig (e : Engine) : State :=
  { State.reset with
    trip := false
    estop := {}
    cal := { State.reset.cal with absent := false }
    canopy := { state := .set }
    plans := [plan7, plan12]
    arb := { budget := 100 }
    boomA := { boomWith { e with record := some record101 } with active := some job101 }
    boomB := boomWith {} }

/-- That rig in a step of boom A, its request granted. -/
def inStep (e : Engine) : State :=
  let s := rig e
  { s with
    arb :=
      { budget := 100, counter := 1
        grants := [{ who := .boom .A, purpose := .step e.state, cls := (Purpose.step e.state).cls, demand := 20, stamp := 1 }] } }

/-- That rig with nothing active and both engines in IDLE. -/
def idle : State :=
  let s := rig {}
  { s with boomA := boomWith {} }

/-- That rig with job 101 queued on boom A. -/
def ready : State := { idle with boomA := { boomWith { state := .ready } with queue := [job101] } }

/-- `s` with a qualification run of boom A's active pickup line in progress. -/
def pulsing (s : State) : State := s.setMotion .A { s.motion .A with pickup := { line := true, run := some 10 } }

/-! ## Well-formedness refuses an ill-formed term by each check -/

set_option maxRecDepth 8000 in
theorem test_long_payload_refused : (Instr.loadPlan 0 (List.replicate 251 0)).wellFormed = false := by decide
theorem test_named_code_is_no_unknown_code : (Instr.unknownCode 0 0x2B []).wellFormed = false := by decide
set_option maxRecDepth 8000 in
theorem test_long_unknown_payload_refused : (Instr.unknownCode 0 0x2C (List.replicate 251 0)).wellFormed = false := by decide
theorem test_directory_is_no_plan_read : (Instr.readPlan 0 [0]).wellFormed = false := by decide
set_option maxRecDepth 8000 in
theorem test_long_plan_read_refused : (Instr.readPlan 0 (List.replicate 251 7)).wellFormed = false := by decide
theorem test_no_bytes_are_no_discard : (Instr.frameDiscarded []).wellFormed = false := by decide
set_option maxRecDepth 8000 in
theorem test_valid_frame_is_no_discard : (Instr.frameDiscarded [0xC3, 0x00, 0x01, 0x01, 0x88, 0x05]).wellFormed = false := by
  decide
theorem test_long_block_refused : (Instr.headTransactionEnd (.returned (List.replicate 19 0))).wellFormed = false := by decide
set_option maxRecDepth 8000 in
theorem test_longest_payload_fits : (Instr.loadPlan 0 (List.replicate 250 0)).wellFormed = true := by decide

/-! ## Frames (12.1): bytes from an independent CRC program -/

set_option maxRecDepth 100000 in
theorem test_crc_of_blank_image : crc16 (List.replicate 192 0) = 0x2178 := by decide
set_option maxRecDepth 8000 in
theorem test_identify_frame : frame 1 0x01 [] = [0xC3, 0x00, 0x01, 0x01, 0x88, 0x05] := by decide
set_option maxRecDepth 8000 in
theorem test_set_link_frame :
    frame 7 0x02 [0x01, 0x2C] = [0xC3, 0x02, 0x07, 0x02, 0x01, 0x2C, 0xCE, 0x33] := by decide
set_option maxRecDepth 8000 in
theorem test_start_frame_is_read :
    (Receiver.feed .hunting [0xC3, 0x01, 0x21, 0x0C, 0x00, 0xBE, 0xB3]) = (.hunting, [[0x01, 0x21, 0x0C, 0x00]]) ∧
      decodeFrame ⟨0x21, 0x0C, [0x00]⟩ = .start 0x21 [0] := by decide
set_option maxRecDepth 8000 in
theorem test_jog_frame_is_read :
    (Receiver.feed .hunting [0xC3, 0x07, 0x09, 0x14, 0x00, 0x01, 0x01, 0x01, 0x2C, 0x07, 0xD0, 0xA5, 0x7F]).2 =
        [[0x07, 0x09, 0x14, 0x00, 0x01, 0x01, 0x01, 0x2C, 0x07, 0xD0]] ∧
      decodeFrame ⟨9, 0x14, [0, 1, 1, 1, 0x2C, 7, 0xD0]⟩ = .jog 9 [0, 1, 1, 1, 0x2C, 7, 0xD0] := by decide
set_option maxRecDepth 8000 in
theorem test_directory_frame_is_read :
    (Receiver.feed .hunting [0xC3, 0x01, 0x06, 0x08, 0x00, 0x24, 0x5C]).2 = [[0x01, 0x06, 0x08, 0x00]] ∧
      decodeFrame ⟨6, 0x08, [0]⟩ = .readPlanDirectory 6 := by decide
set_option maxRecDepth 8000 in
theorem test_release_frame : frame 3 0x27 [0xFF, 0xFD] = [0xC3, 0x02, 0x03, 0x27, 0xFF, 0xFD, 0x9A, 0x1D] := by decide
set_option maxRecDepth 8000 in
theorem test_transact_frame :
    frame 4 0x23 [1, 0x2A, 0x10] = [0xC3, 0x03, 0x04, 0x23, 0x01, 0x2A, 0x10, 0xC9, 0x40] := by decide
set_option maxRecDepth 8000 in
theorem test_crc_mismatch_discards :
    (Receiver.feed .hunting [0xC3, 0x00, 0x55, 0x17, 0xF0, 0x75]) = (.hunting, []) ∧
      (Receiver.feed .hunting [0xC3, 0x00, 0x55, 0x17, 0xF0, 0x74]).2 = [[0x00, 0x55, 0x17]] := by decide
theorem test_length_is_checked_first : answer (.start 0 []) ready = some (.refused .badLength 0) := by decide
theorem test_boom_above_one : answer (.start 0 [2]) ready = some (.refused .badField 1) := by decide
theorem test_unknown_code : answer (.unknownCode 3 0x2C [1]) ready = some (.refused .unknownCode 0) := by decide
theorem test_reply_frame_of_a_refusal :
    (Reply.mk 0x21 0x0C 0x04 (.refused .wrongState 0)).payload = [0x04, 0x0C, 0x0A, 0x00] ∧
      (Reply.mk 0x21 0x0C 0x04 (.refused .wrongState 0)).frameCode = 0x7F ∧
      (Reply.mk 0x21 0x0C 0x04 (.accepted [])).frameCode = 0x8C := by decide
theorem test_table_word_spells_nothing : decodeTableWord 8 0x0C = none := by decide

/-! ## Chapter 1: plans and queues through one job -/

/-- Boom A after step 2 of the sequence. -/
def queued : State := run (.queueJob 2 [0, 0, 102, 7, 1, 5, 0xDC, 0, 0, 0, 0]) (run (.queueJob 1 [0, 0, 101, 7, 0, 0, 0, 0, 0, 0, 0]) idle)

theorem test_two_jobs_queued :
    (queued.boomA.queue.map (·.tag), (queued.engine .A).state, queued.refs 7, queued.refs 12) = ([101, 102], .ready, 2, 0) := by
  decide
theorem test_base_above_plan_maximum :
    answer (.queueJob 3 [0, 0, 103, 12, 4, 0, 0, 0, 0, 0, 5]) queued = some (.refused .badField 6) := by decide
theorem test_target_too_near_limit :
    answer (.queueJob 4 [0, 0, 103, 12, 2, 0, 0, 1, 0x8B, 0, 0]) queued = some (.refused .badField 5) := by decide
theorem test_plan_in_use_not_replaced :
    answer (.loadPlan 5 ((planWire plan7).map Wire.bytes).flatten) queued = some (.refused .planInUse 0) := by decide
/-- Boom A after step 6 of the sequence. -/
def started : State := run (.start 6 [0]) queued
theorem test_start_takes_oldest_job :
    (started.boomA.active.map (·.tag), started.boomA.queue.map (·.tag), (started.engine .A).state, (started.engine .A).sub,
      started.refs 7) = (some 101, [102], .collar, .approach, 2) := by decide
theorem test_active_tag_is_taken :
    answer (.queueJob 7 [0, 0, 101, 12, 0, 0, 0, 0, 0, 0, 0]) started = some (.refused .duplicateTag 0) ∧
      answer (.queueJob 8 [1, 0, 101, 12, 0, 0, 0, 0, 0, 0, 0]) started = some (.accepted [.u8 1, .u16 101, .u8 1, .u8 1]) := by
  decide
theorem test_cancel_active_and_queued :
    answer (.cancelJob 9 [0, 0, 101]) started = some (.refused .wrongState 0) ∧
      answer (.cancelJob 10 [0, 0, 102]) started = some (.accepted [.u8 0, .u16 102, .u8 0]) := by decide
theorem test_drop_plan : answer (.dropPlan 11 [12]) started = some (.accepted [.u8 12, .u8 1]) := by decide
theorem test_replaced_when_free :
    answer (.loadPlan 13 ((planWire plan7).map Wire.bytes).flatten) idle = some (.accepted [.u8 7, .u8 1, .u8 2]) := by decide
theorem test_directory :
    answer (.readPlanDirectory 1) started = some (.accepted [.u8 2, .u8 7, .u8 2, .u8 12, .u8 0]) := by decide
theorem test_first_bad_field_of_a_plan :
    (({ plan7 with hardMin := 600 } : HolePlan).firstBad, ({ plan7 with maxCart := 1 } : HolePlan).firstBad,
      ({ plan7 with torqueLimit := some 309 } : HolePlan).firstBad, plan7.firstBad) = (some 15, some 20, some 28, none) := by
  decide

/-! ## Chapter 2: a hold during mixing -/

/-- Boom A held in MIX at q 76, the resin clock at `c`. -/
def heldMix (c : Nat) : State :=
  rig { state := .hold, resume := some .mix, causes := { presence := true }, q := 76, resinClock := c, resinRunning := true }

theorem test_presence_release_holds_mix :
    let t := run (.switchQualifiedChange (.prs .A)) (inStep { state := .mix, q := 76, resinClock := 3200, resinRunning := true })
    ((t.engine .A).state, (t.engine .A).resume, (t.engine .A).causes, (t.engine .A).record.map (·.flags.mixInterrupted),
      t.raised (.holdEntered .A), t.arb.grants) = (.hold, some .mix, { presence := true }, some true, true, []) := by decide
theorem test_resume_without_presence :
    let s := heldMix 4100
    answer (.resume 1 [0]) (s.setSwitch (.prs .A) {}) = some (.refused .interlock 4) := by decide
theorem test_resume_at_9800 :
    let t := run (.resume 1 [0]) (heldMix 9800)
    ((t.engine .A).state, (t.engine .A).record.map (·.mixQ), (t.engine .A).record.map (·.flags.mixShort), (t.engine .A).causes) =
      (.gelHold, some (some 76), some true, {}) := by decide
theorem test_resume_at_6000 :
    let t := run (.resume 1 [0]) (heldMix 6000)
    ((t.engine .A).state, (t.engine .A).q, (t.engine .A).record.map (·.flags.mixShort)) = (.mix, 76, some false) := by decide
theorem test_resume_at_34000 : ((run (.resume 1 [0]) (heldMix 34000)).engine .A).state = .torque := by decide
theorem test_resume_at_36000 :
    let t := run (.resume 1 [0]) (heldMix 36000)
    ((t.engine .A).state, (t.engine .A).record.map (·.outcome), (t.engine .A).record.map (·.torque)) =
      (.release, some (some .torqueSkipped), some none) := by decide
theorem test_gel_time_ends_in_torque :
    let t := run (.gelTimeExpiry .A) (inStep { state := .gelHold, resinClock := 20000, resinRunning := true })
    ((t.engine .A).state, (t.engine .A).torqueTimer, (t.engine .A).consecutive, (t.engine .A).highest) = (.torque, 0, 0, 0) := by
  decide

/-- A scan of boom A in TORQUE with estimate `x`. -/
def torqueScan (s : State) (x : Nat) : State := (s.setMotion .A { s.motion .A with torqueEst := x }).engineScan .A

theorem test_torque_scans_end_good :
    let t5 := [294, 301, 298, 304, 309].foldl torqueScan (inStep { state := .torque })
    let t6 := torqueScan t5 315
    ((t5.engine .A).state, (t5.engine .A).consecutive, (t5.engine .A).highest) = (.torque, 2, 309) ∧
      ((t6.engine .A).state, (t6.engine .A).record.map (·.outcome), (t6.engine .A).record.map (·.torque)) =
        (.release, some (some .good), some (some 315)) := by decide
theorem test_over_torque_at_derived_limit :
    let t := torqueScan (inStep { state := .torque }) 400
    (t.engine .A).record.map (·.outcome) = some (some .overTorque) := by decide
theorem test_mix_limit_is_short :
    let t := run (.mixLimitExpiry .A) (inStep { state := .mix, q := 119, resinClock := 8000, resinRunning := true })
    ((t.engine .A).state, (t.engine .A).record.map (·.flags.mixShort)) = (.gelHold, some true) := by decide
theorem test_pulse_completes_mix :
    let t := run (.rotationPulse .A) (pulsing (inStep { state := .mix, q := 119, resinClock := 5000, resinRunning := true }))
    ((t.engine .A).state, (t.engine .A).record.map (·.mixQ), (t.engine .A).record.map (·.flags.mixShort)) =
      (.gelHold, some (some 120), some false) := by decide
theorem test_drill_time_limit :
    let t := run (.drillTimeLimit .A) (inStep { state := .drill, drillTimer := 240000 })
    ((t.engine .A).state, (t.engine .A).lastFault, t.store.records.length) = (.faulted, some .stepTimeout, 1) := by decide
theorem test_torque_time_limit :
    let t := run (.torqueTimeLimit .A) (inStep { state := .torque, highest := 280 })
    ((t.engine .A).state, (t.engine .A).record.map (·.torque)) = (.release, some (some 280)) := by decide
theorem test_home_files_the_record :
    let t := run (.switchQualifiedChange (.home .A)) (inStep { state := .release })
    ((t.engine .A).state, t.store.records.map (·.tag), t.boomA.active, t.raised (.jobDone .A)) = (.idle, [101], none, true) := by
  decide
theorem test_park_while_drilling_and_mixing :
    ((run (.park 1 [0]) (inStep { state := .drill })).engine .A).state = .hold ∧
      ((run (.park 1 [0]) (inStep { state := .mix })).engine .A).state = .mix ∧
      ((run (.park 1 [0]) ready).engine .A).state = .parked := by decide
theorem test_unpark_makes_its_choice :
    ((run (.unpark 1 [0]) (run (.park 1 [0]) ready)).engine .A).state = .ready := by decide
theorem test_abort_fails_the_job :
    let t := run (.abort 1 [0]) (inStep { state := .push })
    ((t.engine .A).state, t.store.records.map (·.fault), t.raised (.jobFault .A)) = (.faulted, [some .aborted], true) := by decide
theorem test_clear_fault :
    ((run (.clearFault 1 [0]) (run (.abort 1 [0]) (inStep { state := .push }))).engine .A).state = .idle := by decide
theorem test_hold_twice :
    let t := run (.hold 2 [0]) ((inStep { state := .hold, resume := some .drill, causes := { link := true } }))
    (t.engine .A).causes = { host := true, link := true } := by decide
theorem test_bolt_loaded_begins_push :
    let t := run (.boltLoaded 1 [0]) (rig { state := .awaitBolt })
    ((t.engine .A).state, t.arb.grants.map (·.cls)) = (.push, [2]) := by decide
theorem test_jog_drives_one_pair :
    let t := run (.jog 9 [0, 1, 1, 1, 0x2C, 7, 0xD0]) ready
    ((t.pair (.boom .A .feed)).coil, (t.pair (.boom .A .feed)).duty, (t.pair (.boom .A .rot)).coil) =
      (.driving .second, 300, .off) := by decide
theorem test_jog_ends :
    let t := run (.jogDurationExpiry .A) (run (.jog 9 [0, 1, 1, 1, 0x2C, 7, 0xD0]) ready)
    ((t.pair (.boom .A .feed)).coil, t.arb.grants, (t.engine .A).jog) = (.off, [], none) := by decide
theorem test_read_boom_changes_no_boom : (run (.readBoom 1 [0]) ready).boomA = ready.boomA := by decide
theorem test_read_queue :
    answer (.readQueue 1 [0]) started =
      some (.accepted ([.u8 0x3F, .u16 101, .u8 7, .u16 1800, .u16 300, .u16 400, .u16 2] ++
        [.u8 1, .u8 1, .u16 102, .u8 7, .u8 1, .u16 1500, .u16 0, .u16 0])) := by decide

/-! ## Chapter 3: one hole on boom A -/

/-- A scan of the cut with published pressures `rot` and `feed`. -/
def scanAt (rot feed : Nat) (stamp : Timestamp) : ScanValues :=
  { rot := rot, feed := feed, rotFilt := rot, feedFilt := feed, stamp := stamp }

theorem test_contact_takes_collar_zero :
    let s := inStep { state := .collar, sub := .approach }
    let s := s.setAnalog .aFeed { value := some 400, filtered := some 400 }
    let s := { s.setMotion .A { s.motion .A with scanPos := 812 } with now := 40000 }
    let t := s.engineScan .A
    ((t.engine .A).sub, (t.logger .A).collarZero, (t.logger .A).slice.openedAt, (t.pair (.boom .A .rot)).coil) =
      (.cut, some 812, 40000, .driving .first) := by decide
theorem test_first_scans_of_the_cut :
    let l0 : Logger := { collarZero := some 812, slice := { openedAt := 40000 }, feedChoice := 600 }
    let l1 := l0.take plan7 1800 0 (scanAt 0 0 40002)
    let l2 := l1.pulse.take plan7 1800 1 (scanAt 904 596 40004)
    let l3 := (l2.take plan7 1800 1 (scanAt 0 0 40006)).pulse.take plan7 1800 1 (scanAt 0 0 40008)
    let l4 := l3.take plan7 1800 2 (scanAt 930 612 40010)
    l1 = l0 ∧ (l2.slice.n, l2.slice.rotSum, l2.slice.feedSum, l2.slice.q, l2.slice.time, l2.h) = (1, 904, 596, 1, 4, 1) ∧
      l3 = { l2 with tally := 1 } ∧
      (l4.slice.n, l4.slice.rotSum, l4.slice.feedSum, l4.slice.q, l4.slice.time, l4.h) = (2, 1834, 1208, 2, 10, 2) := by decide
theorem test_slice_0_is_firm :
    closingEntry plan7 { rotSum := 46000, feedSum := 30500, n := 50, q := 34, time := 1640 } 20 (scanAt 0 0 0) =
      { cls := .firm, se := 870, time := 1640, q := 34 } := by decide
theorem test_slices_that_matter :
    ([(520, 40, 300, 1180), (1650, 48, 900, 2900), (260, 6, 150, 96), (400, 20, 480, 88)].map (fun (pr, q, pf, time) =>
        let e := closingEntry plan7 { rotSum := pr, feedSum := pf, n := 1, q := q, time := time } 20 (scanAt 0 0 0)
        (e.se, e.cls, feedChoiceOf plan7 e.cls))) =
      [(512, .soft, 600), (1800, .hard, 450), (118, .void, 300), (425, .void, 300)] := by decide
theorem test_short_last_slice :
    closingEntry plan7 { index := 89, rotSum := 900, feedSum := 600, n := 1, q := 21, time := 60 } 10 (scanAt 0 0 0) =
      { cls := .firm, se := 965, time := 60, q := 21 } := by decide
/-- Slices 40 to 89 of the log of chapter 3, as far as their classes go. -/
def upperLog : List SliceEntry :=
  let runs : List (Nat × SliceClass) :=
    [(3, .hard), (1, .firm), (1, .soft), (10, .firm), (3, .void), (17, .firm), (2, .soft), (13, .firm)]
  (runs.map (fun x => List.replicate x.1 ({ cls := x.2, se := 0, time := 0, q := 0 } : SliceEntry))).flatten
set_option maxRecDepth 8000 in
theorem test_zone_sums :
    (upperLog.length, zoneSum .void 900 1800 40 upperLog, zoneSum .soft 900 1800 40 upperLog,
      zoneSum .soft 890 1790 40 upperLog) = (50, 60, 40, 50) := by decide
theorem test_required_fill :
    (requiredFill plan7 60 40, requiredFill plan7 60 50, requiredFill plan7 0 40) = (1140, 1155, 960) := by decide
theorem test_cartridge_count :
    cartridgeCount plan7 2 1140 = (3, false) ∧ cartridgeCount { plan7 with fill := 250 } 2 1140 = (4, true) ∧
      cartridgeCount { plan7 with fill := 1000 } 2 960 = (2, false) := by decide
/-- Boom A drilling at depth 623 of plan 7, at the face of slice 31. -/
def drilling : State :=
  let s := inStep { state := .drill }
  let s := s.setMotion .A { s.motion .A with feedPos := 1435, scanPos := 1435 }
  s.setLogger .A { collarZero := some 812, h := 623, slice := { index := 31 }, feedChoice := 600 }
/-- That boom with its feed pair driven up at the choice of the logger. -/
def feeding : State :=
  drilling.setPair (.boom .A .feed) { dir := some .first, duty := 600, applied := 600, last := some .first, coil := .driving .first }
set_option maxRecDepth 8000 in
/-- R22, R48: the cap is issued to the driven feed pair as the flag turns, by a channel and by stale head data. -/
theorem test_restricted_feed_is_reissued :
    let s := feeding.setAnalog .aFeed { value := some 100, filtered := some 100, count := 127 }
    let t := run (.scanGroupPublished (.g0 2000 0 0)) s
    let u := run (.headDataStale .A) { feeding with now := 1001 }
    ((t.pair (.boom .A .feed)).dir, (t.pair (.boom .A .feed)).duty, (u.pair (.boom .A .feed)).duty) =
      (some .first, 500, 500) := by decide
theorem test_jam_backs_off :
    let t := (drilling.setAnalog .aRot { value := some 2610, filtered := some 2610 }).engineScan .A
    ((t.engine .A).state, (t.engine .A).sub, (t.engine .A).backoffTarget, (t.pair (.boom .A .feed)).dir) =
      (.drill, .backoff, 1415, some .second) := by decide
theorem test_backoff_ends_at_target :
    let s := drilling.setEngine .A { drilling.engine .A with sub := .backoff, backoffTarget := 1415 }
    let t := (s.setMotion .A { s.motion .A with scanPos := 1415 }).engineScan .A
    ((t.engine .A).sub, (t.engine .A).retries, (t.pair (.boom .A .feed)).dir, (t.pair (.boom .A .feed)).duty) =
      (.none, 1, some .first, 600) := by decide

/-! ## Chapter 4: two booms on one pump -/

def demandOf (b : BoomId) (e : EngineState) (d : Nat) (stamp : Nat) : FlowReq :=
  { who := .boom b, purpose := .step e, cls := (Purpose.step e).cls, demand := d, stamp := stamp }
/-- The arbiter at the start of the sequence, and after each of its steps. -/
def flow0 : Arbiter := { budget := 80, grants := [demandOf .A .collar 40 16], counter := 16 }
def flow1 : Arbiter := (flow0.submit (.boom .A) (.step .drill) 45).pass.1
def flow2 : Arbiter := (flow1.submit (.boom .B) (.step .push) 20).pass.1
def flow3 : Arbiter := (flow2.submit (.boom .B) (.step .mix) 40).pass.1
def flow4 : Arbiter := (flow3.submit (.boom .B) (.step .gelHold) 5).pass.1
def flow5 : Arbiter := (flow4.setBudget 40).1.pass.1
def flow6 : Arbiter := (flow5.submit (.boom .B) (.step .torque) 30).pass.1
def flow7 : Arbiter := (flow6.submit (.boom .B) (.step .release) 25).pass.1
def flow9 : Arbiter := (flow7.setBudget 80).1.pass.1
theorem test_two_booms_on_one_pump :
    (flow2.grants, flow2.free) = ([demandOf .A .drill 45 17, demandOf .B .push 20 18], 15) ∧
      (flow3.grants, flow3.free, flow3.waits.map (·.req)) = ([demandOf .B .mix 40 19], 40, [demandOf .A .drill 45 17]) ∧
      (flow4.grants, flow4.free) = ([demandOf .B .gelHold 5 20, demandOf .A .drill 45 17], 30) ∧
      (flow5.grants, flow5.free, flow5.waits.map (·.req)) =
        ([demandOf .B .gelHold 5 20], 35, [demandOf .A .drill 45 17]) := by decide
theorem test_release_waits_behind_the_head :
    (flow6.grants, flow6.free) = ([demandOf .B .torque 30 21], 10) ∧
      (flow7.grants, flow7.free, flow7.waits.map (·.req)) =
        ([], 40, [demandOf .A .drill 45 17, demandOf .B .release 25 22]) ∧
      (flow9.grants, flow9.free) = ([demandOf .A .drill 45 17, demandOf .B .release 25 22], 10) := by decide
set_option maxRecDepth 8000 in
theorem test_budget_request_preempts :
    let s := { idle with arb := flow4 }
    answer (.setPumpBudget 5 [0, 40]) s = some (.accepted [.u8 40, .u8 1, .u8 35]) ∧
      answer (.setPumpBudget 5 [0, 19]) s = some (.accepted [.u8 20, .u8 1, .u8 15]) := by decide
theorem test_starved_mark :
    let t := run (.flowStarved (.boom .A)) { idle with arb := flow5 }
    (t.arb.waits.map (·.starved), t.raised (.flowStarved .A)) = ([true], true) := by decide
theorem test_read_flow :
    answer (.readFlow 1 []) { idle with arb := flow0 } =
      some (.accepted [.u8 80, .u8 40, .u8 40, .u16 20000, .u8 1, .u8 0, .u8 6, .u8 3, .u8 40, .u16 16, .u8 0]) := by decide

/-! ## Chapter 5: a loss during drilling -/

/-- A calibration of chapter 5: set level 1200, lost level 900, raise demand 60. -/
def calibrated : CalStore :=
  { State.reset.cal with
    absent := false
    working := (((calDefaults.set 48 60).set 51 1200).set 52 900).set 83 800 }
/-- The canopy channel at `x`, at timestamp `n`. -/
def canopyAt (s : State) (x : Int) (n : Nat) : State :=
  ({ s with cal := calibrated, now := BitVec.ofNat 32 n }.setAnalog .canopy { good := true, value := some x, filtered := some x }).canopyScan

theorem test_canopy_lost_after_200_ms :
    let t1 := canopyAt (inStep { state := .drill }) 880 1500
    let t2 := canopyAt t1 930 1600
    let t3 := canopyAt t2 860 1650
    let t4 := canopyAt t3 850 1850
    (t1.canopy.lossRun, t2.canopy.lossRun, t3.canopy.lossRun, t3.canopy.state) = (some 1500, none, some 1650, .set) ∧
      (t4.canopy.state, t4.raised .canopyLost, (t4.engine .A).state, (t4.engine .A).causes, t4.arb.grants) =
        (.lost, true, .hold, { canopy := true }, []) := by decide
/-- The rig of the sequence at 2000: boom A held, boom B jogging in FAULTED, the canopy LOST. -/
def sagged : State :=
  let s := rig { state := .hold, resume := some .drill, causes := { canopy := true } }
  { s with
    cal := calibrated, now := 2000
    canopy := {}
    boomB := boomWith { state := .faulted, jog := some { fn := .feed, dir := .second, duty := 300, left := 1300 } }
    arb :=
      { budget := 70, counter := 5
        grants := [{ who := .boom .B, purpose := .jog .feed, cls := 4, demand := 15, stamp := 5 }] } }
theorem test_raise_preempts_the_jog :
    let t := run (.canopyRaise 1 []) sagged
    (t.canopy.state, t.arb.grants.map (·.who), t.arb.free, t.canopyPair.coil, t.canopyPair.monitor) =
        (.raising, [.canopy], 10, .driving .first, .armed 800 0 false) ∧
      t.arb.waits.map (·.req.who) = [.boom .B] := by decide
theorem test_raise_too_large_preempts_nothing :
    let t := run (.canopyRaise 1 []) { sagged with arb := { sagged.arb with budget := 50 } }
    (t.canopy.state, t.arb.grants.map (·.who), t.arb.waits.map (·.req.who), t.canopyPair.monitor) =
      (.raising, [.boom .B], [.canopy], .disarmed) := by decide
theorem test_canopy_set_after_500_ms :
    let t1 := canopyAt (run (.canopyRaise 1 []) sagged) 1210 2900
    let t2 := canopyAt t1 1240 3400
    (t1.canopy.setRun, t1.canopyPair.monitor, t2.canopy.state, t2.canopyPair.coil, t2.raised .canopySet) =
      (some 2900, .disarmed, .set, .off, true) := by decide
theorem test_lower_kept_by_an_engaged_boom :
    answer (.canopyLower 1 []) (inStep { state := .drill }) = some (.refused .interlock 11) := by decide
theorem test_lower_begins :
    let t := run (.canopyLower 1 []) { idle with canopy := { state := .set } }
    (t.canopy.state, t.canopyPair.coil, t.canopyPair.duty) = (.lowering, .driving .second, 500) := by decide
theorem test_lower_timeout :
    let s := run (.canopyLower 1 []) idle
    let t := run .canopyLowerTimeout s
    (t.canopy.state, t.canopy.fault, t.raised .canopyFault, t.canopyPair.coil) = (.fault, .lowerTimeout, true, .off) := by decide

/-! ## Chapter 6: a backoff on A-FEED -/

/-- A-FEED driving UP at 600, applied 660. -/
def feedUp : Pair :=
  { dir := some .first, duty := 600, applied := 660, coil := .driving .first, last := some .first
    pulse := { duty := 660, period := 10 } }
theorem test_applied_duties :
    (appliedDuty 150 600, appliedDuty 100 700, appliedDuty 150 300, appliedDuty 150 450, appliedDuty 150 0) =
      (660, 730, 405, 532, 0) := by decide
theorem test_reversal_waits_out_the_dead_time :
    let p := (feedUp.record (.drive .second 300 .none) 150 400 0).settle true 120 10
    (p.coil, p.dead, p.applied, p.monitor) = (.dead, 120, 405, .disarmed) ∧
      (({ p with dead := 0 } : Pair).settle true 120 10).coil = .driving .second ∧
      (({ p with dead := 0 } : Pair).settle true 120 10).pulse.onTime = 4050 := by decide
theorem test_gate_closes_over_a_dead_pair :
    let p : Pair := { feedUp with coil := .dead, last := some .second, dead := 60 }
    let q := p.settle false 120 10
    (q.coil, q.dir, q.dead) = (.off, some .first, 60) ∧
      ((q.record (.off false) 150 400 0).settle false 120 10).dir = none := by decide
theorem test_same_direction_drives_at_once :
    let p : Pair := { last := some .first, dead := 140 }
    let q := (p.record (.drive .first 700 .arm) 100 300 0).settle true 200 8
    (q.coil, q.dead, q.applied, q.monitor) = (.driving .first, 0, 730, .armed 300 0 false) := by decide
theorem test_estop_latches :
    let t := run (.switchQualifiedChange .estop) (inStep { state := .drill })
    (t.trip, (t.engine .A).state, (t.engine .A).causes, t.raised .tripLatched) = (true, .hold, { trip := true }, true) := by decide
theorem test_clear_trip :
    answer (.clearTrip 1 []) { idle with trip := true } = some (.accepted [.u8 1]) ∧
      answer (.clearTrip 1 []) { idle with trip := true, estop := on } = some (.refused .interlock 12) := by decide
/-- R113: with the latch already clear nothing changes, also where a dead time stands at its end. -/
theorem test_clear_trip_of_a_clear_latch :
    let p : Pair := { dir := some .first, last := some .second, coil := .dead }
    let t := run (.clearTrip 1 []) { idle with canopyPair := p }
    t.canopyPair = p ∧ t.link.reply.map (·.answer) = some (.accepted [.u8 0]) := by decide
theorem test_dead_time_ends :
    let s := (inStep { state := .drill }).setPair (.boom .A .feed) { feedUp with coil := .dead, last := some .second }
    ((run (.deadTimeExpiry (.boom .A .feed)) s).pair (.boom .A .feed)).coil = .driving .first := by decide
theorem test_feed_monitor_expiry_faults_retract :
    let s := (inStep { state := .retract }).setPair (.boom .A .feed) { feedUp with monitor := .armed 0 0 false }
    let t := run (.motionMonitorExpiry (.boom .A .feed)) s
    ((t.engine .A).state, (t.engine .A).lastFault, (t.pair (.boom .A .feed)).coil) = (.faulted, some .feedNoResponse, .off) := by
  decide
theorem test_line_must_stand_to_qualify :
    let t1 := run (.switchLineChange .clow true) idle
    let t2 := run (.switchLineChange .clow false) t1
    (t1.clow.run, t1.clow.level, t2.clow.run) = (some 0, false, none) := by decide
theorem test_pulse_qualifies_once :
    let line (x : Bool) := run (.rotationPickupLineChange .A x)
    let t := run (.rotationPulse .A) (line true idle)
    let u := run (.rotationPulse .A) (line true (run (.rotationPickupReturn .A) (line false t)))
    ((t.motion .A).pulses, ((run (.rotationPulse .A) t).motion .A).pulses, (u.motion .A).pulses) = (1, 1, 2) ∧
      ((run (.rotationPulse .A) idle).motion .A).pulses = 0 := by decide
/-- R118: the pulse qualify time is in tenths of a millisecond; 5 tenths are over after one whole one (log 23). -/
theorem test_pickup_run_is_timed :
    let s := { run (.rotationPickupLineChange .A true) idle with bus := { pollTimer := 100 } }
    s.due = none ∧ (s.motion .A).pickup.run = some 0 ∧ (s.tick.motion .A).pickup.run = some 10 ∧
      s.tick.due = some (.rotationPulse .A) := by decide
set_option maxRecDepth 8000 in
/-- R124, R134: a count before the sampling instant of its boom's own group is in that scan's record, one after it is seen at the
next scan. -/
theorem test_position_is_latched_at_its_own_group :
    let s := run (.encoderCount .B true false) (run (.scanGroupPublished (.g0 2000 2000 0)) { idle with now := 1 }.tick)
    let t := run (.scanGroupPublished (.g1 2000 2000 0)) s
    let u := run (.scanGroupPublished (.g1 2000 2000 1)) s
    (s.scan, (s.motion .B).feedPos, (t.motion .B).scanPos, (u.motion .B).scanPos) =
        ({ done := 1, leftA := [], leftB := [0] }, 1, 1, 0) ∧
      ((run (.scanGroupPublished (.g1 2000 2000 1)) u).motion .B).scanPos = 1 := by decide

/-! ## Chapter 7: conversion, filter, torque, health -/

theorem test_pressure_table :
    (pressure 2000 640 6000, pressure 500 640 6000, pressure 640 640 6000, pressure 4000 0 8191) = (1992, 0, 0, 4000) ∧
      (goodSample 300, goodSample 320, goodSample 4032, goodSample 4050) = (false, true, true, false) := by decide
theorem test_oil_table : (oilTemp 1200 400 900, oilTemp 350 400 900, oilTemp 4000 400 900) = (135, -40, 150) := by decide
theorem test_filter_table :
    (filterStep 1000 1400 3, filterStep 1050 1400 3, filterStep 1093 1400 3, filterStep 1131 1400 3, filterStep 1393 1400 3,
      filterStep 1393 1000 3, filterStep 1007 1000 3) = (1050, 1093, 1131, 1164, 1393, 1344, 1007) := by decide
theorem test_torque_table :
    (torqueEstimate 1480 120 48, torqueEstimate 1720 120 48, torqueEstimate 100 120 48, torqueEstimate 4000 0 1023) =
      (255, 300, 0, 1000) := by decide
/-- The feed channel of boom B in the sequence of chapter 7: filter shift 2, a sample of raw `r` and value `x`. -/
def cable (c : Analog) (r : RawSample) (x : Int) : Analog := c.sample .bFeed 2 r x
set_option maxRecDepth 8000 in
theorem test_chafed_cable :
    let c : Analog := { value := some 812, filtered := some 808 }
    let c16 := (List.replicate 16 ()).foldl (fun c _ => cable c 140 0) c
    let c17 := cable c16 2000 806
    let c34 := (List.replicate 17 ()).foldl (fun c _ => cable c 140 0) c17
    (c16.count, c16.health, c16.value, c16.filtered) = (128, .degraded, some 812, some 808) ∧
      (c17.count, c17.health, c17.value, c17.filtered) = (127, .suspect, some 806, some 808) ∧
      (c34.count, c34.health, c34.valid, c34.value) = (256, .failed, false, some 806) := by decide
theorem test_restore_completes :
    let c : Analog := { value := some 806, filtered := some 808, count := 256, restore := some 127 }
    let t := cable c 2000 794
    (t.count, t.restore, t.value, t.filtered, t.valid) = (0, none, some 794, some 805, true) ∧
      (cable c 140 0).restore = some 0 := by decide
set_option maxRecDepth 8000 in
theorem test_restore_request :
    answer (.restoreChannel 1 [3]) (idle.setAnalog .bFeed { count := 256 }) = some (.accepted [.u8 3, .u8 0]) ∧
      answer (.restoreChannel 1 [3]) idle = some (.refused .wrongState 0) ∧
      answer (.restoreChannel 1 [9]) idle = some (.refused .badField 1) := by decide
theorem test_encoder_counts :
    let t := run (.encoderCount .A true false) idle
    ((t.motion .A).feedPos, ((run (.encoderCount .A false false) t).motion .A).feedPos,
      ((run (.encoderCount .A false true) t).motion .A).feedPos) = (1, 0, 1) := by decide
set_option maxRecDepth 8000 in
theorem test_failed_feed_faults_the_boom :
    let s := (inStep { state := .drill }).setAnalog .aFeed { value := some 800, filtered := some 800, count := 255 }
    let t := run (.scanGroupPublished (.g0 2000 140 0)) s
    ((t.engine .A).state, (t.engine .A).lastFault, t.raised (.channel (.analog .aFeed) .failed)) =
      (.faulted, some .channelFailed, true) := by decide

/-! ## Chapter 8: a fitter's session on the boom A head -/

/-- Boom A in READY, both modules published, the round of 10000 begun. -/
def session : State :=
  { ready with
    now := 10000
    bus := { schedule := .polling, pollTimer := 100, round := some .A, txn := some (pollRead .A) }
    boomA := { ready.boomA with head := headAt 9901 }
    boomB := { ready.boomB with head := headAt 9902 } }
/-- A GOOD status block: 20 °C, vacuum 300, contact yes, with its count and check byte. -/
def goodBlock : List Byte := [0x05, 0x40, 0x3C, 0x01, 0x2C, 0x01, 0x51]
set_option maxRecDepth 8000 in
theorem test_pause_waits_for_the_read :
    let t := run (.headBusPause 1 []) session
    let u := run (.headTransactionEnd (.returned goodBlock)) { t with now := 10001 }
    answer (.headBusPause 1 []) session = some (.accepted [.u8 0]) ∧
      (u.bus.schedule, u.bus.round, (u.head .A).published, (u.head .B).published) =
        (.paused, none, some 10001, some 9902) := by decide
theorem test_manual_ping :
    let s := { session with bus := { schedule := .paused } }
    let t := run (.headBusTransact 1 [0, 0x2A]) s
    let u := run (.headTransactionEnd (.returned [])) t
    (t.bus.manual.result, u.bus.manual.result, u.head .A == s.head .A) = (.inProgress, .done [], true) := by decide
theorem test_manual_timeout_is_no_sample :
    let t := run (.headBusTransact 1 [2, 0x2A, 0x31, 2, 0, 0]) { session with bus := { schedule := .paused } }
    let u := run .headBusTimeout t
    (u.bus.manual.result, (u.head .A).count, u.raised .headPollError) = (.error .timeout none, 0, false) := by decide
theorem test_manual_busy_block_holds_the_data :
    let t := run (.headBusTransact 1 [1, 0x2B, 0x10]) { session with bus := { schedule := .paused } }
    let u := run (.headTransactionEnd (.returned [5, 0x80, 0, 0, 0, 0, 0x7B])) t
    (u.bus.manual.result, (u.head .B).published) = (.done [0x80, 0, 0, 0, 0], some 9902) := by decide
theorem test_kill :
    let t := run (.headBusTransact 1 [1, 0x2A, 0x10]) { session with bus := { schedule := .paused } }
    answer (.headBusKill 1 []) t = some (.accepted [.u8 1]) ∧ answer (.headBusKill 1 []) session = some (.accepted [.u8 0]) ∧
      (run (.headBusKill 1 []) t).bus.manual.result = .error .killed none := by decide
theorem test_transact_refusals :
    answer (.headBusTransact 1 [0, 0x2A]) session = some (.refused .busy 0) ∧
      answer (.headBusTransact 1 [3, 0x2A]) session = some (.refused .badField 1) ∧
      answer (.headBusTransact 1 [0, 0x80]) session = some (.refused .badField 2) := by decide
set_option maxRecDepth 8000 in
theorem test_head_data_stale_restricts :
    let t := run (.headDataStale .B) { session with now := 10903 }
    ((t.head .B).stale, (t.engine .B).restricted, t.raised (.restricted .B)) = (true, true, true) ∧
      ((run (.headDataStale .B) { session with now := 10902 }).head .B).stale = false := by decide
theorem test_bus_resume_begins_a_round :
    let t := run (.headBusResume 1 []) { session with bus := { schedule := .paused } }
    (t.bus.schedule, t.bus.round, t.bus.txn) = (.polling, some .A, some (pollRead .A)) := by decide
theorem test_poll_errors :
    let t := run (.headTransactionEnd .noAck) session
    ((t.head .A).lastPoll, (t.head .A).count, t.raised .headPollError, t.bus.round) =
      (some .noAck, 8, true, some .B) := by decide
theorem test_poll_timer_begins_a_round :
    ((run .pollTimerExpiry { session with bus := { pollTimer := 0 } }).bus.round,
      (run .pollTimerExpiry { session with bus := { schedule := .paused } }).bus.round) = (some .A, none) := by decide

/-! ## Chapter 9: one cartridge through the ring in hop mode, and the strokes -/

/-- Boom A in its strokes away from home, baselines 5200, 4800 and 6100, threshold 150, magazine 5. -/
def ring : State :=
  let s := inStep { state := .insert, leg := some .advance, n := some 3 }
  let s := { s with cal := { s.cal with working := calDefaults.set 93 150 } }
  s.setSensing .A
    { threshold := 150, s1 := { baseline := some 5200 }, s2 := { baseline := some 4800 }, s3 := { baseline := some 6100 }, magazine := 5 }
theorem test_cartridge_through_the_ring :
    let t3 := [5195, 4610, 5700].foldl (fun s c => run (.cartridgeMeasurementEnd .A c) s) ring
    let t6 := [4900, 4790, 6090].foldl (fun s c => run (.cartridgeMeasurementEnd .A c) s) t3
    ((t3.sensing .A).present, (t3.sensing .A).s1.mark, (t3.sensing .A).s2.mark, (t3.sensing .A).s3.mark) =
        (true, false, true, true) ∧
      ((t6.sensing .A).present, (t6.sensing .A).passages, (t6.sensing .A).magazine, (t6.engine .A).tally) =
        (false, 1, 4, 1) := by decide
/-- A stroke of boom A that saw `tally` passages comes home. -/
def strokeHome (s : State) (tally : Nat) : State :=
  let e := s.engine .A
  let s := s.setEngine .A { e with leg := some .back, tally := tally, passed := e.passed + tally }
  run (.switchQualifiedChange (.ihome .A)) (s.setSwitch (.ihome .A) {})
theorem test_three_cartridges :
    let t2 := strokeHome (strokeHome ring 1) 2
    let t3 := strokeHome t2 0
    let t4 := strokeHome t3 1
    ((t2.engine .A).completed, (t2.engine .A).record.map (·.flags.resinExtra)) = (2, some true) ∧
      ((t3.engine .A).restrokes, (t3.engine .A).completed, (t3.engine .A).leg) = (1, 2, some .advance) ∧
      ((t4.engine .A).state, (t4.engine .A).record.map (·.passed), t4.raised (.boltNeeded .A)) =
        (.awaitBolt, some (some 4), true) := by decide
theorem test_third_empty_stroke_faults :
    let t := strokeHome (strokeHome (strokeHome ring 0) 0) 0
    ((t.engine .A).state, (t.engine .A).lastFault) = (.faulted, some .resinFeed) := by decide
theorem test_magazine_loaded :
    let s := (rig { state := .insert, sub := .awaitingResin, n := some 3 }).setSensing .A { magazine := 2 }
    answer (.magazineLoaded 1 [0, 23]) s = some (.accepted [.u8 0, .u8 24, .u8 1]) ∧
      ((run (.magazineLoaded 1 [0, 1]) s).engine .A).sub = .none := by decide

/-! ## Chapter 10: a sagging canopy -/

/-- Monitor 3 of the sequence, as SET MONITOR carries it: source VALUE 5, BELOW, 1050, 950, 40, HORN, HORN and HOLD_ANY, BOTH. -/
def sagRequest : List Byte := [3, 0, 5, 1, 0x04, 0x1A, 0x03, 0xB6, 0, 40, 1, 5, 2]
def sagMonitor : Monitor := { cfg := monitorOf sagRequest }
theorem test_sagging_canopy :
    let m2 := [1100, 1040].foldl Monitor.tested sagMonitor
    let m4 := [1070, 960].foldl Monitor.tested m2
    let m6 := [940, 985].foldl Monitor.tested m4
    let m7 := m6.tested 995
    ([m2, m4, m6, m7, m7.tested 1095].map (fun m => (m.status, m.warnSeen, m.tripSeen, m.sounds))) =
      [(.warn, true, false, true), (.warn, true, false, true), (.trip, true, true, true), (.warn, true, true, true),
        (.normal, true, true, false)] := by decide
theorem test_steeper_fall :
    let s := inStep { state := .drill }
    let s := { s with monitors := s.monitors.set 3 sagMonitor }
    let t := (s.setAnalog .canopy { value := some 930 }).publish [.value .canopy]
    ((t.monitor 3).status, t.raised (.monitor 3 false), t.raised (.monitor 3 true), (t.engine .A).state,
      (t.engine .A).causes, t.horn) = (.trip, true, true, .hold, { monitor := true }, true) := by decide
theorem test_resume_under_a_tripped_monitor :
    let s := heldMix 9800
    let s (l : Level) := { s with monitors := s.monitors.set 3 { sagMonitor with status := l } }
    answer (.resume 1 [0]) (s .trip) = some (.refused .interlock 9) ∧
      answer (.resume 1 [0]) (s .warn) = some (.accepted [.u8 10]) := by decide
theorem test_clear_latch :
    let m := { sagMonitor with warnSeen := true, tripSeen := true }
    answer (.clearMonitorLatch 1 [3]) { idle with monitors := idle.monitors.set 3 m } =
        some (.accepted [.u8 1, .u8 1, .u8 1, .u8 0, .u8 0]) ∧
      answer (.clearMonitorLatch 1 [3]) { idle with monitors := idle.monitors.set 3 { m with status := .warn } } =
        some (.accepted [.u8 1, .u8 1, .u8 1, .u8 1, .u8 0]) := by decide
theorem test_set_monitor :
    (run (.setMonitor 1 sagRequest) idle).monitor 3 = sagMonitor ∧
      answer (.setMonitor 1 (sagRequest.set 7 0x1B)) idle = some (.accepted [.u8 3, .u8 0, .u8 0, .u8 0]) ∧
      answer (.setMonitor 1 (sagRequest.set 3 0)) idle = some (.refused .badField 6) := by decide

/-! ## Chapter 11: two booms against a full store -/

/-- Records 65533 to 4, with next number 5; boom A drilling or releasing with engine `e`, boom B drilling job 211. -/
def full (e : Engine) : State :=
  let s := inStep e
  { s with
    store :=
      { next := 5
        records := [65533, 65534, 65535, 0, 1, 2, 3, 4].map (fun n => { record101 with number := some n }) }
    boomB :=
      { boomWith { state := .drill, record := some { record101 with boom := .B, tag := 211 } } with active := some job101 } }
/-- After steps 1 and 2: A's record and then B's wait for room. -/
def waiting : State :=
  let s := run (.switchQualifiedChange (.home .A)) (full { state := .release })
  run (.drillTimeLimit .B) { s with arb := { budget := 100, counter := 9, grants := [demandOf .B .drill 20 9] } }
theorem test_full_store_makes_the_booms_wait :
    (waiting.store.room, (waiting.engine .A).state, (waiting.engine .B).state, waiting.raised .storeFull) =
        ([.A, .B], .filing, .faulted, true) ∧
      answer (.clearFault 3 [1]) waiting = some (.refused .wrongState 0) ∧
      answer (.abort 4 [0]) waiting = some (.refused .wrongState 0) := by decide
theorem test_release_files_the_room_queue :
    let t := run (.releaseRecord 6 [0xFF, 0xFD]) waiting
    (t.store.records.map (·.number), t.store.next, t.store.room, (t.engine .A).state, t.raised (.jobDone .A)) =
        ([65534, 65535, 0, 1, 2, 3, 4, 5].map some, 6, [.B], .idle, true) ∧
      answer (.releaseRecord 7 [0xFF, 0xFD]) t = some (.refused .badField 1) := by decide
theorem test_second_release_files_boom_b :
    let t := run (.releaseRecord 8 [0xFF, 0xFE]) (run (.releaseRecord 6 [0xFF, 0xFD]) waiting)
    (t.store.next, t.store.room, (t.engine .B).record, (t.engine .B).state) = (7, [], none, .faulted) ∧
      answer (.clearFault 9 [1]) t = some (.accepted []) := by decide
set_option maxRecDepth 8000 in
theorem test_page_count_of_90_slices :
    let r := { record101 with number := some 5, log := List.replicate 90 { cls := .firm, se := 870, time := 1640, q := 34 } }
    (1 + (r.log.length + 31) / 32, ((r.slicePage 1).map Wire.bytes).flatten.length, (r.slicePage 3).take 2) =
      (4, 2 + 6 * 32, [.u8 64, .u8 26]) := by decide

/-! ## Chapter 12: the link, the calibration store and start-up -/

theorem test_defaults_pass : calFirstBad calDefaults = none ∧ calDefaults.length = 96 := by decide
theorem test_lost_level_below_set_level :
    calFirstBad (calDefaults.set 52 1000) = some 53 ∧ calFirstBad (calDefaults.set 95 99) = some 96 ∧
      calFirstBad (calDefaults.set 95 0) = none := by decide
set_option maxRecDepth 8000 in
theorem test_set_link :
    answer (.setLink 1 [0, 50]) idle = some (.accepted [.u16 100]) ∧
      answer (.setLink 1 [0xFF, 0xFF]) idle = some (.accepted [.u16 5000]) ∧
      answer (.setLink 1 [0, 0]) idle = some (.accepted [.u16 0]) := by decide
theorem test_identify :
    answer (.identify 1 []) idle =
      some (.accepted [.u8 0x49, .u16 0x0240, .u8 1, .u8 16, .u8 4, .u8 8, .u8 120, .u8 12, .u8 0]) := by decide
theorem test_read_events_clears :
    let s := (idle.raise (.jobDone .A)).raise (.monitor 11 true)
    answer (.readEvents 1 []) s =
        some (.accepted [.u8 1, .u8 0, .u8 0, .u8 0, .u8 0, .u8 0, .u8 0, .u8 0, .u8 0, .u8 0, .u8 0, .u8 0x80]) ∧
      (run (.readEvents 1 []) s).events = 0 := by decide
theorem test_link_loss_parks :
    let t := run .linkSilent (inStep { state := .drill })
    (t.link.live, t.raised .linkLost, (t.engine .A).state, (t.engine .A).causes, (t.engine .A).park, (t.engine .B).state) =
      (false, true, .hold, { link := true }, true, .parked) := by decide
theorem test_store_confirmed :
    let t := run .storeWriteConfirmed { idle with cal := { idle.cal with writing := some [1, 258] } }
    (t.cal.image, t.cal.copyValid, t.cal.writing, t.raised .storeDone) = ([0, 1, 1, 2], true, none, true) := by decide
theorem test_store_fails :
    let t := run .storeWriteTimeout (run (.storeCalibration 1 []) idle)
    (t.cal.copyValid, t.cal.last, t.raised .storeFailed, t.freeCount) = (false, .failed, true, 1) := by decide
theorem test_warm_reset_keeps :
    let t := run .warmReset (started.raise .storeDone)
    (t.plans.map (·.id), t.boomA.active, t.boomA.queue, (t.engine .A).state, t.events, t.trip) =
      ([7, 12], none, [], .idle, 0, false) := by decide
theorem test_power_on :
    let t := run (.powerOnReset true false) started
    (t.phase, t.plans, t.trip, t.link.strap, t.cal.absent, t.events) = (.loading, [], true, 2, true, 0) := by decide
theorem test_reset_is_due_once_answered :
    let s := { idle with link := { idle.link with sending := true, resetStage := .replying } }
    let u := { idle with link := { idle.link with resetStage := .due } }
    exec .replySent s = .next u ∧ u.takesFrames = false := ⟨rfl, rfl⟩
theorem test_reading_requests :
    [Instr.readStatus 1 [], .readChannels 1 [], .readMonitors 1 [], .headBusResult 1 [], .readCalibration 1 []].all
      (fun i => match answer i idle with
        | some (.accepted _) => true
        | _ => false) = true := by decide
theorem test_step_takes_the_front :
    step { idle with pending := [.identify 1 [], .replySent] } = exec (.identify 1 []) { idle with pending := [.replySent] } := by
  rfl

/-! ## Witnesses: for each obligation with hypotheses, states and operands that meet them -/

/-- `s` once its reply has gone out. -/
def sent (s : State) : State := { s with link := { s.link with sending := false } }
/-- The rig with nothing due: the poll timer stands at 100. -/
def quiet : State := { idle with bus := { pollTimer := 100 } }

theorem witness_StepRunsFrontCommand : ({ idle with pending := [.warmReset] } : State).pending = .warmReset :: [] := rfl
theorem witness_EmptyQueueTakesDueEventOrMillisecond :
    (idle.pending = [] ∧ idle.due = some .pollTimerExpiry) ∧
      (∀ s ∈ [{ quiet with phase := .loading }, { quiet with phase := .loading, loadTimer := 19 }],
        s.pending = [] ∧ s.due = none ∧ s.phase = .loading) ∧
      ({ quiet with phase := .loading, loadTimer := 20 } : State).due = some .powerOnLoadComplete ∧
      (∀ s ∈ [quiet, { quiet with now := 1 }], s.pending = [] ∧ s.due = none ∧ s.phase = .running) ∧
      ((quiet.now + 1).toNat % 2 = 1 ∧ ((1 : Timestamp) + 1).toNat % 2 = 0) ∧
      ({ quiet with link := { quiet.link with resetStage := .due } } : State).due = some .warmReset ∧
      let p : Pair :=
        { dir := some .first, coil := .driving .first, last := some .first, monitor := .armed 5 0 false
          pulse := { duty := 300, period := 10, elapsed := 9 } }
      let s := quiet.setPair .canopy p
      s.due = none ∧ (s.pair .canopy).counting = true ∧ (s.pair .canopy).monitor = .armed 5 0 false ∧
        (s.pair .canopy).coil = .driving .first ∧ (s.pair (.boom .A .rot)).counting = false ∧
        ∀ d ∈ [Dir.first, .second], (s.pair (.boom .A .rot)).coil ≠ .driving d := by decide
theorem witness_EveryFrameAnswered :
    (∀ i ∈ [Instr.start 1 [0], .readEvents 1 [], .unknownCode 1 0x2C []],
      (encodeFrame i).isSome = true ∧ i.wellFormed = true) ∧ idle.takesFrames = true := by decide
theorem witness_RefusedBeforeTheBlock :
    idle.takesFrames = true ∧
      (encodeFrame (.start 1 []) = some ⟨1, 0x0C, []⟩ ∧ (Instr.start 1 []).wellFormed = true ∧
        catalogueLength 0x0C = some 1 ∧ ([] : List Byte).length ≠ 1) ∧
      (encodeFrame (.hold 1 [2]) = some ⟨1, 0x0D, [2]⟩ ∧ (Instr.hold 1 [2]).wellFormed = true ∧
        catalogueLength 0x0D = some ([2] : List Byte).length ∧ 2 ≤ (([2] : List Byte).headD 0).toNat) ∧
      ([] : List Byte).length ≤ 250 ∧ 0x2C ≤ (0x2C : Byte).toNat := by decide
theorem witness_FrameRoundTrip :
    (∀ i ∈ [Instr.readPlanDirectory 6, .readPlan 6 [1], .jog 9 [0, 1, 1, 1, 0x2C, 7, 0xD0], .unknownCode 0 0 [0xC3]],
      i.wellFormed = true ∧ (encodeFrame i).isSome = true) ∧
      ((([Wire.u8 1, .u16 101, .s16 (-1)] : List Wire).map Wire.bytes).flatten).length ≤ 249 ∧
      ∀ x ∈ [(0, Reason.badLength), (12, .empty)],
        [Reason.badLength, .unknownCode, .badField, .noPlan, .planInUse, .planTableFull, .queueFull, .duplicateTag, .noJob,
          .wrongState, .interlock, .busy, .empty][x.1]? = some x.2 := by decide
set_option maxRecDepth 8000 in
theorem witness_DiscardedFrameHasNoEffect :
    (encodeFrame (.identify 1 []) = some ⟨1, 1, []⟩ ∧ started.link.sending = true) ∧
      (idle.takesFrames = true ∧ (idle.link.receiver.feed [0xC3, 0x00, 0x55, 0x17, 0xF0, 0x75]).2 = []) ∧
      (([] : List Byte).length ≤ 250 ∧
        (0xF0 : Byte).toNat * 256 + (0x75 : Byte).toNat ≠ (crc16 (BitVec.ofNat 8 0 :: 0x55 :: 0x17 :: [])).toNat) ∧
      250 < (251 : Byte).toNat := by decide
theorem witness_LinkRequestsServed :
    idle.takesFrames = true ∧ started.link.sending = true ∧
      ((Event.monitor 11 true).bit < 96 ∧ (Event.monitor 0 false).bit < 96 ∧ (Event.jobDone .A).bit < 96) ∧
      ({ started with link := { started.link with resetStage := .replying } } : State).link.resetStage = .replying ∧
      ([(0, 0), (0, 99), (0, 100), (0x13, 0x88), (0x13, 0x89)].map (fun x : Byte × Byte =>
        let v := x.1.toNat * 256 + x.2.toNat
        if v = 0 then 0 else if v < 100 then 100 else if v ≤ 5000 then v else 5000)) = [0, 100, 100, 5000, 5000] := by decide
theorem witness_WarmResetClearsAndKeeps : started.phase = .running ∧ started.cal.writing = none := by decide
theorem witness_LinkSilenceParksBooms :
    drilling.phase = .running ∧ drilling.link.live = true ∧ drilling.link.timeout ≠ 0 := by decide
theorem witness_ReadsChangeNothing :
    idle.takesFrames = true ∧ ((7 : Byte) ≠ 0 ∧ findPlan idle.plans (7 : Byte).toNat = some plan7) ∧
      (255 : Byte) ≠ 0 ∧ findPlan idle.plans (255 : Byte).toNat = none := by decide
/-- A store whose oldest record has a log of `n` entries. -/
def logged (n : Nat) : State :=
  { idle with store := { records := [{ record101 with log := List.replicate n { cls := .firm, se := 900, time := 400, q := 8 } }] } }
theorem witness_FetchRecordPages :
    (idle.takesFrames = true ∧ idle.store.records = []) ∧
      ∀ x ∈ [(0, 1), (32, 2), (33, 3)],
        (logged x.1).takesFrames = true ∧ (logged x.1).store.records ≠ [] ∧
          ∀ r ∈ (logged x.1).store.records.head?,
            1 + (r.log.length + 31) / 32 = x.2 ∧ (0 : Byte).toNat < x.2 ∧ ((BitVec.ofNat 8 x.2).toNat - 1 : Nat) < x.2 ∧
              x.2 ≤ (BitVec.ofNat 8 x.2).toNat := by decide
/-- 12.4: the bytes of a header and of a slice page, written out by hand from its tables. -/
theorem test_record_pages_by_hand :
    let r : InstRecord :=
      { boom := .A, tag := 104, planId := 7, outcome := some .good, flags := { voidInBond := true }, start := 1000
        drillEnd := some 70000, mixStart := some 131072, endTime := some 196608, finalDepth := 1800, retries := 1, hard := 3
        voidMm := 60, softMm := 40, assigned := some 3, passed := some 4, mixQ := some 120, torque := some 305
        log := [{ cls := .hard, se := 1500, time := 900, q := 255 }, { cls := .soft, se := 500, time := 64, q := 4095 }] }
    (r.header.map Wire.bytes).flatten =
        [0, 0, 104, 7, 1, 0, 0x20, 0x1F, 0, 0, 3, 0xE8, 0, 1, 0x11, 0x70, 0, 2, 0, 0, 0, 3, 0, 0, 7, 8, 1, 3, 0, 60, 0, 40, 3, 4,
          0, 120, 1, 0x31, 2] ∧
      ((r.slicePage 1).map Wire.bytes).flatten = [0, 2, 0xC0, 0xFF, 5, 0xDC, 3, 0x84, 0x4F, 0xFF, 1, 0xF4, 0, 64] := by decide
theorem witness_RecordLayoutsRoundTrip :
    plan7.firstBad = none ∧ plan12.firstBad = none ∧ calDefaults.length = 96 ∧ ∀ v ∈ calDefaults, v < 65536 := by decide

/-- Plan 7's payload. -/
def payload7 : List Byte := ((planWire plan7).map Wire.bytes).flatten
theorem witness_LoadPlanDecidedByTable :
    (idle.takesFrames = true ∧ payload7.length = 85 ∧
      (planOf (payload7.set 2 0)).fieldOk 1 = false ∧ (planOf (payload7.set 83 0xFF)).fieldOk 30 = false ∧
      ∀ m < 30, 1 ≤ m → (planOf (payload7.set 83 0xFF)).fieldOk m = true) ∧
      (∀ n < 31, 1 ≤ n → (planOf payload7).fieldOk n = true) ∧ idle.plans.Pairwise (fun x y => x.id < y.id) ∧
      ((findPlan ready.plans 7).isSome = true ∧ 0 < ready.refs 7) ∧
      ((findPlan idle.plans 7).isSome = true ∧ idle.refs 7 = 0) ∧
      ((findPlan [plan12] 7).isSome = false ∧ [plan12].length < 16) ∧
      let table := (List.range 16).map (fun i => { plan7 with id := 10 + i })
      (findPlan table 7).isSome = false ∧ 16 ≤ table.length := by decide
theorem witness_DropPlanFreesId :
    (idle.takesFrames = true ∧ idle.plans.Pairwise (fun x y => x.id < y.id)) ∧
      findPlan idle.plans (255 : Byte).toNat = none ∧
      ((findPlan idle.plans (7 : Byte).toNat).isSome = true ∧ idle.refs (7 : Byte).toNat = 0) ∧
      (findPlan ready.plans (7 : Byte).toNat).isSome = true ∧ 0 < ready.refs (7 : Byte).toNat := by decide
theorem witness_QueueJobAppends :
    let payload : List Byte := [0, 0, 103, 12, 7, 2, 0xBC, 1, 0x86, 0, 4]
    let j := jobOf payload
    (ready.takesFrames = true ∧ payload.length = 11 ∧ payload.headD 0 = BitVec.ofNat 8 BoomId.A.num) ∧
      (j.planId ≠ 0 ∧ findPlan ready.plans j.planId = some plan12 ∧ (ready.boom .A).queue.length < 4 ∧
        (∀ x ∈ (ready.boom .A).jobs, x.tag ≠ j.tag) ∧ j.firstBad plan12 = none) ∧
      (jobOf (payload.set 10 5)).firstBad plan12 = some 6 ∧ (jobOf (payload.set 8 0x87)).firstBad plan12 = some 5 ∧
      (jobOf (payload.set 6 0xBB)).firstBad plan12 = some 4 ∧ (jobOf (payload.set 3 0)).planId = 0 ∧
      findPlan ready.plans (jobOf (payload.set 3 13)).planId = none ∧
      (∃ x ∈ (ready.boom .A).jobs, x.tag = (jobOf (payload.set 2 101)).tag) ∧
      4 ≤ (ready.setQueue .A (List.replicate 4 job101) |>.boom .A).queue.length := by decide
theorem witness_CancelJobRemoves :
    ((sent started).takesFrames = true ∧ (started.boom .A).active.map (·.tag) = some 101 ∧ 2 ≤ (2 : Byte).toNat) ∧
      (∀ j ∈ (started.boom .A).jobs, j.tag ≠ 0xFFFF) ∧
      (∀ j ∈ (started.boom .A).active, j.tag ≠ 102) ∧ (∃ j ∈ (started.boom .A).queue, j.tag = 102) ∧
      ((started.boom .A).queue.map (·.tag)).Nodup := by decide
theorem witness_StartBeginsJob :
    let s := ready
    s.takesFrames = true ∧ (s.engine .A).state = .ready ∧ s.cal.absent = false ∧ s.trip = false ∧ s.canopy.state = .set ∧
      s.closed (.prs .A) = true ∧ (s.engine .A).restricted = false ∧
      (s.head .A).data = some { temp := 20, vacuum := 300, contact := true } ∧ (s.engine .A).park = false ∧
      (s.boom .A).queue = job101 :: [] ∧ findPlan s.plans job101.planId = some plan7 := by decide
theorem witness_StartAndResumeInterlocks :
    (idle.takesFrames = true ∧ (idle.engine .A).state ≠ .ready ∧ (idle.engine .A).state ≠ .parked) ∧
      (let s := { ready with cal := { ready.cal with absent := true } }
      (s.engine .A).state = .ready ∧
        [(s.cal.absent, 1), (s.trip, 2), (s.canopy.state != .set, 3), (!s.closed (.prs .A), 4), ((s.engine .A).restricted, 5),
          (!(s.head .A).data.any (·.contact), 6), ((s.engine .A).park, 7)].find? (·.1) = some (true, 1)) ∧
      (let s := ready.setEngine .A { ready.engine .A with park := true }
      [(s.cal.absent, 1), (s.trip, 2), (s.canopy.state != .set, 3), (!s.closed (.prs .A), 4), ((s.engine .A).restricted, 5),
        (!(s.head .A).data.any (·.contact), 6), ((s.engine .A).park, 7)].find? (·.1) = some (true, 7)) ∧
      let s := { heldMix 0 with monitors := idle.monitors.set 3 { sagMonitor with status := .trip } }
      (s.engine .A).state = .hold ∧ (s.engine .A).resume = some .mix ∧
        [(s.trip, 2), (!s.closed (.prs .A), 4), (s.canopy.state != .set, 3),
          (s.monitors.any (fun m => m.status == .trip && m.cfg.scope.has .A &&
            (m.cfg.tripActs.holdAny || m.cfg.tripActs.holdDrill && (EngineState.mix == .collar || EngineState.mix == .drill))),
            9)].find? (·.1) = some (true, 9) := by decide
theorem witness_HoldFreezesBoom :
    (drilling.takesFrames = true ∧ (drilling.engine .A).state.engaged = true) ∧
      ((heldMix 0).engine .A).state = .hold ∧ (idle.engine .A).state.engaged = false ∧ (idle.engine .A).state ≠ .hold := by decide
theorem witness_ResumeRestoresStep :
    ∀ st ∈ [EngineState.collar, .drill, .retract, .push, .release, .awaitBolt, .torque, .insert, .mix, .gelHold],
      let s := rig { state := .hold, resume := some st }
      s.takesFrames = true ∧ (s.engine .A).state = .hold ∧ (s.engine .A).resume = some st ∧ s.trip = false ∧
        s.closed (.prs .A) = true ∧ s.canopy.state = .set ∧ s.monitors.any (fun m => m.refusesResume .A st) = false ∧
        s.closed (.home .A) = false ∧ s.closed (.ihome .A) = false ∧ (s.engine .A).record = some record101 ∧
        (let u := s.setSwitch (.home .A) on
        u.closed (.home .A) = true ∧ (u.sensing .A).magazine < 1 ∧ (u.engine .A).n.getD 0 ≤ (u.sensing .A).magazine ∧
          u.closed (.iend .A) = false) ∧
        (s.setSwitch (.ihome .A) on).closed (.ihome .A) = true := by decide
/-- Where the sub-condition, the bolt mark, the tally and the magazine meet the clauses of RESUME. -/
theorem witness_ResumeRestoresStep_insert :
    let e (sub : SubCond) (tally completed : Nat) : Engine :=
      { state := .hold, resume := some .insert, sub := sub, tally := tally, completed := completed, n := some 2 }
    (let s := rig (e .awaitingResin 0 0)
    (s.engine .A).sub = .awaitingResin ∧ (s.sensing .A).magazine < (s.engine .A).n.getD 0 ∧
      (s.engine .A).n.getD 0 ≤ ((s.setSensing .A { magazine := 2 }).sensing .A).magazine) ∧
      (let s := rig (e .none 1 1)
      (s.engine .A).sub ≠ .awaitingResin ∧ (s.engine .A).tally ≥ 1 ∧ (s.engine .A).completed < (s.engine .A).n.getD 0 ∧
        (s.engine .A).n.getD 0 ≤ (s.engine .A).completed + 1) ∧
      (let s := rig (e .none 0 1)
      ¬(s.engine .A).tally ≥ 1 ∧ (s.engine .A).completed < (s.engine .A).n.getD 0) ∧
      ((rig { state := .hold, resume := some .awaitBolt, boltLoaded := true }).engine .A).boltLoaded = true ∧
      let s := (rig { state := .hold, resume := some .retract, n := some 1 }).setSwitch (.home .A) on
      s.closed (.home .A) = true ∧ (s.sensing .A).magazine < (s.engine .A).n.getD 0 := by decide
/-- Where both inserter switches stand closed: RETRACT at home, INSERT awaiting resin that suffices, and INSERT under way. -/
theorem witness_ResumeRestoresStep_both_switches :
    let s (st : EngineState) (sub : SubCond) :=
      ((rig { state := .hold, resume := some st, sub := sub, n := some 2 }).setSwitch (.iend .A) on).setSwitch (.ihome .A) on
    (∀ x ∈ [(EngineState.retract, SubCond.none), (.insert, .awaitingResin), (.insert, .none)],
      let u := s x.1 x.2
      u.takesFrames = true ∧ (u.engine .A).resume = some x.1 ∧ (u.engine .A).sub = x.2 ∧ (u.engine .A).tally = 0 ∧
        u.closed (.iend .A) = true ∧ u.closed (.ihome .A) = true ∧ (u.engine .A).completed < (u.engine .A).n.getD 0) ∧
      ((s .retract .none).setSwitch (.home .A) on).closed (.home .A) = true ∧
      ∀ x ∈ [(EngineState.retract, SubCond.none), (.insert, .awaitingResin)],
        let u := (s x.1 x.2).setSensing .A { magazine := 2 }
        (u.engine .A).n.getD 0 ≤ (u.sensing .A).magazine := by decide
theorem witness_ResumeRestoresStep_both_switches_may :
    ∀ x ∈ [(EngineState.retract, SubCond.none), (.insert, .awaitingResin), (.insert, .none)],
      MayResume (((rig { state := .hold, resume := some x.1, sub := x.2, n := some 2 }).setSwitch (.iend .A) on).setSwitch
        (.ihome .A) on) .A x.1 := by unfold MayResume; decide
theorem witness_ResumeCatchesUpResin :
    (MayResume (heldMix 7999) .A .mix ∧ MayResume (heldMix 34999) .A .mix ∧ MayResume (heldMix 35000) .A .mix) ∧
      (heldMix 7999).takesFrames = true ∧ (heldMix 7999).activePlan .A = plan7 ∧
      ((heldMix 7999).engine .A).record = some record101 ∧ (heldMix 7999).closed (.home .A) = false ∧
      (76 < plan7.mixCount ∧ 7999 < plan7.mixLimit) ∧ (plan7.gelTime ≤ 34999 ∧ 34999 < plan7.gelTime + plan7.torqueWindow) ∧
      plan7.gelTime + plan7.torqueWindow ≤ 35000 := by
  unfold MayResume; decide
/-- A resume into RELEASE with the home switch closed. -/
theorem witness_ResumeCatchesUpResin_home :
    let s := (heldMix 35000).setSwitch (.home .A) on
    MayResume s .A .mix ∧ s.takesFrames = true ∧ s.activePlan .A = plan7 ∧ (s.engine .A).record = some record101 ∧
      s.closed (.home .A) = true ∧ plan7.gelTime + plan7.torqueWindow ≤ (s.engine .A).resinClock := by
  unfold MayResume; decide
theorem witness_AbortClearFaultAndPark :
    (drilling.takesFrames = true ∧ (drilling.engine .A).state.engaged = true ∧ (drilling.engine .A).record = some record101) ∧
      ((heldMix 0).engine .A).state = .hold ∧
      ((idle.engine .A).state.engaged = false ∧ (idle.engine .A).state ≠ .hold) ∧
      (let s := idle.setEngine .A { state := .faulted }
      (s.engine .A).state = .faulted ∧ (s.engine .A).record = none) ∧
      parkedTo .collar = .hold ∧ (ready.engine .A).state ≠ .parked ∧
      ((idle.setEngine .A { state := .parked }).engine .A).state = .parked := by decide
/-- A fault out of DRILL closes the open slice, a void of the bond zone or one of no length, and one out of MIX none. -/
theorem witness_FaultEntered_closing :
    let s := drilling.setLogger .A
      { collarZero := some 812, h := 1003, slice := { index := 50 }, feedChoice := 600
        log := List.replicate 50 { cls := .firm, se := 1000, time := 900, q := 2 } }
    let u := s.setLogger .A { s.logger .A with h := 1000 }
    (closingFindsVoid s .A ∧ (s.engine .A).record = some record101 ∧ (s.engine .A).state.engaged = true) ∧
      (closesLog u .A ∧ ¬closingFindsVoid u .A) ∧ ¬closesLog (heldMix 0) .A := by
  unfold closingFindsVoid closesLog; decide
theorem witness_LoadedSuppliesAdvance :
    (let s := rig { state := .awaitBolt }
    s.takesFrames = true ∧ (s.engine .A).state = .awaitBolt ∧ (s.engine .A).jog = none) ∧
      (let s := rig { state := .hold, resume := some .awaitBolt }
      (s.engine .A).state = .hold ∧ (s.engine .A).resume = some .awaitBolt) ∧
      (let s := (rig { state := .insert, sub := .awaitingResin, n := some 3 }).setSensing .A { magazine := 2 }
      (s.engine .A).state = .insert ∧ (s.engine .A).sub = .awaitingResin ∧ (s.engine .A).jog = none ∧
        (s.engine .A).n.getD 0 ≤ min ((s.sensing .A).magazine + (1 : Byte).toNat) 24 ∧ s.closed (.iend .A) = false) ∧
      (1 : Byte) ≠ 0 ∧ (24 : Byte).toNat ≤ 24 ∧ 24 < (25 : Byte).toNat := by decide
/-- Both inserter switches of boom A closed. -/
def gripped (s : State) : State := (s.setSwitch (.iend .A) on).setSwitch (.ihome .A) on
/-- The strokes that MAGAZINE LOADED begins with both inserter switches closed: the last cartridge seen, and none seen. -/
theorem witness_LoadedSuppliesAdvance_both_switches :
    ∀ tally ∈ [0, 1, 2],
      let s := (gripped (rig { state := .insert, sub := .awaitingResin, n := some 1, tally := tally })).setSensing .A { magazine := 0 }
      s.takesFrames = true ∧ (s.engine .A).state = .insert ∧ (s.engine .A).sub = .awaitingResin ∧ (s.engine .A).jog = none ∧
        (s.engine .A).n.getD 0 ≤ min ((s.sensing .A).magazine + (1 : Byte).toNat) 24 ∧ s.closed (.iend .A) = true ∧
        s.closed (.ihome .A) = true ∧ (s.engine .A).record = some record101 := by decide
theorem witness_JogMovesOnePairAndEnds :
    (ready.takesFrames = true ∧ (ready.engine .A).state.jogs = true ∧ ready.trip = false ∧
      min ((0x03 : Byte).toNat * 256 + (0xE9 : Byte).toNat) 1000 = 1000 ∧
      min ((0x07 : Byte).toNat * 256 + (0xD1 : Byte).toNat) 2000 = 2000) ∧
      2 < (3 : Byte).toNat ∧ 1 < (2 : Byte).toNat ∧ (drilling.engine .A).state.jogs = false ∧
      ({ ready with trip := true } : State).trip = true ∧ (sagged.engine .B).jog ≠ none ∧ (sagged.engine .A).jog = none := by
  decide
/-- The filtered FEED and ROT pressures of boom A. -/
def pressures (s : State) (feed rot : Int) : State :=
  (s.setAnalog .aFeed { value := some feed, filtered := some feed }).setAnalog .aRot { value := some rot, filtered := some rot }
theorem witness_ScanEndsApproachCutAndPush :
    (let s := pressures (inStep { state := .collar, sub := .approach }) 400 0
    (s.engine .A).state = .collar ∧ (s.engine .A).sub = .approach ∧
      ((s.activePlan .A).contact : Int) ≤ (s.analog (feedChannel .A)).filt ∧
      ((pressures s 399 0).analog .aFeed).filt < (s.activePlan .A).contact) ∧
      (let s := (inStep { state := .collar, sub := .cut }).setLogger .A { collarZero := some 0, feedChoice := 600 }
      let u := s.setMotion .A { s.motion .A with scanPos := 40 }
      (s.logger .A).collarZero = some 0 ∧ (0 : Int) = ((s.motion .A).scanPos : Int) - (0 : Nat) ∧
        (0 : Int) < (s.activePlan .A).collarDepth ∧ (40 : Int) = ((u.motion .A).scanPos : Int) - (0 : Nat) ∧
        ((u.activePlan .A).collarDepth : Int) ≤ 40 ∧ (u.engine .A).jog = none) ∧
      (let s := inStep { state := .collar, sub := .backoff, backoffTarget := 5 }
      let u := s.setMotion .A { s.motion .A with scanPos := 6 }
      (s.engine .A).state = .collar ∧ (s.engine .A).sub = .backoff ∧
        ((s.motion .A).scanPos : Int) ≤ (s.engine .A).backoffTarget ∧ (u.engine .A).backoffTarget < (u.motion .A).scanPos) ∧
      let s := pressures (inStep { state := .push }) 800 0
      (s.engine .A).state = .push ∧ ((s.activePlan .A).pushContact : Int) ≤ (s.analog (feedChannel .A)).filt := by decide
theorem witness_DrillScanEndsOrStalls :
    ((drilling.engine .A).state = .drill ∧ (drilling.logger .A).collarZero = some 812 ∧
      (623 : Int) = ((drilling.motion .A).scanPos : Int) - (812 : Nat) ∧ (drilling.engine .A).jog = none ∧
      (drilling.engine .A).record = some record101 ∧ (623 : Int) < (drilling.activeValues .A).holeLength ∧
      (drilling.engine .A).sub ≠ .backoff) ∧
      (let s := drilling.setMotion .A { drilling.motion .A with scanPos := 2612 }
      (1800 : Int) = ((s.motion .A).scanPos : Int) - (812 : Nat) ∧ ((s.activeValues .A).holeLength : Int) ≤ 1800 ∧
        s.closed (.home .A) = false ∧ (s.setSwitch (.home .A) on).closed (.home .A) = true ∧
        (s.sensing .A).magazine < (s.activePlan .A).base ∧ s.closed (.iend .A) = false ∧
        (s.activePlan .A).maxCart ≤ ((s.setSensing .A { magazine := 4 }).sensing .A).magazine) ∧
      (let s := drilling.setEngine .A { drilling.engine .A with sub := .backoff, backoffTarget := 1435 }
      (s.engine .A).sub = .backoff ∧ ((s.motion .A).scanPos : Int) ≤ (s.engine .A).backoffTarget) ∧
      let s := pressures drilling 0 2600
      ((s.activePlan .A).jam : Int) ≤ (s.analog (rotChannel .A)).filt ∧
        ((s.activePlan .A).autoRetry = 1 ∧ (s.engine .A).retries < (s.activePlan .A).retryLimit ∧
          (s.engine .A).restricted = false) ∧
        ((s.setEngine .A { s.engine .A with retries := 2 }).engine .A).retries = (s.activePlan .A).retryLimit := by decide
/-- A hole whose end finds a void of the bond zone, at home with both inserter switches closed. -/
theorem witness_DrillScanEndsOrStalls_gripped :
    let s := ((((gripped drilling).setMotion .A { drilling.motion .A with scanPos := 2612 }).setSensing .A { magazine := 4 }
      ).setSwitch (.home .A) on).setLogger .A { collarZero := some 812, h := 1703, slice := { index := 85 }, feedChoice := 600 }
    (s.engine .A).state = .drill ∧ (s.engine .A).record = some record101 ∧ (s.engine .A).jog = none ∧
      ((s.activeValues .A).holeLength : Int) ≤ ((s.motion .A).scanPos : Int) - (812 : Nat) ∧ s.closed (.home .A) = true ∧
      (s.activePlan .A).maxCart ≤ (s.sensing .A).magazine ∧ s.closed (.iend .A) = true ∧ s.closed (.ihome .A) = true ∧
      (s.logger .A).voidFound = false ∧
      ((s.logger .A).closeOpen plan7 1800 (s.scanValues .A)).voidFound = true := by decide
theorem witness_TorqueScanDecides :
    let s (x : Nat) := (inStep { state := .torque, consecutive := 2 }).setMotion .A { torqueEst := x }
    ((s 0).engine .A).state = .torque ∧ ((s 0).engine .A).record = some record101 ∧ ((s 0).engine .A).jog = none ∧
      (s 0).granted (.boom .A) = true ∧ (rig { state := .torque }).granted (.boom .A) = false ∧
      (s 0).closed (.home .A) = false ∧
      ((s 400).activeValues .A).limit ≤ ((s 400).motion .A).torqueEst ∧
      (((s 300).motion .A).torqueEst < ((s 300).activeValues .A).limit ∧
        ((s 300).activeValues .A).target ≤ ((s 300).motion .A).torqueEst ∧ 2 ≤ ((s 300).engine .A).consecutive) ∧
      ((s 299).motion .A).torqueEst < ((s 299).activeValues .A).target := by decide

/-- A pair driving FWD, UP or ADV with its monitor at 0. -/
def atZero : Pair :=
  { dir := some .first, duty := 300, applied := 300, coil := .driving .first, last := some .first, monitor := .armed 0 0 false }
/-- Boom A in a step with the monitor of pair `f` at 0. -/
def expired (e : Engine) (f : PairFn) : State := (inStep e).setPair (.boom .A f) atZero
theorem witness_MonitorExpiryActsByStep :
    (idle.phase = .running ∧ (idle.pair .canopy).counting = false) ∧
      (let s := { idle with canopyPair := { atZero with monitor := .armed 1 0 false } }
      s.phase = .running ∧ (s.pair .canopy).counting = true ∧ (s.pair .canopy).monitor = .armed 1 0 false) ∧
      (∀ x ∈ [(EngineState.collar, SubCond.approach, PairFn.feed), (.retract, .none, .feed), (.release, .none, .feed),
          (.insert, .none, .ins), (.collar, .backoff, .rot), (.drill, .backoff, .rot), (.collar, .cut, .rot),
          (.drill, .none, .rot), (.mix, .none, .rot), (.torque, .none, .rot), (.awaitBolt, .none, .feed)],
        let s := expired { state := x.1, sub := x.2.1 } x.2.2
        s.phase = .running ∧ (s.pair (.boom .A x.2.2)).monitor = .armed 0 0 false ∧
          (s.pair (.boom .A x.2.2)).counting = true ∧ (s.engine .A).record = some record101 ∧
          (s.engine .A).jog = none ∧ s.closed (.home .A) = false ∧ (s.activePlan .A).autoRetry = 1 ∧
          (s.engine .A).retries < (s.activePlan .A).retryLimit ∧ (s.engine .A).restricted = false) ∧
      (∀ st ∈ [CanopyState.raising, .lowering],
        let s := { idle with canopyPair := atZero, canopy := { state := st } }
        s.phase = .running ∧ s.canopyPair.monitor = .armed 0 0 false ∧ s.canopyPair.counting = true ∧
          s.canopy.state = st) := by decide
/-- R121: a response taken before an expiry that has come due reloads the count, and the expiry does not occur. -/
theorem test_response_before_expiry :
    let s := pulsing (expired { state := .drill } .rot)
    let t := run (.motionMonitorExpiry (.boom .A .rot)) (run (.rotationPulse .A) s)
    s.monitorDue (.boom .A .rot) = true ∧
      (t.pair (.boom .A .rot)).monitor = .armed (s.cal.response (.boom .A .rot)) 0 false ∧
      (t.engine .A).sub = .none ∧ ((run (.motionMonitorExpiry (.boom .A .rot)) s).engine .A).sub = .backoff := by decide
theorem witness_EngineTimersExpire :
    (∀ st ∈ [EngineState.mix, .gelHold, .collar, .drill, .torque, .push],
      let s := inStep { state := st }
      s.phase = .running ∧ (s.engine .A).state = st ∧ (s.engine .A).record = some record101 ∧ (s.engine .A).jog = none ∧
        s.closed (.home .A) = false ∧ s.granted (.boom .A) = true) ∧
      (max 34999 plan7.gelTime < plan7.gelTime + plan7.torqueWindow ∧
        plan7.gelTime + plan7.torqueWindow ≤ max 35000 plan7.gelTime) ∧
      ((inStep { state := .torque }).setSwitch (.home .A) on).closed (.home .A) = true ∧
      ((idle.engine .A).state = .idle ∧ (idle.engine .A).record = none) ∧
      (sagged.phase = .running ∧ (sagged.engine .B).state = .faulted ∧ (sagged.engine .B).jog ≠ none) ∧
      (rig { state := .drill }).granted (.boom .A) = false := by decide
/-- RELEASE entered with the home switch closed, by a TORQUE rotation expiry and by a gel time past the window. -/
theorem witness_release_at_home :
    (let s := (expired { state := .torque } .rot).setSwitch (.home .A) on
    (s.engine .A).state = .torque ∧ s.closed (.home .A) = true ∧ (s.engine .A).record = some record101 ∧
      (s.pair (.boom .A .rot)).counting = true) ∧
      let s := (inStep { state := .gelHold, resinClock := 35000 }).setSwitch (.home .A) on
      (s.engine .A).state = .gelHold ∧ s.closed (.home .A) = true ∧ (s.engine .A).record = some record101 ∧
        plan7.gelTime + plan7.torqueWindow ≤ (s.engine .A).resinClock := by decide
theorem witness_HomeSwitchEndsSteps :
    (∀ x ∈ [(EngineState.retract, SubCond.none), (.release, .none), (.collar, .backoff), (.drill, .backoff), (.push, .none)],
      let s := inStep { state := x.1, sub := x.2, n := some 3 }
      s.phase = .running ∧ s.closed (.home .A) = false ∧ (s.engine .A).state = x.1 ∧ (s.engine .A).sub = x.2 ∧
        (s.engine .A).jog = none ∧ (s.engine .A).record = some record101 ∧ s.closed (.iend .A) = false ∧
        (s.sensing .A).magazine < (s.engine .A).n.getD 0 ∧
        (s.engine .A).n.getD 0 ≤ ((s.setSensing .A { magazine := 3 }).sensing .A).magazine) ∧
      (idle.setSwitch (.home .A) on).closed (.home .A) = true ∧
      let s := ((inStep { state := .retract }).setSwitch (.iend .A) on).setSwitch (.ihome .A) on
      (s.engine .A).n.getD 0 ≤ (s.sensing .A).magazine ∧ s.closed (.iend .A) = true ∧ s.closed (.ihome .A) = true := by decide
theorem witness_InserterStrokesJudged :
    ∀ x ∈ [(Leg.homing, 0, 0, 2), (.advance, 0, 0, 2), (.back, 1, 0, 2), (.back, 2, 0, 1), (.back, 0, 1, 2), (.back, 0, 2, 2)],
      let s := inStep { state := .insert, leg := some x.1, tally := x.2.1, restrokes := x.2.2.1, completed := x.2.2.2, n := some 3 }
      s.phase = .running ∧ (s.engine .A).state = .insert ∧ (s.engine .A).sub = .none ∧
        (s.engine .A).record = some record101 ∧ (s.engine .A).jog = none ∧ s.closed (.iend .A) = false ∧
        s.closed (.ihome .A) = false ∧ (s.engine .A).leg = some x.1 ∧ (s.engine .A).completed < (s.engine .A).n.getD 0 := by
  decide
/-- The other inserter switch closed as a leg ends, and the homing leg after the last cartridge. -/
theorem witness_InserterStrokesJudged_gripped :
    (∀ leg ∈ [Leg.homing, .advance, .back],
      let s := inStep { state := .insert, leg := some leg, completed := 2, tally := 1, n := some 3 }
      let x := s.setSwitch (.iend .A) on
      let y := s.setSwitch (.ihome .A) on
      (x.closed (.iend .A) = true ∧ x.closed (.ihome .A) = false) ∧ (y.closed (.ihome .A) = true ∧ y.closed (.iend .A) = false) ∧
        (s.engine .A).leg = some leg ∧ (s.engine .A).completed < 3 ∧ (s.engine .A).record = some record101) ∧
      let s := inStep { state := .insert, leg := some .homing, completed := 3, n := some 3 }
      (s.engine .A).leg = some .homing ∧ 3 ≤ (s.engine .A).completed ∧ s.closed (.ihome .A) = false := by decide
/-- An inserter switch that opens, and one whose closing ends no leg, with the INS monitor counting. -/
theorem witness_InserterStrokesJudged_reload :
    let leg (l : Option Leg) : State := expired { state := .insert, leg := l, n := some 3 } .ins
    (∀ i ∈ [SwitchId.iend .A, .ihome .A],
      let s := (leg (some .back)).setSwitch i on
      s.phase = .running ∧ s.closed i = true ∧ (s.pair (.boom .A .ins)).counting = true) ∧
      ((leg (some .back)).closed (.iend .A) = false ∧ (some Leg.back ≠ some .advance) ∧
        (leg (some .back)).closed (.ihome .A) = false) ∧
      ((leg (some .advance)).closed (.ihome .A) = false ∧ (leg (some .advance)).closed (.iend .A) = false) ∧
      (idle.engine .A).state ≠ .insert ∧ ((leg none).engine .A).leg = none := by decide
theorem witness_ChannelTakesSample :
    (∀ r ∈ [(320 : RawSample), 4032], 320 ≤ r.toNat ∧ r.toNat ≤ 4032) ∧
      (∀ r ∈ [(319 : RawSample), 4033], ¬(320 ≤ r.toNat ∧ r.toNat ≤ 4032)) ∧ (255 : Nat) ≤ 255 ∧ 255 < (256 : Nat) ∧
      (120 : Int) = ((120 : Nat) : Int) + (0 : Nat) ∧ (121 : Int) = ((120 : Nat) : Int) + (1 : Nat) := by decide
set_option maxRecDepth 8000 in
theorem witness_ScanGroupsPublish :
    let s := drilling.setAnalog .aRot { value := some 100, filtered := some 100 }
    let u := s.setAnalog .aRot { value := some 100, filtered := some 100, count := 248 }
    let c := { idle with canopyPair := { atZero with monitor := .armed 50 100 false } }
    let d := idle.setAnalog .canopy { value := some 100, filtered := some 100, count := 248 }
    (s.phase = .running ∧
      ((s.analog .aRot).sample .aRot 2 2000 (s.cal.convert .aRot 2000)).health = (s.analog .aRot).health ∧
      ((s.analog .aFeed).sample .aFeed 2 2000 (s.cal.convert .aFeed 2000)).health = (s.analog .aFeed).health ∧
      (s.engine .A).restricted = s.restrictedNow .A) ∧
      (((u.analog .aRot).sample .aRot 2 319 0).health = .failed ∧ (u.analog .aRot).health ≠ .failed ∧
        (u.engine .A).state.engaged = true) ∧
      (c.canopyPair.monitor = .armed 50 100 false ∧ c.canopyPair.counting = true) ∧
      (((d.analog .canopy).sample .canopy 2 319 0).health = .failed ∧ (d.analog .canopy).health ≠ .failed ∧
        d.canopy.state = .set) ∧
      (∀ st ∈ [CanopyState.raising, .lowered], ({ d with canopy := { state := st } } : State).canopy.state = st) ∧
      ((c.analog .canopy).health ≠ .failed ∧ ((c.analog .canopy).sample .canopy 2 320 0).health ≠ .failed ∧
        idle.canopyPair.counting = false) ∧
      (Health.degraded, Health.failed, ChannelEvent.failed) ∈
        [(Health.healthy, Health.suspect, ChannelEvent.suspect), (.suspect, .degraded, .degraded), (.degraded, .failed, .failed),
          (.suspect, .healthy, .recovered), (.failed, .healthy, .recovered)] := by decide
set_option maxRecDepth 8000 in
/-- A channel that falls to DEGRADED restricts its boom, whose driven feed pair has a drive to be issued again; and one that
enters FAILED under a jog in HOLD. -/
theorem witness_ScanGroupsPublish_restricted :
    (let s := feeding.setAnalog .aRot { value := some 100, filtered := some 100, count := 127 }
    let a := s.setAnalog .aRot ((s.analog .aRot).sample .aRot 2 319 0)
    s.phase = .running ∧ (s.engine .A).restricted = false ∧ s.restrictedNow .A = false ∧ a.restrictedNow .A = true ∧
      ((restrictedTo a .A true).pair (.boom .A .feed)).dir ≠ none ∧
      fullFeed (restrictedTo a .A true) .A = some (.first, 600) ∧ fullFeed (restrictedTo idle .A true) .A = none) ∧
      let s := (inStep
        { state := .hold, resume := some .drill, jog := some { fn := .feed, dir := .first, duty := 700, left := 9 } }).setAnalog
          .aRot { value := some 100, filtered := some 100, count := 248 }
      ((s.analog .aRot).sample .aRot 2 319 0).health = .failed ∧ (s.engine .A).state = .hold ∧ (s.engine .A).jog ≠ none ∧
        fullFeed s .A = some (.first, 700) := by decide
theorem witness_RestoreChannelCounts :
    (idle.takesFrames = true ∧ 8 < (9 : Byte).toNat ∧ (6 : Byte).toNat = AnalogId.oil.num ∧ (idle.analog .oil).count ≤ 255 ∧
      255 < ((idle.setAnalog .oil { count := 256 }).analog .oil).count) ∧
      ((7 : Byte).toNat = 7 + BoomId.A.num ∧ (8 : Byte).toNat = 7 + BoomId.B.num ∧ (idle.head .A).count ≤ 255 ∧
        255 < ((idle.setHead .A { count := 256 }).head .A).count) ∧
      ({ count := 256, restore := some 127 } : Head).restore = some 127 := by decide
theorem witness_SlicesLoggedAndResinSized :
    ((1 : Nat) ≤ 1 ∧ (20 : Nat) ≤ 20 ∧ plan7.voidMax < plan7.softMax ∧ plan7.softMax < plan7.hardMin) ∧
      (let l : Logger := { h := 19 }
      l.log.length = l.slice.index ∧ 20 * l.slice.index ≤ l.h ∧ l.h ≤ 1800 ∧ (l.h : Int) < 20 ∧
        l.slice.index < min (20 : Int).toNat 1800 / 20) ∧
      0 < plan7.fill ∧ plan7.base ≤ plan7.maxCart := by decide
set_option maxRecDepth 8000 in
/-- A scan of DRILL that closes a slice, one that finds a void, and one that the logger does not take. -/
theorem witness_SlicesLoggedAndResinSized_scans :
    (let s := feeding.setMotion .A { feeding.motion .A with scanPos := 1452 }
    let l' := (s.logger .A).take (s.activePlan .A) (s.activeValues .A).holeLength 640 (s.scanValues .A)
    (s.logger .A).collarZero = some 812 ∧ (1452 : Int) - 812 = 640 ∧ (s.engine .A).state = .drill ∧
      (s.engine .A).sub ≠ .backoff ∧ l'.log.length ≠ (s.logger .A).log.length ∧ s.granted (.boom .A) = true ∧
      (s.logger .A).voidFound = false) ∧
      (let s := drilling.setLogger .A { collarZero := some 0, h := 1439, slice := { index := 71 } }
      ((s.logger .A).take (s.activePlan .A) (s.activeValues .A).holeLength 1440 (s.scanValues .A)).voidFound = true) ∧
      let s := inStep { state := .collar, sub := .approach }
      ¬((s.engine .A).state = .collar ∧ (s.engine .A).sub ≠ .approach ∨ (s.engine .A).state = .drill) := by decide
/-- An open slice of no length and one of 1 mm. -/
theorem witness_SlicesLoggedAndResinSized_open :
    ({ h := 40, slice := { index := 2 } } : Logger).h - 20 * 2 = 0 ∧ 1 ≤ ({ h := 41, slice := { index := 2 } } : Logger).h - 20 * 2 := by
  decide
/-- The arbiter's promise, in a form that decides. -/
theorem flow4_ok : ArbiterOk flow4 := by unfold ArbiterOk; decide
theorem witness_PumpBudgetAndStarvation :
    (idle.takesFrames = true ∧ ArbiterOk { idle with arb := flow4 }.arb) ∧
      ([(0, 19), (0, 20), (0, 240), (0, 241), (255, 255)].map (fun x : Byte × Byte =>
        let v := x.1.toNat * 256 + x.2.toNat
        if v < 20 then 20 else if v ≤ 240 then v else 240)) = [20, 20, 240, 240, 240] ∧
      (flow0.waits = [] ∧ (flow0.grants.map (·.demand)).sum = 40) ∧
      (∀ w ∈ flow4.waits, w.req.who = .boom .A → w.starved = true) ∧
      (∃ w ∈ flow5.waits, w.req.who = .boom .A ∧ w.starved = false) ∧ idle.phase = .running :=
  ⟨⟨by decide, flow4_ok⟩, by decide, by decide, by decide, by decide, by decide⟩
/-- R85: of the grants 5 in class 3 and 50 in class 4, a budget of 30 preempts the 50 alone; that both go is no such outcome. -/
theorem test_budget_preempts_no_more_than_needed :
    let small : FlowReq := demandOf .A .drill 5 1
    let large : FlowReq := demandOf .B .retract 50 2
    let a : Arbiter := { budget := 60, counter := 2, grants := [small, large] }
    let c : Arbiter := { budget := 30, counter := 2, grants := [small], waits := [large.waiting] }
    BudgetFitted a 30 c [large] ∧ (a.setBudget 30).1 = c ∧
      ¬BudgetFitted a 30 { c with grants := [], waits := [small.waiting, large.waiting] } [large, small] := by
  unfold BudgetFitted PreemptedBefore LastPreempted StampsOk
  refine ⟨⟨?_, ?_, ?_, ?_, ?_, ?_, ?_, ?_, ?_, ?_⟩, ?_, fun h => ?_⟩ <;> try decide
  exact absurd h.2.2.2.2.2.2.2.1 (by decide)
theorem witness_PlacementGrantedOrWaits :
    let a : Arbiter := { flow0 with budget := 60 }
    ArbiterOk a ∧ a.waits = [] ∧ a.counter < 65535 ∧ (∀ r ∈ a.grants, r.who ≠ .boom .B) ∧ 20 + a.grantedSum ≤ a.budget ∧
      a.budget < 21 + a.grantedSum ∧ 3 ≤ (Purpose.step .drill).cls ∧ (Purpose.step .push).cls < 3 ∧
      60 ≤ a.free + ((a.grants.filter (fun x => 2 < x.cls)).map (·.demand)).sum ∧
      a.free + ((a.grants.filter (fun x => 2 < x.cls)).map (·.demand)).sum < 61 := by
  unfold ArbiterOk; decide
/-- Stamps and wait list in order, in a form that decides. -/
theorem flow4_stamps : StampsOk flow4 := by unfold StampsOk; decide
/-- A placement at the end of the stamps, a pass that preempts, a head that cannot be granted, and requesters that hold a
request and none. -/
theorem witness_PlacementGrantedOrWaits_order :
    (let a : Arbiter := { flow0 with grants := [demandOf .A .collar 40 65535], counter := 65535 }
    ArbiterOk a ∧ StampsOk a ∧ a.counter = 65535) ∧
      (let a := flow2.submit (.boom .B) (.step .mix) 40
      ArbiterOk a ∧ StampsOk a ∧ (∃ r ∈ a.grants, r ∉ a.pass.1.grants) ∧ a.pass.1.waits ≠ [] ∧
        LastPreempted a [] (demandOf .A .drill 45 17)) ∧
      ((∃ r ∈ ({ idle with arb := flow2 } : State).arb.held, r.who = .boom .A) ∧ ∀ r ∈ idle.arb.held, r.who ≠ .boom .A) := by
  unfold ArbiterOk StampsOk LastPreempted; decide
/-- Who may be told: a boom in a step with a driven and marked pair, one in MIX, one that jogs, and the canopy in each motion and
in none. -/
theorem witness_PlacementGrantedOrWaits_told :
    ((drilling.engine .A).jog = none ∧ (drilling.stepDrive .A).monitored = some .rot ∧
        ((drilling.stepDrive .A).of .rot).isSome = true ∧ (drilling.stepDrive .A).of .ins = none) ∧
      ((heldMix 0).engine .A).state ≠ .mix ∧ ((inStep { state := .mix }).engine .A).state = .mix ∧
      ((sagged.engine .B).jog.map (·.fn)) = some .feed ∧
      ∀ st ∈ [CanopyState.raising, .lowering, .set],
        ({ idle with canopy := { state := st } } : State).canopy.state = st := by decide
/-- The canopy in state `st`, its request granted where `g`. -/
def canopyIn (st : CanopyState) (p : Purpose) (g : Bool) : State :=
  { idle with
    canopy := { state := st }
    arb := { budget := 100, grants := if g then [{ who := .canopy, purpose := p, cls := 1, demand := 20, stamp := 1 }] else [] } }
set_option maxRecDepth 8000 in
theorem witness_CanopyRaiseAndLower :
    ((canopyIn .lowering .canopyLower true).takesFrames = true ∧ (canopyIn .lowering .canopyLower true).granted .canopy = true) ∧
      (∀ st ∈ [CanopyState.raising, .set, .lost, .lowered],
        let s := canopyIn st .canopyRaise false
        s.canopy.state = st ∧ s.trip = false ∧ (s.analog .canopy).count ≤ 255 ∧ s.closed .clow = false ∧
          ∀ b ∈ [BoomId.A, .B], (s.engine b).state = .idle) ∧
      (255 < ((idle.setAnalog .canopy { count := 256 }).analog .canopy).count) ∧
      (canopyIn .raising .canopyRaise true).granted .canopy = true ∧
      ((drilling.engine .A).state.engaged = true ∧ drilling.trip = false) ∧
      ((idle.setSwitch .clow on).closed .clow = true ∧ (idle.setSwitch .clow on).canopy.state = .set) := by decide
theorem witness_CanopyConfirmedLostLowered :
    ((canopyIn .lowering .canopyLower true).phase = .running ∧ (canopyIn .lowering .canopyLower true).granted .canopy = true) ∧
      (({ idle with clow := on } : State).clow.level = true ∧ idle.clow.level = false) ∧
      (let s := canopyIn .raising .canopyRaise true
      let u (x : Int) := s.setAnalog .canopy { good := true, value := some x, count := 127 }
      ((s.cal.setLevel : Int) ≤ ((u 1000).analog .canopy).val ∧ ((u 1000).analog .canopy).good = true ∧
          ((u 1000).analog .canopy).count ≤ 127) ∧
        ¬(s.cal.setLevel : Int) ≤ ((u 999).analog .canopy).val ∧ s.canopy.setRun = none ∧
        ({ s with canopy := { s.canopy with setRun := some 0 }, now := 500 } : State).canopy.setRun = some 0 ∧
        500 ≤ ((500 : Timestamp) - 0).toNat ∧ ((499 : Timestamp) - 0).toNat < 500) ∧
      (idle.canopy.state = .set ∧ (idle.cal.lostLevel : Int) ≤ 800 ∧ (799 : Int) < idle.cal.lostLevel ∧
        200 ≤ ((200 : Timestamp) - 0).toNat ∧ ((198 : Timestamp) - 0).toNat < 200) ∧
      (canopyIn .lost .canopyRaise false).canopy.state ≠ .raising := by decide
theorem witness_TripLatchStopsTheRig :
    drilling.phase = .running ∧ drilling.estop.level = false ∧ drilling.trip = false ∧
      ({ drilling with estop := on } : State).estop.level = true ∧ ({ drilling with trip := true } : State).trip = true ∧
      (canopyIn .raising .canopyRaise true).canopy.state = .raising ∧
      (sagged.estop.level = false ∧ sagged.trip = false ∧ (sagged.engine .A).state = .hold ∧
        (sagged.engine .B).state.engaged = false ∧ (sagged.engine .B).jog ≠ none) := by decide
/-- A closed gate, a new drive, a drive that goes on and a reversal; a monitor that goes on, and one that HOLD freezes. -/
theorem witness_PairsDecidedAfresh_request :
    (let s := { idle with canopyPair := atZero }
    s.gateOpen .canopy = true ∧ (s.pair .canopy).coil = .driving .first ∧ (s.pair .canopy).last = some .first ∧
      (s.pair .canopy).last ≠ some .second ∧ s.cal.deadTime .canopy ≠ 0 ∧
      (s.pair .canopy).monitor = .armed 0 0 false) ∧
      ((idle.pair .canopy).dead = 0 ∧ (idle.pair .canopy).monitor = .disarmed) ∧
      ({ idle with trip := true } : State).gateOpen .canopy = false := by decide
theorem witness_PairsDecidedAfresh :
    (idle.takesFrames = true ∧ idle.closed .estop = false ∧ idle.trip = false ∧
        ({ idle with trip := true } : State).trip = true ∧ ({ idle with estop := on } : State).closed .estop = true) ∧
      (let s := { idle with trip := true, canopyPair := { dir := some .first, last := some .second, dead := 1 } }
      (s.pair .canopy).dir = some .first ∧ (s.pair .canopy).coil = .off ∧ (s.pair .canopy).dead ≠ 0 ∧
        (s.pair .canopy).last ≠ some .first) ∧
      (let s := { idle with canopyPair := { dir := some .first, last := some .second, coil := .dead } }
      s.phase = .running ∧ (s.pair .canopy).coil = .dead ∧ (s.pair .canopy).dir = some .first ∧ s.gateOpen .canopy = true) ∧
      ((idle.pair .canopy).dead = 0 ∧ (idle.pair .canopy).coil ≠ .dead) ∧
      let s := { idle with canopyPair := { last := some .second, dead := 1 } }
      (s.pair .canopy).dead ≠ 0 ∧ (s.pair .canopy).coil = .off ∧ (s.pair .canopy).dir = none := by decide
theorem witness_LinesAndPresence :
    (idle.phase = .running ∧ ({ idle with phase := .loading } : State).phase ≠ .running ∧
      (idle.motion .A).pickup.level = false) ∧
      (let x := ((idle.setMotion .A { pickup := { level := true, run := some 0 } }).motion .A).pickup
      x.level = true ∧ x.line = false ∧ x.run ≠ none) ∧
      idle.closed (.prs .A) = true ∧
      (let s := (idle.setSwitch (.prs .A) {}).setPair (.boom .A .rot) { dir := some .first }
      s.closed (.prs .A) = false ∧ s.trip = false ∧ (s.pair (.boom .A .rot)).dir = some .first ∧
        (s.pair (.boom .A .rot)).dead = 0 ∧ (s.pair (.boom .A .rot)).coil = .off) := by decide
theorem witness_PulsesAndEdgesCount :
    (let s := pulsing (expired { state := .drill } .rot)
    s.phase = .running ∧ (s.motion .A).pickup.level = false ∧ (s.motion .A).pickup.line = true ∧
      (s.motion .A).pickup.run ≠ none ∧ (idle.motion .A).pickup.line = false ∧ (s.engine .A).state ≠ .mix ∧
      (s.pair (.boom .A .rot)).monitor = .armed 0 0 false ∧ (s.pair (.boom .A .rot)).counting = true) ∧
      (let s := pulsing (inStep { state := .mix, q := 118 })
      (s.motion .A).pickup.run ≠ none ∧ (s.engine .A).record = some record101 ∧ (s.engine .A).state = .mix ∧ (s.engine .A).q + 1 < (s.activePlan .A).mixCount ∧
        (s.activePlan .A).mixCount ≤ 119 + 1 ∧ (s.engine .A).jog = none) ∧
      (let s := expired { state := .retract } .feed
      (s.motion .A).feedPos < 3000 ∧ ((s.setMotion .A { feedPos := 3000 }).motion .A).feedPos = 3000 ∧
        (s.pair (.boom .A .feed)).dir = some .first ∧ (s.pair (.boom .A .feed)).counting = true) ∧
      ((idle.motion .A).encI, (idle.motion .A).encQ, true, false) ∈
        [(false, false, true, false), (true, false, true, true), (true, true, false, true), (false, true, false, false)] := by
  decide
/-- A pulse of MIX that does not end it, with the ROT monitor counting. -/
theorem witness_PulsesAndEdgesCount_mix :
    let s := pulsing (expired { state := .mix, q := 118 } .rot)
    s.phase = .running ∧ (s.motion .A).pickup.level = false ∧ (s.motion .A).pickup.line = true ∧ (s.motion .A).pickup.run ≠ none ∧
      (s.engine .A).state = .mix ∧ (s.engine .A).q + 1 < (s.activePlan .A).mixCount ∧
      (s.pair (.boom .A .rot)).monitor = .armed 0 0 false ∧ (s.pair (.boom .A .rot)).counting = true := by decide
theorem witness_HeadBusCommands :
    (session.takesFrames = true ∧ session.bus.schedule = .polling ∧ session.bus.txn ≠ none) ∧
      (idle.bus.schedule = .polling ∧ idle.bus.txn = none) ∧
      (∀ t ∈ session.bus.txn, t.manual = false) ∧
      (let s := sent (run (.headBusTransact 1 [0, 0x7F]) { session with bus := { schedule := .paused } })
      s.takesFrames = true ∧ s.bus.schedule = .paused ∧ s.bus.txn ≠ none ∧ ∀ t ∈ s.bus.txn, t.manual = true) ∧
      (2 < (3 : Byte).toNat ∧ (0x7F : Byte).toNat ≤ 0x7F ∧ 0x7F < (0x80 : Byte).toNat ∧ 16 < (17 : Byte).toNat) ∧
      (List.replicate 16 (0 : Byte)).length = (16 : Byte).toNat ∧
      (([0] : List Byte).length < 2 ∧ 2 < ([3, 0x2A] : List Byte).getD 0 0 ∧ ([2, 0x2A, 0x31] : List Byte).length < 4 ∧
        (([0, 0x2A, 0] : List Byte).getD 0 0).toNat ≤ 1 ∧ ([0, 0x2A, 0] : List Byte).length ≠ 2 ∧
        (([1, 0x7F] : List Byte).getD 1 0).toNat ≤ 0x7F ∧ ([1, 0x7F] : List Byte).length ≠ 3) ∧
      (let s := { session with bus := { schedule := .paused } }
      s.takesFrames = true ∧ s.bus.schedule = .paused ∧ s.bus.txn = none) := by decide
set_option maxRecDepth 8000 in
/-- Every ending of a status block: no acknowledge, a timeout, a count of 17, a count of 0, a wrong check byte, a temperature
above 190, and GOOD, BUSY, SENSOR_FAULT and an unknown code. -/
theorem status_endings (d : HeadData) :
    StatusEnding (.headTransactionEnd .noAck) (some false) .noAck (.error .noAck none) d ∧
      StatusEnding .headBusTimeout (some false) .timeout (.error .timeout none) d ∧
      StatusEnding (.headTransactionEnd (.returned [17])) (some false) .checkError (.error .checkError (some 17)) d ∧
      StatusEnding (.headTransactionEnd (.returned [0, 0])) (some false) .checkError (.error .checkError none) d ∧
      StatusEnding (.headTransactionEnd (.returned [5, 0x40, 0x3C, 0x01, 0x2C, 0x01, 0x52])) (some false) .checkError
        (.error .checkError none) d ∧
      StatusEnding (.headTransactionEnd (.returned [5, 0x40, 0xBF, 0, 0, 0, 0xFC])) (some false) .checkError
        (.error .checkError none) d ∧
      StatusEnding (.headTransactionEnd (.returned goodBlock)) (some true) .good (.done [0x40, 0x3C, 0x01, 0x2C, 0x01])
        { temp := 20, vacuum := 300, contact := true } ∧
      StatusEnding (.headTransactionEnd (.returned [5, 0x80, 0, 0, 0, 0, 0x7B])) none .busy (.done [0x80, 0, 0, 0, 0])
        { temp := -40, vacuum := 0, contact := false } ∧
      StatusEnding (.headTransactionEnd (.returned [5, 0x81, 0, 0, 0, 0, 0x7A])) (some false) .sensorFault
        (.done [0x81, 0, 0, 0, 0]) { temp := -40, vacuum := 0, contact := false } ∧
      StatusEnding (.headTransactionEnd (.returned [5, 0x33, 0, 0, 0, 0, 0xC8])) (some false) (.unknown 0x33)
        (.done [0x33, 0, 0, 0, 0]) { temp := -40, vacuum := 0, contact := false } := by
  unfold StatusEnding
  refine ⟨.inl ⟨rfl, rfl, rfl, rfl⟩, .inr (.inl ⟨rfl, rfl, rfl, rfl⟩),
    .inr (.inr (.inl ⟨17, [], rfl, by decide, rfl, rfl, rfl⟩)),
    .inr (.inr (.inr (.inl ⟨0, 0, [], rfl, by decide, rfl, by decide, rfl, rfl, rfl⟩))), ?_, ?_, ?_, ?_, ?_, ?_⟩
  all_goals refine .inr (.inr (.inr (.inr ⟨_, _, _, _, _, _, rfl, ?_⟩)))
  · rw [if_pos (by decide)]
    exact ⟨rfl, rfl, rfl⟩
  · rw [if_pos (by decide)]
    exact ⟨rfl, rfl, rfl⟩
  all_goals decide
theorem witness_PollRoundReadsHeads :
    (session.phase = .running ∧ session.bus.txn = some (pollRead .A) ∧ session.bus.round = some .A ∧
      session.bus.schedule = .polling) ∧
      (let s := { session with bus := { session.bus with schedule := .pausePending, round := some .B, txn := some (pollRead .B) } }
      s.bus.txn = some (pollRead .B) ∧ s.bus.round = some .B ∧ s.bus.schedule ≠ .polling) ∧
      StatusEnding (.headTransactionEnd .noAck) (some false) .noAck (.error .noAck none) { temp := 0, vacuum := 0, contact := false } ∧
      session.monitors.length = 12 ∧
      (((session.setHead .A { count := 128 }).head .A).sampled true).count ≤ 127 :=
  ⟨by decide, by decide, (status_endings _).1, by decide, by decide⟩
/-- A bad sample that fails the head channel of a boom that drills, and one that first restricts it while its feed is driven; data
that turn stale under that feed. -/
theorem witness_HeadSampled_failed :
    let s (k : Nat) : State := (feeding.setHead .A { headAt 0 with count := k })
    (((s 248).head .A).count ≤ 255 ∧ 255 < (((s 248).head .A).sampled false).count ∧ ((s 248).engine .A).state.engaged = true) ∧
      (((s 120).engine .A).restricted = (s 120).restrictedNow .A ∧ ((s 120).engine .A).restricted = false ∧
        ((s 120).setHead .A (((s 120).head .A).sampled false)).restrictedNow .A = true) ∧
      (((restrictedTo (s 120) .A true).pair (.boom .A .feed)).dir ≠ none ∧
        fullFeed (restrictedTo (s 120) .A true) .A = some (.first, 600)) ∧
      let u : State := { feeding with now := 1001 }
      (u.head .A).stale = false ∧ (u.engine .A).restricted = u.restrictedNow .A ∧
        (u.head .A).published = some 0 ∧ u.cal.staleLimit < (u.now - 0).toNat := by decide
/-- A monitor on a head source: the sample moves the health, and leaves it. -/
theorem witness_HeadSampled_monitors :
    let m : Monitor := { cfg := { source := .headTemp .A } }
    let s (k : Nat) : State := (session.setMonitorAt 3 m).setHead .A { headAt 0 with count := k }
    ((s 0).monitors.length = 12 ∧ ((s 0).monitor 3).cfg.source = .headTemp .A) ∧
      Health.ofCount (((s 126).head .A).sampled false).count ≠ Health.ofCount 126 ∧
      Health.ofCount (((s 10).head .A).sampled false).count = Health.ofCount 10 := by decide
theorem witness_ManualEndsAndStaleness :
    (∀ k ∈ [BusKind.ping, .readBlock, .writeBlock],
      let t : Transaction := { manual := true, kind := k, addr := 0x2A, cmd := 0x11, data := [], received := [] }
      ({ session with bus := { schedule := .paused, txn := some t } } : State).bus.txn = some t ∧ t.manual = true ∧
        t.statusOf = none) ∧
      (∀ b ∈ [BoomId.A, .B],
        let a : Byte := match b with
          | .A => 0x2A
          | .B => 0x2B
        let t : Transaction := { manual := true, kind := .readBlock, addr := a, cmd := 0x10, data := [], received := [] }
        ({ session with bus := { schedule := .paused, txn := some t } } : State).bus.txn = some t ∧ t.manual = true ∧
          t.kind = .readBlock ∧ t.cmd = 0x10) ∧
      (idle.phase = .running ∧ idle.bus.txn = none) ∧ (16 : Byte).toNat ≤ 16 ∧ 16 < (17 : Byte).toNat ∧
      ((session.head .A).stale = false ∧ (session.engine .A).restricted = session.restrictedNow .A) ∧
      ((session.setHead .A {}).head .A).stale = true ∧
      ((session.head .A).published = some 9901 ∧ session.cal.staleLimit < ((10902 : Timestamp) - 9901).toNat ∧
        ¬session.cal.staleLimit < ((10901 : Timestamp) - 9901).toNat) := by decide
theorem witness_MeasurementEndsAndPassages :
    ring.phase = .running ∧ (ring.sensing .A).hop = true ∧ (ring.sensing .A).restart = false ∧
      (let s := ring.setSensing .A { ring.sensing .A with hop := false, agree := 1, present := true }
      (s.sensing .A).hop = false ∧ 1 ≤ (s.sensing .A).agree) ∧
      5049 < 5200 - (ring.sensing .A).threshold ∧ ¬5050 < 5200 - (ring.sensing .A).threshold := by decide
theorem witness_MonitorTestSteps :
    let c := sagMonitor.cfg
    (if c.below = true then c.trip < c.warn else c.warn < c.trip) ∧
      (950 : Int) ≤ c.trip ∧ (1050 : Int) ≤ c.warn ∧ c.trip + c.hyst < (991 : Int) ∧ ¬c.warn + c.hyst < (1090 : Int) ∧
      ∀ l ∈ [Level.normal, .warn, .trip], ({ sagMonitor with status := l } : Monitor).status = l := by decide
/-- Monitor 0 on the oil temperature, trip 100, HOLD_ANY, both booms. -/
def oilMonitor : Monitor :=
  { cfg := { enable := true, source := .value .oil, warn := 90, trip := 100, tripActs := { holdAny := true } } }
set_option maxRecDepth 8000 in
theorem witness_PublicationTestsMonitors :
    let s := { drilling with monitors := drilling.monitors.set 0 oilMonitor }
    let y := s.analogs.oil.sample .oil (s.cal.shift .oil) 320 (s.cal.convert .oil 320)
    s.phase = .running ∧ s.monitors.length = 12 ∧ (s.monitor 0).cfg.source = .value .oil ∧
      (s.monitor 0).cfg.enable = true ∧ y.valid = true ∧ (s.monitor 0).status = .normal ∧
      ((s.monitor 0).tested y.val).status = .trip ∧ (s.engine .A).state.engaged = true := by decide
/-- A level entered holds boom A: WARN by HOLD_ANY, TRIP by HOLD_DRILL while it drills, and in HOLD while it drilled. -/
theorem witness_PublicationTestsMonitors_held :
    let m : Monitor := { cfg := { sagMonitor.cfg with warnActs := { holdAny := true }, tripActs := { holdDrill := true } } }
    let s := { drilling with monitors := drilling.monitors.set 3 m }
    let u (x : Int) := s.setAnalog .canopy { value := some x }
    (s.monitors.length = 12 ∧ (s.monitor 3).cfg.source ∈ [Source.value .canopy] ∧ (s.monitor 3).cfg.source ∉ [Source.value .pump] ∧
      (s.monitor 3).cfg.enable = true) ∧
      ((u 1040).sourceValid (.value .canopy) = true ∧ s.sourceValid (.value .canopy) = false) ∧
      ((s.monitor 3).status = .normal ∧ ((s.monitor 3).tested ((u 1040).sourceValue (.value .canopy))).status = .warn ∧
        ((s.monitor 3).tested ((u 940).sourceValue (.value .canopy))).status = .trip) ∧
      ((s.monitor 3).cfg.scope.has .A = true ∧ (s.engine .A).state = .drill) ∧
      ((rig { state := .hold, resume := some .drill }).engine .A).resume = some .drill := by decide
theorem witness_SetMonitorAndClearLatch :
    (idle.takesFrames = true ∧ sagRequest.length = 13 ∧ idle.monitors.length = 12 ∧
      ∀ k < 11, 1 ≤ k → monitorFieldOk sagRequest k = true) ∧
      (monitorFieldOk (sagRequest.set 0 12) 1 = false ∧ monitorFieldOk (sagRequest.set 12 3) 10 = false ∧
        ∀ k < 10, 1 ≤ k → monitorFieldOk (sagRequest.set 12 3) k = true) ∧
      (monitorOf sagRequest).enable = true ∧
      (idle.setAnalog .canopy { value := some 1100 }).sourceValid (monitorOf sagRequest).source = true ∧
      (11 : Byte).toNat ≤ 11 ∧ 12 ≤ (12 : Byte).toNat ∧ (255 : Byte).toNat = 255 := by decide
/-- An immediate test that enters TRIP of a monitor with both booms in scope, one of which drills. -/
theorem witness_SetMonitorAndClearLatch_tested :
    let s := drilling.setAnalog .canopy { value := some 930 }
    let c := monitorOf sagRequest
    s.takesFrames = true ∧ s.monitors.length = 12 ∧ c.enable = true ∧ s.sourceValid c.source = true ∧
      (Monitor.tested { cfg := c } (s.sourceValue c.source)).status = .trip ∧ c.scope.has .A = true ∧
      c.tripActs.holdAny = true ∧ c.warnActs.holdAny = false ∧ (s.engine .A).state = .drill ∧
      (s.engine .B).state ≠ .collar := by decide
theorem witness_ReleaseFilesRoomQueue :
    (idle.takesFrames = true ∧ idle.store.records = []) ∧
      ((full {}).store.records.map (·.number)).head? = some (some (BitVec.ofNat 16 ((0xFF : Byte).toNat * 256 + 0xFD))) ∧
      (full {}).store.room = [] ∧
      ((sent waiting).takesFrames = true ∧ waiting.store.room = .A :: [.B] ∧ (waiting.engine .A).record.isSome = true ∧
        (waiting.engine .A).state = .filing ∧ (waiting.engine .B).state ≠ .filing) := by decide

set_option maxRecDepth 100000 in
theorem witness_CalibrationTaken :
    let payload := calBytes calDefaults
    let bad := calBytes (calDefaults.set 95 99)
    (idle.takesFrames = true ∧ payload.length = 192 ∧ idle.cal.writing = none ∧ (idle.engine .A).state = .idle ∧
      (idle.engine .B).state = .idle ∧ idle.canopy.state ≠ .raising ∧ idle.canopy.state ≠ .lowering) ∧
      (∀ k < 97, 1 ≤ k → calValueOk (calValues payload) k = true) ∧
      (calValueOk (calValues bad) 96 = false ∧ ∀ k < 96, 1 ≤ k → calValueOk (calValues bad) k = true) ∧
      (drilling.engine .A).state = .drill ∧
      ({ idle with cal := { idle.cal with writing := some calDefaults } } : State).cal.writing ≠ none ∧
      crc16 idle.cal.image ≠ idle.cal.crc ∧
      ({ idle with cal := { idle.cal with crc := 0x2178 } } : State).cal.crc = crc16 idle.cal.image := by decide
set_option maxRecDepth 100000 in
/-- A set that makes a wait due, turns a stale mark, caps a feed jog and changes a sensing mode. -/
theorem witness_CalibrationTaken_followed :
    let w : Waiting :=
      { req := { who := .canopy, purpose := .canopyRaise, cls := Purpose.canopyRaise.cls, demand := 20, stamp := 1 }, wait := 30000
        starved := false }
    let s : State :=
      ({ idle with
        now := 10000000, arb := { budget := 10, counter := 1, waits := [w] } } : State).setEngine .A
          { state := .ready, jog := some { fn := .feed, dir := .first, duty := 800, left := 100 } }
    let s := s.setPair (.boom .A .feed) atZero
    let t := s.applySet calDefaults
    (ArbiterOk s.arb ∧ s.monitors.length = 12 ∧ (s.engine .A).restricted = s.restrictedNow .A) ∧
      s.calibratable = true ∧ t.cal.starvation ≤ w.wait ∧ ((t.head .A).stale = true ∧ (s.head .A).stale = false) ∧
      ((t.engine .A).restricted ≠ (s.engine .A).restricted ∧ (s.pair (.boom .A .feed)).dir.isSome = true ∧
        (t.pair (.boom .A .feed)).duty = 500) ∧
      ((s.setSensing .A { hop := !t.cal.hop .A }).sensing .A).hop ≠ t.cal.hop .A := by
  unfold ArbiterOk; decide
theorem witness_StoreWritesCopy :
    idle.takesFrames = true ∧ idle.cal.writing = none ∧ idle.phase = .running ∧ idle.link.resetStage ≠ .due ∧
      ({ idle with cal := { idle.cal with writing := some calDefaults } } : State).cal.writing = some calDefaults ∧
      (let s := { idle with link := { idle.link with resetStage := .due }, cal := { idle.cal with writing := some calDefaults } }
      s.phase = .running ∧ s.cal.writing = some calDefaults ∧ s.link.resetStage = .due) := by decide
theorem witness_PowerOnLoadsCalibration :
    started.cal.writing = none ∧ started.phase = .running ∧ (run (.powerOnReset true false) started).phase = .loading ∧
      ({ idle with cal := { idle.cal with writing := some calDefaults } } : State).cal.writing ≠ none := by decide
theorem witness_StepKeepsArbiter :
    let s := { drilling with arb := flow4, pending := [.setPumpBudget 5 [0, 40]] }
    ArbiterOk s.arb ∧ StampsOk s.arb ∧ ∃ t, step s = .next t := ⟨flow4_ok, flow4_stamps, _, rfl⟩
theorem witness_StepKeepsBoomsUnderCanopy :
    let s := { drilling with pending := [.headTransactionEnd .noAck] }
    EngagedUnderCanopy s ∧ ∃ t, step s = .next t := ⟨fun b => by cases b <;> decide, _, rfl⟩
theorem witness_StepKeepsCoils :
    let s := { (run (.start 1 [0]) ready) with pending := [.switchQualifiedChange (.prs .A)] }
    CoilsOk s ∧ ∃ t, step s = .next t := by
  refine ⟨fun p => ?_, _, rfl⟩
  rcases p with ⟨b, f⟩ | _
  · cases b <;> cases f
    exacts [fun _ => rfl, ⟨rfl, rfl, rfl, rfl⟩, fun _ => rfl, fun _ => rfl, fun _ => rfl, fun _ => rfl]
  · exact fun _ => rfl
theorem witness_StepKeepsJobs :
    let s := { started with pending := [.replySent] }
    JobsOk s ∧ ∃ t, step s = .next t :=
  ⟨⟨by decide, by decide, fun b => by cases b <;> decide, by decide, fun b => by cases b <;> decide⟩, _, rfl⟩
theorem witness_StepKeepsRecordsAndMeasures :
    let s := { full { state := .drill } with pending := [.releaseRecord 6 [0xFF, 0xFD]] }
    (StoreOk s.store ∧ LatchesOk s ∧ RestrictedOk s ∧ CountsOk s ∧ RangesOk s) ∧ ∃ t, step s = .next t := by
  refine ⟨⟨⟨by decide, ?_⟩, by unfold LatchesOk; decide, fun b => by cases b <;> decide, ⟨fun c => ?_, fun b => ?_⟩,
    fun b => by cases b <;> decide⟩, _, rfl⟩
  · decide
  · cases c <;> exact ⟨by decide, fun p h => nomatch h⟩
  · cases b <;> exact ⟨by decide, fun p h => nomatch h⟩

end Sys2Proof.Tests
end

section
/-! PROOF. DROP PLAN and CANCEL JOB (chapter 1): what each request decides, what it makes of the plan table, the queue and the
reference counts, and the reply that it draws. -/
namespace Sys2Proof.Machine

/-! ## Requests of fixed length that reach their block -/

/-- The taking of a frame touches the link alone, so it commutes with an update of a boom. -/
theorem State.frameTaken_setBoom (s : State) (b : BoomId) (x : BoomState) :
    s.frameTaken.setBoom b x = { s.setBoom b x with link := s.frameTaken.link } := by cases b <;> rfl

section
variable {i : Instr} {s : State} {payload : List Byte} {n : Nat} {seq code : Byte} {decide : State → Decision}

/-- A request of fixed length, taken and decided, is answered with its decision (log 46 puts the reply on the line at once). -/
theorem AnsweredIn.of_serveFixed {u : State} {a : Answer} (h : s.takesFrames = true)
    (hi : exec i s = .next (s.serveFixed seq code n payload decide)) (hn : payload.length = n) (hl : n ≤ 250)
    (hd : decide s.frameTaken = ⟨{ u with link := s.frameTaken.link }, a⟩) (hk : u.link = s.link) :
    AnsweredIn i s u seq code a := by
  have hs : (decide s.frameTaken).state = { u with link := s.frameTaken.link } := by rw [hd]
  refine ⟨true, ?_⟩
  rw [hi, State.serveFixed_answered h hn hl seq code decide hs hk, hd]
  rfl

/-- A request of fixed length, taken and refused by its block, leaves the part as it was. -/
theorem AnsweredIn.of_refused {r : Reason} {d : Nat} (h : s.takesFrames = true)
    (hi : exec i s = .next (s.serveFixed seq code n payload decide)) (hn : payload.length = n) (hl : n ≤ 250)
    (hd : decide s.frameTaken = ⟨s.frameTaken, .refused r d⟩) : AnsweredIn i s s seq code (.refused r d) :=
  .of_serveFixed h hi hn hl hd rfl

end

/-- R198: a boom field above 1 names no boom. -/
theorem withBoom_above {n : Nat} (h : 2 ≤ n) (decide : BoomId → State → Decision) (s : State) :
    withBoom n decide s = s.badField 1 := by simp [withBoom, boomOf_above h]

/-! ## DROP PLAN -/

theorem exec_dropPlan (seq : Byte) (payload : List Byte) (s : State) :
    exec (.dropPlan seq payload) s = .next (s.serveFixed seq 0x07 1 payload (decideDropPlan payload)) := rfl

theorem dropPlan_sorted {ps : List HolePlan} (h : ps.Pairwise (fun x y => x.id < y.id)) (id : Nat) :
    (dropPlan id ps).Pairwise (fun x y => x.id < y.id) := h.filter _

/-- A table in rising order of id holds an id once: dropping a stored id takes one plan out. -/
theorem dropPlan_length {ps : List HolePlan} (h : ps.Pairwise (fun x y => x.id < y.id)) {id : Nat}
    (hf : (findPlan ps id).isSome = true) : (dropPlan id ps).length + 1 = ps.length := by
  induction ps with
  | nil => simp [findPlan] at hf
  | cons x xs ih =>
    obtain ⟨hx, hs⟩ := List.pairwise_cons.1 h
    by_cases he : x.id = id
    · have hrest : dropPlan id xs = xs :=
        List.filter_eq_self.2 fun y hy => by simpa using (he ▸ hx y hy).ne'
      have hdrop : dropPlan id (x :: xs) = dropPlan id xs := by simp [dropPlan, he]
      rw [hdrop, hrest, List.length_cons]
    · have hdrop : dropPlan id (x :: xs) = x :: dropPlan id xs := by simp [dropPlan, he]
      have hfind : findPlan (x :: xs) id = findPlan xs id := by simp [findPlan, he]
      rw [hdrop, List.length_cons, List.length_cons, ih hs (hfind ▸ hf)]

theorem byte_toNat_ne_zero {id : Byte} (h : id ≠ 0) : id.toNat ≠ 0 := fun e => h (BitVec.eq_of_toNat_eq e)

section
variable {id : Byte} {s : State}

theorem decideDropPlan_zero (s : State) : decideDropPlan [0] s = s.badField 1 := rfl

theorem decideDropPlan_noPlan (hid : id ≠ 0) (hf : findPlan s.plans id.toNat = none) :
    decideDropPlan [id] s = s.refuse .noPlan := by
  simp [decideDropPlan, byte_toNat_ne_zero hid, hf]

theorem decideDropPlan_inUse (hid : id ≠ 0) (hf : (findPlan s.plans id.toNat).isSome = true) (hr : 0 < s.refs id.toNat) :
    decideDropPlan [id] s = s.refuse .planInUse := by
  simp [decideDropPlan, byte_toNat_ne_zero hid, Option.isSome_iff_ne_none.1 hf, hr]

theorem decideDropPlan_unused (hid : id ≠ 0) (hf : (findPlan s.plans id.toNat).isSome = true) (hr : s.refs id.toNat = 0) :
    decideDropPlan [id] s =
      ⟨{ s with plans := dropPlan id.toNat s.plans },
        .accepted [.u8 id.toNat, .u8 (dropPlan id.toNat s.plans).length]⟩ := by
  simp [decideDropPlan, byte_toNat_ne_zero hid, Option.isSome_iff_ne_none.1 hf, hr, State.accept]

end

/-- Settles O14: R5's checks in their order; the plan dropped is the only one of its id in the ordered table. -/
theorem dropPlanFreesId : Obligations.DropPlanFreesId := by
  unfold Obligations.DropPlanFreesId
  intro q id s h hsorted i
  have hi : exec i s = .next (s.serveFixed q 0x07 1 [id] (decideDropPlan [id])) := exec_dropPlan q [id] s
  refine ⟨?zero, ?noPlan, ?inUse, ?dropped⟩
  case zero =>
    rintro rfl
    exact .of_refused h hi rfl (by decide) (decideDropPlan_zero _)
  case noPlan =>
    intro hid hf
    exact .of_refused h hi rfl (by decide) (decideDropPlan_noPlan hid hf)
  case inUse =>
    intro hid hf hr
    exact .of_refused h hi rfl (by decide) (decideDropPlan_inUse hid hf hr)
  case dropped =>
    intro hid hf hr
    refine ⟨dropPlan id.toNat s.plans,
      .of_serveFixed h hi rfl (by decide) (decideDropPlan_unused (s := s.frameTaken) hid hf hr) rfl,
      ?_, fun k hk => ?_, dropPlan_sorted hsorted _, dropPlan_length hsorted hf⟩
    · rw [findPlan_dropPlan, if_pos rfl]
    · rw [findPlan_dropPlan, if_neg hk]

/-! ## CANCEL JOB -/

theorem exec_cancelJob (seq : Byte) (payload : List Byte) (s : State) :
    exec (.cancelJob seq payload) s =
      .next (s.serveFixed seq 0x0A 3 payload (withBoom (byteAt payload 0) (decideCancelJob payload))) := rfl

/-- Where no two queued jobs share a tag, taking out a job by its tag takes out that job alone. -/
theorem filter_tag_ne_of_split {x y : List Job} {j : Job} (hn : ((x ++ j :: y).map (·.tag)).Nodup) :
    (x ++ j :: y).filter (fun k => k.tag != j.tag) = x ++ y := by
  rw [List.map_append, List.map_cons, List.nodup_middle, List.nodup_cons, ← List.map_append] at hn
  have hkeep : ∀ k ∈ x ++ y, (k.tag != j.tag) = true := fun k hk =>
    bne_iff_ne.2 fun e => hn.1 (e ▸ List.mem_map_of_mem hk)
  calc (x ++ j :: y).filter (fun k => k.tag != j.tag)
      = (x ++ y).filter (fun k => k.tag != j.tag) := by simp
    _ = x ++ y := List.filter_eq_self.2 hkeep

/-- R14: a boom that a cancelled job leaves with the queue `q`: READY with an empty queue becomes IDLE. -/
def BoomState.cancelledTo (x : BoomState) (q : List Job) : BoomState :=
  { x with
    queue := q
    engine :=
      if q = [] ∧ x.engine.state = .ready then { x.engine with state := .idle, sub := .none, leg := none, resume := none }
      else x.engine }

@[simp] theorem BoomState.cancelledTo_active (x : BoomState) (q : List Job) : (x.cancelledTo q).active = x.active := rfl
@[simp] theorem BoomState.cancelledTo_queue (x : BoomState) (q : List Job) : (x.cancelledTo q).queue = q := rfl

theorem State.cancelJob_eq (s : State) (b : BoomId) (tag : Nat) :
    s.cancelJob b tag =
      s.setBoom b ((s.boom b).cancelledTo ((s.boom b).queue.filter (fun j => j.tag != tag))) := by
  unfold State.cancelJob BoomState.cancelledTo
  generalize (s.boom b).queue.filter (fun j => j.tag != tag) = q
  by_cases h : q = [] ∧ (s.boom b).engine.state = .ready
  · cases b <;> simp [State.engine, h] <;> rfl
  · cases b <;> simp [State.engine, h] <;> rfl

/-- R6: a plan's references are those of one boom's jobs and of the other's. -/
theorem State.refs_eq_countP (s : State) (b : BoomId) (id : Nat) :
    s.refs id =
      (s.boom b).jobs.countP (fun j => j.planId == id) + (s.boom (otherBoom b)).jobs.countP (fun j => j.planId == id) := by
  rw [State.refs, ← List.countP_eq_length_filter, List.countP_append]
  cases b
  · rfl
  · exact Nat.add_comm _ _

/-- R6: a job that leaves a queue takes one reference of its plan with it. -/
theorem State.refs_cancelledTo {s : State} {b : BoomId} {x y : List Job} {j : Job} (hq : (s.boom b).queue = x ++ j :: y) :
    (s.setBoom b ((s.boom b).cancelledTo (x ++ y))).refs j.planId + 1 = s.refs j.planId := by
  have hother : otherBoom b ≠ b := by cases b <;> decide
  rw [State.refs_eq_countP _ b, State.refs_eq_countP s b]
  simp only [State.setBoom_boom, if_true, if_neg hother, BoomState.jobs, BoomState.cancelledTo_active,
    BoomState.cancelledTo_queue, hq, List.countP_append, List.countP_cons, beq_self_eq_true]
  omega

section
variable {x hi lo : Byte} {b : BoomId} {s : State}

/-- The active place does not hold the tag, as the check of R14 reads it. -/
theorem active_any_eq_false {o : Option Job} {tag : Nat} (h : ∀ j, o = some j → j.tag ≠ tag) :
    o.any (fun j => j.tag == tag) = false := by
  cases o with
  | none => rfl
  | some j => exact beq_false_of_ne (h j rfl)

theorem u16At_tag (x hi lo : Byte) : u16At [x, hi, lo] 1 = hi.toNat * 256 + lo.toNat := rfl

theorem decideCancelJob_active {j : Job} (ha : (s.boom b).active = some j) (ht : j.tag = hi.toNat * 256 + lo.toNat) :
    decideCancelJob [x, hi, lo] b s = s.refuse .wrongState := by
  simp [decideCancelJob, u16At_tag, ha, ht]

theorem decideCancelJob_unheld (h : ∀ j ∈ (s.boom b).jobs, j.tag ≠ hi.toNat * 256 + lo.toNat) :
    decideCancelJob [x, hi, lo] b s = s.refuse .noJob := by
  obtain ⟨ha, hq⟩ := List.forall_mem_append.1 h
  have hactive : (s.boom b).active.any (fun j => j.tag == hi.toNat * 256 + lo.toNat) = false :=
    active_any_eq_false fun j hj => ha j (Option.mem_toList.2 hj)
  have hqueue : (s.boom b).queue.all (fun j => j.tag != hi.toNat * 256 + lo.toNat) = true := by simpa using hq
  simp [decideCancelJob, u16At_tag, hactive, hqueue]

theorem decideCancelJob_queued {y z : List Job} {j : Job}
    (ha : ∀ k, (s.boom b).active = some k → k.tag ≠ hi.toNat * 256 + lo.toNat) (hq : (s.boom b).queue = y ++ j :: z)
    (ht : j.tag = hi.toNat * 256 + lo.toNat) (hn : ((s.boom b).queue.map (·.tag)).Nodup) :
    decideCancelJob [x, hi, lo] b s =
      ⟨s.setBoom b ((s.boom b).cancelledTo (y ++ z)), .accepted [.u8 b.num, .u16 j.tag, .u8 (y ++ z).length]⟩ := by
  have hactive : (s.boom b).active.any (fun k => k.tag == j.tag) = false := active_any_eq_false (ht ▸ ha)
  have hqueue : (s.boom b).queue.all (fun k => k.tag != j.tag) = false := by simp [hq]
  have hcancel : s.cancelJob b j.tag = s.setBoom b ((s.boom b).cancelledTo (y ++ z)) := by
    rw [State.cancelJob_eq, hq, filter_tag_ne_of_split (hq ▸ hn)]
  simp only [decideCancelJob, u16At_tag, ← ht, hactive, hqueue, hcancel, Bool.false_eq_true, if_false, State.accept,
    State.setBoom_boom, if_true, BoomState.cancelledTo_queue]

end

/-- Settles O16: R14's checks in their order; the tag found in the queue names one job there, which alone leaves it. -/
theorem cancelJobRemoves : Obligations.CancelJobRemoves := by
  unfold Obligations.CancelJobRemoves
  rintro q hi lo b s tag h rfl i
  have hexec : exec i s =
      .next (s.serveFixed q 0x0A 3 [BitVec.ofNat 8 b.num, hi, lo] (decideCancelJob [BitVec.ofNat 8 b.num, hi, lo] b)) := by
    have hboom : withBoom b.num (decideCancelJob [BitVec.ofNat 8 b.num, hi, lo]) =
        decideCancelJob [BitVec.ofNat 8 b.num, hi, lo] b := funext fun t => withBoom_num b _ t
    rw [exec_cancelJob, byteAt_zero, BoomId.num_byte, hboom]
  refine ⟨?noBoom, ?active, ?unheld, ?queued⟩
  case noBoom =>
    intro x hx
    exact .of_refused h (exec_cancelJob q [x, hi, lo] s) rfl (by decide) (withBoom_above hx _ _)
  case active =>
    rintro ⟨j, ha, ht⟩
    exact .of_refused h hexec rfl (by decide) (decideCancelJob_active (by simpa using ha) ht)
  case unheld =>
    intro hj
    exact .of_refused h hexec rfl (by decide) (decideCancelJob_unheld (by simpa using hj))
  case queued =>
    rintro ha ⟨j, hj, ht⟩ hn
    obtain ⟨x, y, hq⟩ := List.append_of_mem hj
    have hd := decideCancelJob_queued (x := BitVec.ofNat 8 b.num) (s := s.frameTaken) (by simpa using ha)
      (by simpa using hq) ht (by simpa using hn)
    rw [State.frameTaken_boom, State.frameTaken_setBoom, ht] at hd
    exact ⟨x, y, j, s.setBoom b ((s.boom b).cancelledTo (x ++ y)), hq, ht, rfl, State.refs_cancelledTo hq,
      .of_serveFixed h hexec rfl (by decide) hd (State.setBoom_link s b _)⟩

end Sys2Proof.Machine
end

section
/-! PROOF. The limit monitors (chapter 10): reaching a level against coming back past it, and what a test makes of each status. -/
namespace Sys2Proof.Machine

/-! ## A value against a level -/

section
variable {c : MonitorConfig} {level x : Int}

theorem MonitorConfig.reaches_iff :
    c.reaches level x = true ↔ if c.below = true then x ≤ level else level ≤ x := by
  unfold MonitorConfig.reaches
  split <;> exact decide_eq_true_iff

theorem MonitorConfig.returns_iff :
    c.returns level x = true ↔ if c.below = true then level + c.hyst < x else x < level - c.hyst := by
  unfold MonitorConfig.returns
  split <;> exact decide_eq_true_iff

/-- The hysteresis is no negative number, so a value at or past a level never counts as back from it. -/
theorem MonitorConfig.not_returns_of_reaches (h : c.reaches level x = true) : ¬c.returns level x = true := by
  rw [reaches_iff] at h
  rw [returns_iff]
  split_ifs at h ⊢ <;> omega

/-- The trip level lies beyond the warn level in the monitor's direction, so a value that reaches it has reached both. -/
theorem MonitorConfig.reaches_warn_of_reaches_trip
    (hlevels : if c.below = true then c.trip < c.warn else c.warn < c.trip) (h : c.reaches c.trip x = true) :
    c.reaches c.warn x = true := by
  rw [reaches_iff] at h ⊢
  split_ifs at hlevels h ⊢ <;> omega

end

/-! ## A test, status by status -/

@[simp] theorem Monitor.tested_status (m : Monitor) (x : Int) : (m.tested x).status = m.nextStatus x := rfl
@[simp] theorem Monitor.tested_warnSeen (m : Monitor) (x : Int) :
    (m.tested x).warnSeen = (m.warnSeen || m.entersWarn x) := rfl
@[simp] theorem Monitor.tested_tripSeen (m : Monitor) (x : Int) :
    (m.tested x).tripSeen = (m.tripSeen || m.entersTrip x) := rfl

section
variable {m : Monitor} {x : Int}

theorem Monitor.entersWarn_of_normal (h : m.status = .normal) : m.entersWarn x = m.cfg.reaches m.cfg.warn x := by
  simp [entersWarn, h]

theorem Monitor.entersWarn_of_ne_normal (h : m.status ≠ .normal) : m.entersWarn x = false := by
  simp [entersWarn, h]

theorem Monitor.entersTrip_of_normal (h : m.status = .normal) :
    m.entersTrip x = (m.cfg.reaches m.cfg.warn x && m.cfg.reaches m.cfg.trip x) := by
  have hnot : (m.status == .warn) = false := by rw [h]; rfl
  rw [entersTrip, entersWarn_of_normal h, hnot, Bool.false_or]

theorem Monitor.entersTrip_of_warn (h : m.status = .warn) : m.entersTrip x = m.cfg.reaches m.cfg.trip x := by
  simp [entersTrip, h]

theorem Monitor.entersTrip_of_trip (h : m.status = .trip) : m.entersTrip x = false := by
  simp [entersTrip, entersWarn_of_ne_normal, h]

/-- A NORMAL monitor rises to WARN, and on to TRIP in the same test. -/
theorem Monitor.nextStatus_of_normal (h : m.status = .normal) :
    m.nextStatus x =
      if m.cfg.reaches m.cfg.warn x then if m.cfg.reaches m.cfg.trip x then .trip else .warn else .normal := by
  simp only [nextStatus, entersTrip_of_normal h, entersWarn_of_normal h, Bool.and_eq_true]
  cases m.cfg.reaches m.cfg.warn x
  · simp [fallen, h]
  · simp

/-- A WARN monitor rises to TRIP, else it may come back past its warn level. -/
theorem Monitor.nextStatus_of_warn (h : m.status = .warn) :
    m.nextStatus x =
      if m.cfg.reaches m.cfg.trip x then .trip else if m.cfg.returns m.cfg.warn x then .normal else .warn := by
  simp [nextStatus, entersTrip_of_warn h, entersWarn_of_ne_normal, fallen, h]

/-- A TRIP monitor never rises; it comes back past its trip level first, and past its warn level in the same test. -/
theorem Monitor.nextStatus_of_trip (h : m.status = .trip) :
    m.nextStatus x =
      if m.cfg.returns m.cfg.trip x then if m.cfg.returns m.cfg.warn x then .normal else .warn else .trip := by
  simp only [nextStatus, entersTrip_of_trip h, entersWarn_of_ne_normal (h.trans_ne (by decide)), fallen, h]
  cases m.cfg.returns m.cfg.trip x <;> simp

end

/-- Settles O48: R175's two parts. The order of the levels makes a value that reaches TRIP reach WARN too, and a value that
reaches a level is not back past it, so rising and falling exclude each other. -/
theorem monitorTestSteps : Obligations.MonitorTestSteps := by
  unfold Obligations.MonitorTestSteps
  intro m x c t up back hlevels
  have hup (level : Int) : up level ↔ c.reaches level x = true := MonitorConfig.reaches_iff.symm
  have hback (level : Int) : back level ↔ c.returns level x = true := MonitorConfig.returns_iff.symm
  have hbelow {level : Int} (h : ¬up level) : c.reaches level x = false := Bool.eq_false_iff.2 ((hup level).not.1 h)
  have hwarn : up c.trip → up c.warn := by
    simpa only [hup] using MonitorConfig.reaches_warn_of_reaches_trip hlevels
  have hstays : back c.warn → ¬up c.trip := fun hb hu =>
    MonitorConfig.not_returns_of_reaches ((hup _).1 (hwarn hu)) ((hback _).1 hb)
  refine ⟨rfl, rfl, ?normal, ?warn, ?trip⟩
  case normal =>
    intro h
    have hnext : t.status = if up c.warn then if up c.trip then .trip else .warn else .normal := by
      simpa only [hup, t, c, Monitor.tested_status] using Monitor.nextStatus_of_normal h
    have hwarnSeen : t.warnSeen = (m.warnSeen || c.reaches c.warn x) := by
      simp only [t, Monitor.tested_warnSeen, Monitor.entersWarn_of_normal h, c]
    have htripSeen : t.tripSeen = (m.tripSeen || (c.reaches c.warn x && c.reaches c.trip x)) := by
      simp only [t, Monitor.tested_tripSeen, Monitor.entersTrip_of_normal h, c]
    refine ⟨fun ht => ?_, fun ht hw => ?_, fun hw => ?_⟩
    · have hw := hwarn ht
      simp [hnext, hwarnSeen, htripSeen, hw, ht, (hup _).1 hw, (hup _).1 ht]
    · simp [hnext, hwarnSeen, htripSeen, hw, ht, (hup _).1 hw, hbelow ht]
    · simp [hnext, hwarnSeen, htripSeen, hw, hbelow hw]
  case warn =>
    intro h
    have hnext : t.status = if up c.trip then .trip else if back c.warn then .normal else .warn := by
      simpa only [hup, hback, t, c, Monitor.tested_status] using Monitor.nextStatus_of_warn h
    have htripSeen : t.tripSeen = (m.tripSeen || c.reaches c.trip x) := by
      simp only [t, Monitor.tested_tripSeen, Monitor.entersTrip_of_warn h, c]
    refine ⟨fun ht => ⟨?_, ?_⟩, fun ht hb => ?_, fun hb => ?_⟩
    · rw [hnext, if_pos ht]
    · rw [htripSeen, (hup _).1 ht, Bool.or_true]
    · rw [hnext, if_neg ht, if_neg hb]
    · rw [hnext, if_neg (hstays hb), if_pos hb]
  case trip =>
    intro h
    have hnext : t.status = if back c.trip then if back c.warn then .normal else .warn else .trip := by
      simpa only [hback, t, c, Monitor.tested_status] using Monitor.nextStatus_of_trip h
    refine ⟨fun hb => ?_, fun ht hw => ?_, fun ht hw => ?_⟩
    · rw [hnext, if_neg hb]
    · rw [hnext, if_pos ht, if_neg hw]
    · rw [hnext, if_pos ht, if_pos hw]

end Sys2Proof.Machine
end

section
/-! PROOF. Properties that every act of a cycle engine keeps: what a property of the part reads (`SameKept`), the few updates an
engine's acts are made of (`EngineKept`), and the acts one by one. -/
namespace Sys2Proof.Machine

/-! ## What the invariants read -/

/-- Two boom states agree in everything that the invariants read. -/
structure SameBoom (x y : BoomState) : Prop where
  queue : y.queue = x.queue
  active : y.active = x.active
  engine : y.engine = x.engine
  pairs : y.pairs = x.pairs
  prs : y.switches.prs.level = x.switches.prs.level
  count : y.head.count = x.head.count
  restore : y.head.restore = x.head.restore
  stale : y.head.stale = x.head.stale
  feedPos : y.motion.feedPos = x.motion.feedPos
  scanPos : y.motion.scanPos = x.motion.scanPos
  magazine : y.sensing.magazine = x.sensing.magazine

theorem SameBoom.refl (x : BoomState) : SameBoom x x := ⟨rfl, rfl, rfl, rfl, rfl, rfl, rfl, rfl, rfl, rfl, rfl⟩

/-- Two states agree in everything that the invariants read. -/
structure SameKept (s t : State) : Prop where
  arb : t.arb = s.arb
  store : t.store = s.store
  plans : t.plans = s.plans
  trip : t.trip = s.trip
  canopy : t.canopy.state = s.canopy.state
  canopyPair : t.canopyPair = s.canopyPair
  monitors : t.monitors = s.monitors
  analogs : t.analogs = s.analogs
  left : ∀ b, t.scan.left b = s.scan.left b
  boom : ∀ b, SameBoom (s.boom b) (t.boom b)

theorem SameKept.of_setBoom {s : State} {b : BoomId} {x : BoomState} (h : SameBoom (s.boom b) x) :
    SameKept s (s.setBoom b x) := by
  refine ⟨by simp, by simp, by simp, by simp, by simp, by simp, by simp, by simp, by simp, fun c => ?_⟩
  by_cases hc : c = b
  · subst hc
    simpa using h
  · have : (s.setBoom b x).boom c = s.boom c := by
      revert hc
      cases b <;> cases c <;> simp [State.boom, State.setBoom]
    rw [this]
    exact .refl _

theorem SameKept.of_raise (s : State) (e : Event) : SameKept s (s.raise e) :=
  ⟨rfl, rfl, rfl, rfl, rfl, rfl, rfl, rfl, fun _ => rfl, fun b => by cases b <;> exact .refl _⟩

theorem SameKept.of_setLogger (s : State) (b : BoomId) (l : Logger) : SameKept s (s.setLogger b l) :=
  .of_setBoom ⟨rfl, rfl, rfl, rfl, rfl, rfl, rfl, rfl, rfl, rfl, rfl⟩

theorem SameKept.of_canopyMark (s : State) (x : Bool) :
    SameKept s { s with canopy := { s.canopy with armOnGrant := x } } :=
  ⟨rfl, rfl, rfl, rfl, rfl, rfl, rfl, rfl, fun _ => rfl, fun b => by cases b <;> exact .refl _⟩

/-! ## The updates an engine's acts are made of -/

/-- A property that every single update of an engine's acts keeps. -/
structure EngineKept (P : State → Prop) : Prop where
  same : ∀ {s t : State}, SameKept s t → P s → P t
  engine : ∀ {s : State} b e, e.restricted = (s.engine b).restricted → P s → P (s.setEngine b e)
  clearActive : ∀ {s : State} b, P s → P (s.setActive b none)
  request : ∀ {s : State} p r, P s → P (s.request p r)
  submit : ∀ {s : State} who p d, P s → P { s with arb := (s.arb.submit who p d).pass.1 }
  remove : ∀ {s : State} who, P s → P { s with arb := (s.arb.remove who).pass.1 }
  filing : ∀ {s : State} (r : InstRecord), s.store.records.length < 8 → P s →
    P { s with
        store :=
          { s.store with records := s.store.records ++ [{ r with number := some s.store.next }], next := s.store.next + 1 } }
  room : ∀ {s : State} (q : List BoomId), P s → P { s with store := { s.store with room := q } }

/-- A property that both branches of a choice have. -/
theorem property_ite {P : State → Prop} {s t : State} {c : Prop} [Decidable c] (hs : P s) (ht : P t) :
    P (if c then s else t) := by
  split
  · exact hs
  · exact ht

namespace EngineKept
variable {P : State → Prop} (k : EngineKept P) {s : State}
include k

/-! ## Records, loggers and events -/

theorem raise (e : Event) (h : P s) : P (s.raise e) := k.same (.of_raise s e) h

theorem setLogger (b : BoomId) (l : Logger) (h : P s) : P (s.setLogger b l) := k.same (.of_setLogger s b l) h

theorem modRecord (b : BoomId) (f : InstRecord → InstRecord) (h : P s) : P (s.modRecord b f) := k.engine b _ rfl h

theorem flagRecord (b : BoomId) (f : RecordFlag) (h : P s) : P (s.flagRecord b f) := k.modRecord b _ h

theorem goto (b : BoomId) (st : EngineState) (sub : SubCond) (h : P s) : P (s.goto b st sub) := k.engine b _ rfl h

theorem choose (b : BoomId) (h : P s) : P (s.choose b) := k.goto b _ _ h

theorem putLogger (b : BoomId) (l : Logger) (h : P s) : P (s.putLogger b l) := by
  unfold State.putLogger
  dsimp only
  split
  · exact k.flagRecord b _ (k.raise _ (k.setLogger b l h))
  · exact k.setLogger b l h

/-! ## Drives and flow -/

theorem boomOff (b : BoomId) (hold : Bool) (h : P s) : P (s.boomOff b hold) :=
  k.request _ _ (k.request _ _ (k.request _ _ h))

theorem issueStep (b : BoomId) (m : Arming) (h : P s) : P (s.issueStep b m) :=
  k.request _ _ (k.request _ _ (k.request _ _ h))

theorem issueJog (b : BoomId) (j : Jog) (h : P s) : P (s.issueJog b j) :=
  k.request _ _ (k.request _ _ (k.request _ _ h))

theorem reissueFeed (b : BoomId) (h : P s) : P (s.reissueFeed b) := by
  unfold State.reissueFeed
  dsimp only
  split
  · exact k.request _ _ h
  · exact h

theorem onBoomGrant (b : BoomId) (h : P s) : P (s.onBoomGrant b) := by
  unfold State.onBoomGrant
  split
  · exact k.issueJog b _ h
  · exact k.engine b _ rfl (k.issueStep b _ h)

theorem onBoomPreempt (b : BoomId) (h : P s) : P (s.onBoomPreempt b) := by
  unfold State.onBoomPreempt
  dsimp only
  split
  · exact k.flagRecord b _ (k.boomOff b _ h)
  · exact k.boomOff b _ h

theorem onCanopyGrant (h : P s) : P s.onCanopyGrant := by
  unfold State.onCanopyGrant
  split
  · exact k.same (.of_canopyMark _ _) (k.request _ _ h)
  · exact k.request _ _ h
  · exact h

theorem tell (n : FlowNote) (h : P s) : P (s.tell n) := by
  unfold State.tell
  split
  · exact k.onBoomGrant _ h
  · exact k.onBoomPreempt _ h
  · exact k.onCanopyGrant h
  · exact k.request _ _ h

theorem tells (ns : List FlowNote) (h : P s) : P (ns.foldl State.tell s) := by
  induction ns generalizing s with
  | nil => exact h
  | cons n ns ih => exact ih (k.tell n h)

theorem place (who : Requester) (p : Purpose) (h : P s) : P (s.place who p) := k.tells _ (k.submit who p _ h)

theorem withdraw (who : Requester) (h : P s) : P (s.withdraw who) := by
  unfold State.withdraw
  split
  · exact k.tells _ (k.remove who h)
  · exact h

theorem noFlow (b : BoomId) (h : P s) : P (s.noFlow b) := k.withdraw _ (k.boomOff b _ h)

theorem beginFlow (b : BoomId) (p : Purpose) (h : P s) : P (s.beginFlow b p) := by
  have hp := k.place (.boom b) p (k.engine b { s.engine b with armOnGrant := true } rfl h)
  unfold State.beginFlow
  dsimp only
  split
  · exact hp
  · exact k.boomOff b _ hp

theorem changeDrive (b : BoomId) (h : P s) : P (s.changeDrive b) := by
  unfold State.changeDrive
  split
  · exact k.issueStep b _ h
  · exact k.boomOff b _ (k.engine b _ rfl h)

/-! ## Filing, faults and holds -/

theorem filed (b : BoomId) (o : Option JobOutcome) (h : P s) : P (s.filed b o) := by
  have h1 := k.setLogger b {} (k.clearActive b
    (k.engine b { s.engine b with resinRunning := false, n := none, record := none } rfl h))
  unfold State.filed
  dsimp only
  split
  · refine k.choose b ?_
    split
    · exact k.engine b _ rfl (k.raise _ h1)
    · exact k.raise _ h1
  · exact h1

theorem file (b : BoomId) (hl : s.store.records.length < 8) (h : P s) : P (s.file b) := by
  unfold State.file
  split
  · exact h
  · exact k.filed b _ (k.raise _ (k.filing _ hl h))

theorem offer (b : BoomId) (h : P s) : P (s.offer b) := by
  have h1 := k.modRecord b (fun r => { r with retries := (s.engine b).retries }) h
  unfold State.offer
  dsimp only
  split
  · exact k.file b ‹_› h1
  · exact k.raise _ (k.room _ h1)

theorem enterFiling (b : BoomId) (h : P s) : P (s.enterFiling b) :=
  k.offer b (k.modRecord b _ (k.noFlow b (k.goto b _ _ h)))

theorem closeLog (b : BoomId) (h : P s) : P (s.closeLog b) := k.modRecord b _ (k.putLogger b _ h)

theorem enterFaulted (b : BoomId) (c : FaultCause) (h : P s) : P (s.enterFaulted b c) := by
  have h2 := k.engine b { (s.goto b .faulted .none).engine b with lastFault := some c, causes := {}, armOnGrant := false } rfl
    (k.goto b .faulted .none h)
  have h3 := property_ite (c := (s.engine b).jog.isSome = true) h2 (k.noFlow b h2)
  have h4 := k.raise (.jobFault b) (k.modRecord b
    (faultRecord (s.engine b) (if (s.engine b).state = .hold then (s.engine b).resume.getD .idle else (s.engine b).state) c
      s.now) h3)
  unfold State.enterFaulted
  exact k.offer b (property_ite (k.closeLog b h4) h4)

theorem enterHold (b : BoomId) (c : HoldCause) (h : P s) : P (s.enterHold b c) := by
  unfold State.enterHold
  dsimp only
  refine k.raise _ (k.noFlow b ?_)
  split
  · exact k.engine b _ rfl (k.flagRecord b _ h)
  · exact k.engine b _ rfl h

theorem holdCause (b : BoomId) (c : HoldCause) (h : P s) : P (s.holdCause b c) := by
  unfold State.holdCause
  dsimp only
  split_ifs
  · exact k.enterHold b c h
  · exact k.engine b _ rfl h
  · exact h

theorem channelFailed (b : BoomId) (h : P s) : P (s.channelFailed b) := by
  unfold State.channelFailed
  dsimp only
  split
  · exact k.enterFaulted b _ (k.holdCause b _ h)
  · exact h

/-! ## The steps -/

theorem enterRelease (b : BoomId) (h : P s) : P (s.enterRelease b) := by
  have h1 := k.beginFlow b (.step .release) (k.goto b .release .none h)
  unfold State.enterRelease
  dsimp only
  split
  · exact k.enterFiling b h1
  · exact h1

theorem endTorque (b : BoomId) (o : JobOutcome) (t : Nat) (h : P s) : P (s.endTorque b o t) :=
  k.enterRelease b (k.modRecord b _ h)

theorem enterTorque (b : BoomId) (h : P s) : P (s.enterTorque b) :=
  k.beginFlow b _ (k.engine b _ rfl (k.goto b _ _ h))

theorem windowTest (b : BoomId) (h : P s) : P (s.windowTest b) := by
  unfold State.windowTest
  dsimp only
  split
  · exact k.enterTorque b h
  · exact k.enterRelease b (k.modRecord b _ h)

theorem enterGelHold (b : BoomId) (h : P s) : P (s.enterGelHold b) := k.beginFlow b _ (k.goto b _ _ h)

theorem mixEnded (b : BoomId) (short : Bool) (h : P s) : P (s.mixEnded b short) := by
  unfold State.mixEnded
  dsimp only
  split
  · exact k.flagRecord b _ (k.modRecord b _ h)
  · exact k.modRecord b _ h

theorem endMix (b : BoomId) (short : Bool) (h : P s) : P (s.endMix b short) := k.enterGelHold b (k.mixEnded b short h)

theorem enterMix (b : BoomId) (h : P s) : P (s.enterMix b) :=
  k.beginFlow b _ (k.modRecord b _ (k.engine b _ rfl (k.goto b _ _ h)))

theorem enterPush (b : BoomId) (h : P s) : P (s.enterPush b) := k.beginFlow b _ (k.engine b _ rfl (k.goto b _ _ h))

theorem enterAwaitBolt (b : BoomId) (h : P s) : P (s.enterAwaitBolt b) := k.raise _ (k.noFlow b (k.goto b _ _ h))

theorem finishInsert (b : BoomId) (h : P s) : P (s.finishInsert b) := k.enterAwaitBolt b (k.modRecord b _ h)

theorem setLeg (b : BoomId) (l : Leg) (h : P s) : P (s.setLeg b l) := k.changeDrive b (k.engine b _ rfl h)

theorem completeCartridge (b : BoomId) (h : P s) : P (s.completeCartridge b) := by
  unfold State.completeCartridge
  dsimp only
  split
  · exact k.engine b _ rfl (k.flagRecord b _ h)
  · exact k.engine b _ rfl h

theorem runStroke (n : Nat) (b : BoomId) (h : P s) : P (State.runStroke n s b) := by
  induction n generalizing s with
  | zero => exact h
  | succ n ih =>
    unfold State.runStroke
    dsimp only
    split
    · exact h
    · split_ifs
      · exact k.finishInsert b h
      · exact ih (k.setLeg b _ h)
      · exact h
    · split
      · exact ih (k.setLeg b _ h)
      · exact h
    · split_ifs
      · exact k.finishInsert b (k.completeCartridge b h)
      · exact ih (k.setLeg b _ (k.completeCartridge b h))
      · exact ih (k.setLeg b _ (k.engine b _ rfl h))
      · exact k.enterFaulted b _ h
      · exact h

theorem strokes (b : BoomId) (h : P s) : P (s.strokes b) := k.runStroke 24 b h

theorem beginStrokes (b : BoomId) (h : P s) : P (s.beginStrokes b) :=
  k.strokes b (k.beginFlow b _ (k.engine b _ rfl (k.goto b _ _ h)))

theorem insertOrWait (b : BoomId) (h : P s) : P (s.insertOrWait b) := by
  unfold State.insertOrWait
  split
  · exact k.raise _ (k.noFlow b (k.goto b _ _ h))
  · exact k.beginStrokes b h

theorem enterInsert (b : BoomId) (h : P s) : P (s.enterInsert b) := k.insertOrWait b (k.engine b _ rfl h)

theorem beginRetract (b : BoomId) (h : P s) : P (s.beginRetract b) := by
  have h1 := k.beginFlow b (.step .retract) (k.goto b .retract .none h)
  unfold State.beginRetract
  dsimp only
  split
  · exact k.enterInsert b h1
  · exact h1

theorem enterRetract (b : BoomId) (h : P s) : P (s.enterRetract b) := by
  unfold State.enterRetract
  dsimp only
  refine k.beginRetract b ?_
  split
  · exact k.flagRecord b _ (k.modRecord b _ (k.engine b _ (by simp) (k.setLogger b _ (k.putLogger b _ h))))
  · exact k.modRecord b _ (k.engine b _ (by simp) (k.setLogger b _ (k.putLogger b _ h)))

theorem enterDrill (b : BoomId) (h : P s) : P (s.enterDrill b) := k.beginFlow b _ (k.goto b _ _ h)

theorem stall (b : BoomId) (pos : Nat) (h : P s) : P (s.stall b pos) := by
  unfold State.stall
  dsimp only
  split
  · exact k.changeDrive b (k.engine b _ rfl h)
  · exact k.enterFaulted b _ h

theorem endBackoff (b : BoomId) (h : P s) : P (s.endBackoff b) := k.changeDrive b (k.engine b _ rfl h)

/-! ## Events taken by an engine -/

theorem loggerScan (b : BoomId) (h : P s) : P (s.loggerScan b) := by
  unfold State.loggerScan
  dsimp only
  split_ifs
  · exact k.reissueFeed b (k.putLogger b _ h)
  · exact k.putLogger b _ h
  · exact h

theorem scanApproach (b : BoomId) (h : P s) : P (s.scanApproach b) := by
  unfold State.scanApproach
  dsimp only
  split
  · exact k.changeDrive b (k.engine b _ rfl (k.setLogger b _ h))
  · exact h

theorem scanBackoff (b : BoomId) (h : P s) : P (s.scanBackoff b) := by
  unfold State.scanBackoff
  split
  · exact k.endBackoff b h
  · exact h

theorem scanDrill (b : BoomId) (h : P s) : P (s.scanDrill b) := by
  unfold State.scanDrill
  split_ifs
  · exact k.enterRetract b h
  · exact k.scanBackoff b h
  · exact k.stall b _ h
  · exact h

theorem scanTorque (b : BoomId) (h : P s) : P (s.scanTorque b) := by
  unfold State.scanTorque
  dsimp only
  split
  · exact k.endTorque b _ _ (k.engine b _ rfl h)
  · split
    · exact k.endTorque b _ _ (k.engine b _ rfl h)
    · exact k.engine b _ rfl h

theorem engineScan (b : BoomId) (h : P s) : P (s.engineScan b) := by
  unfold State.engineScan
  dsimp only
  split
  · exact k.scanApproach b h
  · exact k.scanBackoff b h
  · split
    · exact k.enterDrill b h
    · exact h
  · exact k.scanDrill b h
  · split
    · exact k.enterMix b h
    · exact h
  · split
    · exact k.scanTorque b h
    · exact h
  · exact h

theorem homeClosed (b : BoomId) (h : P s) : P (s.homeClosed b) := by
  unfold State.homeClosed
  split
  · exact k.enterInsert b h
  · exact k.enterFiling b h
  · exact k.endBackoff b h
  · exact k.endBackoff b h
  · exact h

theorem inserterClosed (b : BoomId) (h : P s) : P (s.inserterClosed b) := by
  unfold State.inserterClosed
  split
  · exact k.strokes b h
  · exact h

theorem engineExpiry (b : BoomId) (f : PairFn) (h : P s) : P (s.engineExpiry b f) := by
  unfold State.engineExpiry
  dsimp only
  split
  iterate 6 exact k.enterFaulted b _ h
  iterate 2 exact k.stall b _ h
  · exact k.enterFaulted b _ h
  · exact k.endMix b _ h
  · exact k.endTorque b _ _ h
  · exact h

theorem mixPulse (b : BoomId) (h : P s) : P (s.mixPulse b) := by
  unfold State.mixPulse
  dsimp only
  split_ifs
  · exact k.endMix b _ (k.engine b _ rfl h)
  · exact k.engine b _ rfl h
  · exact k.engine b _ rfl h
  · exact h

theorem tallyPulse (b : BoomId) (h : P s) : P (s.tallyPulse b) := by
  unfold State.tallyPulse
  dsimp only
  split
  · exact k.setLogger b _ h
  · exact h

theorem enginePassage (b : BoomId) (h : P s) : P (s.enginePassage b) := by
  unfold State.enginePassage
  dsimp only
  split
  · exact k.engine b _ rfl h
  · exact h

theorem endJog (b : BoomId) (h : P s) : P (s.endJog b) := by
  unfold State.endJog
  split
  · exact k.noFlow b (k.engine b _ rfl h)
  · exact h

theorem parkBoom (b : BoomId) (c : HoldCause) (h : P s) : P (s.parkBoom b c) := by
  have h1 := k.engine b { s.engine b with park := true } rfl h
  unfold State.parkBoom
  dsimp only
  split
  iterate 2 exact k.goto b _ _ h1
  iterate 6 exact k.enterHold b c h1
  · exact h1

/-! ## Requests that move an engine -/

theorem unpark (b : BoomId) (h : P s) : P (s.unpark b) := by
  unfold State.unpark
  dsimp only
  split
  · exact k.choose b (k.engine b _ rfl h)
  · exact k.engine b _ rfl h

theorem dropJog (b : BoomId) (h : P s) : P (s.dropJog b) := by
  unfold State.dropJog
  split
  · exact k.boomOff b _ (k.engine b _ rfl h)
  · exact h

theorem startJog (b : BoomId) (j : Jog) (h : P s) : P (s.startJog b j) := by
  have h2 := k.place (.boom b) (.jog j.fn) (k.engine b { (s.dropJog b).engine b with jog := some j } rfl (k.dropJog b h))
  unfold State.startJog
  dsimp only
  split_ifs
  · exact k.endJog b h2
  · exact k.endJog b (k.boomOff b _ h2)
  · exact h2
  · exact k.boomOff b _ h2

theorem resumeGel (b : BoomId) (h : P s) : P (s.resumeGel b) := by
  unfold State.resumeGel
  split
  · exact k.enterGelHold b h
  · exact k.windowTest b h

theorem resumeMix (b : BoomId) (h : P s) : P (s.resumeMix b) := by
  unfold State.resumeMix
  dsimp only
  split_ifs
  · exact k.resumeGel b (k.mixEnded b _ h)
  · exact k.beginFlow b _ (k.goto b _ _ h)
  · exact k.resumeGel b (k.mixEnded b _ h)

theorem resumeInsert (b : BoomId) (h : P s) : P (s.resumeInsert b) := by
  have hgo : ∀ {u}, P u → P
      (if (u.engine b).completed ≥ u.cartridges b then
        if u.closed (.ihome b) then u.finishInsert b
        else (u.setEngine b { u.engine b with leg := some .homing }).beginFlow b (.step .insert)
      else ((u.setEngine b { u.engine b with leg := some (u.firstLeg b) }).beginFlow b (.step .insert)).strokes b) := by
    intro u hu
    split_ifs
    · exact k.finishInsert b hu
    · exact k.beginFlow b _ (k.engine b _ rfl hu)
    · exact k.strokes b (k.beginFlow b _ (k.engine b _ rfl hu))
  unfold State.resumeInsert
  dsimp only
  split
  · exact k.insertOrWait b h
  · refine hgo (k.goto b _ _ ?_)
    split
    · exact k.completeCartridge b h
    · exact h

theorem resumeStep (b : BoomId) (st : EngineState) (h : P s) : P (s.resumeStep b st) := by
  have h1 := k.engine b { s.engine b with state := st, resume := none } rfl h
  unfold State.resumeStep
  dsimp only
  split
  · exact k.beginFlow b _ h1
  · exact k.beginFlow b _ h1
  · exact k.beginRetract b h
  · exact k.resumeInsert b h
  · split
    · exact k.enterPush b h
    · exact k.enterAwaitBolt b h
  · exact k.enterPush b h
  · exact k.resumeMix b h
  · exact k.resumeGel b h
  · exact k.beginFlow b _ (k.engine b _ rfl h1)
  · exact k.enterRelease b h
  · exact h

theorem resume (b : BoomId) (h : P s) : P (s.resume b) := k.resumeStep b _ (k.engine b _ rfl (k.dropJog b h))

/-! ## Timers of the engine -/

theorem mixLimit (b : BoomId) (h : P s) : P (s.mixLimit b) := by
  unfold State.mixLimit
  split
  · exact k.endMix b _ (k.engine b _ rfl h)
  · exact h

theorem gelTime (b : BoomId) (h : P s) : P (s.gelTime b) := by
  unfold State.gelTime
  split
  · exact k.windowTest b (k.engine b _ rfl h)
  · exact h

theorem drillLimitReached (b : BoomId) (h : P s) : P (s.drillLimitReached b) := by
  unfold State.drillLimitReached
  split
  · exact k.enterFaulted b _ (k.engine b _ rfl h)
  · exact h

theorem torqueLimitReached (b : BoomId) (h : P s) : P (s.torqueLimitReached b) := by
  unfold State.torqueLimitReached
  split
  · exact k.endTorque b _ _ (k.engine b _ rfl h)
  · exact h

end EngineKept

end Sys2Proof.Machine
end

section
/-! PROOF. A property of the part that a step keeps: what has to be shown of the single acts (`StepKept`), and the walk through
the commands, the timer events and the millisecond that carries it to every step. -/
namespace Sys2Proof.Machine

/-! ## The acts of a step -/

/-- Publication record and sampling of a boom's group, with what the engine is told of it: group G0 or G1 up to the engine's own
test of the scan. -/
def State.scanned (s : State) (b : BoomId) (rot feed : RawSample) (later : Nat) : State :=
  let s1 := ((((s.recordPosition b later).sampleAnalog (rotChannel b) rot).sampleAnalog (feedChannel b) feed).estimateTorque
    b).loggerScan b
  let s2 := s1.tellEngine b (s.analog (rotChannel b)).health (s1.analog (rotChannel b)).health
  s2.tellEngine b (s.analog (feedChannel b)).health (s1.analog (feedChannel b)).health

/-- The head record of a boom takes what an ending gives it, and the boom's engine follows its channel. -/
def State.headTakes (s : State) (b : BoomId) (h : Head) : State :=
  ((s.setHead b h).raiseHealth (.head b) (s.head b).health h.health).headChanged b (s.head b)

/-- A property that every single act of a step keeps. -/
structure StepKept (P : State → Prop) : Prop where
  same : ∀ {s t : State}, SameKept s t → P s → P t
  -- the arbiter and its requesters
  request : ∀ {s : State} p r, P s → P (s.request p r)
  place : ∀ {s : State} who p, P s → P (s.place who p)
  withdraw : ∀ {s : State} who, P s → P (s.withdraw who)
  setBudget : ∀ {s : State} v, P s → P (s.setBudget v)
  markStarved : ∀ {s : State} who n, P s → P { s with arb := s.arb.markStarved who n }
  -- the engines
  engineMark : ∀ {s : State} b (e : Engine), e.state = (s.engine b).state → e.record = (s.engine b).record →
    e.restricted = (s.engine b).restricted → P s → P (s.setEngine b e)
  engineScan : ∀ {s : State} b, P s → P (s.engineScan b)
  holdCause : ∀ {s : State} b c, P s → P (s.holdCause b c)
  parkBoom : ∀ {s : State} b c, P s → P (s.parkBoom b c)
  unpark : ∀ {s : State} b, P s → P (s.unpark b)
  aborted : ∀ {s : State} b, ((s.engine b).state.engaged = true ∨ (s.engine b).state = .hold) → P s →
    P (s.enterFaulted b .aborted)
  enterPush : ∀ {s : State} b, (s.engine b).state = .awaitBolt → P s → P (s.enterPush b)
  faultCleared : ∀ {s : State} b, (s.engine b).state = .faulted → (s.engine b).record = none → P s → P (s.choose b)
  startJob : ∀ {s : State} b j rest, ((s.engine b).state = .ready ∨ (s.engine b).state = .parked) → s.canopy.state = .set →
    (s.boom b).queue = j :: rest → P s → P (s.startJob b j rest)
  resume : ∀ {s : State} b, (s.engine b).state = .hold → s.canopy.state = .set → P s → P (s.resume b)
  startJog : ∀ {s : State} b j, P s → P (s.startJog b j)
  endJog : ∀ {s : State} b, P s → P (s.endJog b)
  beginStrokes : ∀ {s : State} b, (s.engine b).state = .insert → P s → P (s.beginStrokes b)
  homeClosed : ∀ {s : State} b, P s → P (s.homeClosed b)
  inserterClosed : ∀ {s : State} b, P s → P (s.inserterClosed b)
  engineExpiry : ∀ {s : State} b f, P s → P (s.engineExpiry b f)
  mixPulse : ∀ {s : State} b, P s → P (s.mixPulse b)
  mixLimit : ∀ {s : State} b, P s → P (s.mixLimit b)
  gelTime : ∀ {s : State} b, P s → P (s.gelTime b)
  drillLimitReached : ∀ {s : State} b, P s → P (s.drillLimitReached b)
  torqueLimitReached : ∀ {s : State} b, P s → P (s.torqueLimitReached b)
  -- plans, queues and records
  insertPlan : ∀ {s : State} p, ((findPlan s.plans p.id).isSome = true ∨ s.plans.length < 16) → P s →
    P { s with plans := insertPlan p s.plans }
  dropPlan : ∀ {s : State} id, s.refs id = 0 → P s → P { s with plans := dropPlan id s.plans }
  appendJob : ∀ {s : State} b j, s.jobRefusal b j = none → P s → P (s.appendJob b j)
  cancelJob : ∀ {s : State} b tag, P s → P (s.cancelJob b tag)
  release : ∀ {s : State}, s.store.records ≠ [] → P s → P s.release
  -- channels, head data and monitors
  sampleShared : ∀ {s : State} c r, (c = .pump ∨ c = .canopy ∨ c = .oil) → P s → P (s.sampleAnalog c r)
  scanned : ∀ {s : State} b rot feed later, P s → P (s.scanned b rot feed later)
  headSampled : ∀ {s : State} b e, P s → P (s.headTakes b ((s.head b).after e s.now))
  headStale : ∀ {s : State} b x, P s → P (s.headTakes b { s.head b with stale := x })
  beginRestore : ∀ {s : State} c, s.health c = .failed → P s → P (s.beginRestore c)
  monitor : ∀ {s : State} n m,
    (((s.monitor n).status ≠ .normal → (s.monitor n).warnSeen = true) ∧
        ((s.monitor n).status = .trip → (s.monitor n).tripSeen = true) →
      (m.status ≠ .normal → m.warnSeen = true) ∧ (m.status = .trip → m.tripSeen = true)) →
    P s → P (s.setMonitorAt n m)
  -- motion inputs and sensing
  moveFeed : ∀ {s : State} b pos, (pos ≤ 3000 ∨ pos ≤ (s.motion b).feedPos) → P s → P (s.moveFeed b pos)
  beginScan : ∀ {s : State}, P s → P s.beginScan
  sensing : ∀ {s : State} b x, (x.magazine ≤ 24 ∨ x.magazine ≤ (s.sensing b).magazine) → P s → P (s.setSensing b x)
  -- pairs and gates
  pairMark : ∀ {s : State} p (x : Pair), x.coil = (s.pair p).coil → x.dir = (s.pair p).dir → x.last = (s.pair p).last →
    x.dead = (s.pair p).dead → P s → P (s.setPair p x)
  deadEnd : ∀ {s : State} p, P s → P ((s.setPair p { s.pair p with dead := 0 }).settlePair p)
  presence : ∀ {s : State} b x, P s → P ((s.setSwitch (.prs b) x).settleBoom b)
  tripSet : ∀ {s : State}, P s → P ({ s with trip := true } : State).settleAll
  tripClear : ∀ {s : State}, P s → P ({ s with trip := false } : State).settleAll
  -- the canopy controller
  canopyGoto : ∀ {s : State} st f,
    (st = .set ∨ s.canopy.state ≠ .set ∨ ∀ b, (s.engine b).state.engaged = false) → P s → P (s.canopyGoto st f)
  canopyLoss : ∀ {s : State}, P s → P s.canopyLoss
  -- resets and time
  powerOn : ∀ {s : State} x y, P s → P (s.powerOn x y)
  warmReset : ∀ {s : State}, P s → P s.warmReset
  tickTimers : ∀ {s : State}, P s → P s.tickTimers

/-! ## Updates that no invariant reads -/

section
variable {s t : State}

/-- States that differ in link, bus, events, calibration, clock and queue alone. -/
theorem SameKept.of_boom_eq (harb : t.arb = s.arb) (hstore : t.store = s.store) (hplans : t.plans = s.plans)
    (htrip : t.trip = s.trip) (hcanopy : t.canopy.state = s.canopy.state) (hpair : t.canopyPair = s.canopyPair)
    (hmon : t.monitors = s.monitors) (hana : t.analogs = s.analogs) (hscan : t.scan = s.scan) (hA : t.boomA = s.boomA)
    (hB : t.boomB = s.boomB) : SameKept s t :=
  ⟨harb, hstore, hplans, htrip, hcanopy, hpair, hmon, hana, fun b => by rw [hscan], fun b => by
    cases b
    · show SameBoom s.boomA t.boomA
      rw [hA]
      exact .refl _
    · show SameBoom s.boomB t.boomB
      rw [hB]
      exact .refl _⟩

theorem SameKept.of_link (s : State) (l : Link) : SameKept s { s with link := l } :=
  .of_boom_eq rfl rfl rfl rfl rfl rfl rfl rfl rfl rfl rfl

theorem SameKept.of_pending (s : State) (q : List Instr) : SameKept s { s with pending := q } :=
  .of_boom_eq rfl rfl rfl rfl rfl rfl rfl rfl rfl rfl rfl

theorem SameKept.of_bus (s : State) (x : HeadBus) : SameKept s { s with bus := x } :=
  .of_boom_eq rfl rfl rfl rfl rfl rfl rfl rfl rfl rfl rfl

theorem SameKept.of_cal (s : State) (x : CalStore) : SameKept s { s with cal := x } :=
  .of_boom_eq rfl rfl rfl rfl rfl rfl rfl rfl rfl rfl rfl

theorem SameKept.of_events (s : State) (x : BitVec 96) : SameKept s { s with events := x } :=
  .of_boom_eq rfl rfl rfl rfl rfl rfl rfl rfl rfl rfl rfl

theorem SameKept.of_canopy (s : State) (c : Canopy) (h : c.state = s.canopy.state) : SameKept s { s with canopy := c } :=
  .of_boom_eq rfl rfl rfl rfl h rfl rfl rfl rfl rfl rfl

theorem SameKept.of_setMotion (s : State) (b : BoomId) (m : Motion) (hf : m.feedPos = (s.motion b).feedPos)
    (hs : m.scanPos = (s.motion b).scanPos) : SameKept s (s.setMotion b m) :=
  .of_setBoom ⟨rfl, rfl, rfl, rfl, rfl, rfl, rfl, rfl, hf, hs, rfl⟩

theorem SameKept.of_setHead (s : State) (b : BoomId) (h : Head) (hc : h.count = (s.head b).count)
    (hr : h.restore = (s.head b).restore) (hs : h.stale = (s.head b).stale) : SameKept s (s.setHead b h) :=
  .of_setBoom ⟨rfl, rfl, rfl, rfl, rfl, hc, hr, hs, rfl, rfl, rfl⟩

/-- A switch whose qualified level stands, or one that is no presence input. -/
theorem SameKept.of_setSwitch (s : State) (i : SwitchId) (x : SwitchInput)
    (h : ∀ b, i = .prs b → x.level = (s.switch i).level) : SameKept s (s.setSwitch i x) := by
  cases i with
  | estop => exact .of_boom_eq rfl rfl rfl rfl rfl rfl rfl rfl rfl rfl rfl
  | clow => exact .of_boom_eq rfl rfl rfl rfl rfl rfl rfl rfl rfl rfl rfl
  | prs b => exact .of_setBoom ⟨rfl, rfl, rfl, rfl, h b rfl, rfl, rfl, rfl, rfl, rfl, rfl⟩
  | home b => exact .of_setBoom ⟨rfl, rfl, rfl, rfl, rfl, rfl, rfl, rfl, rfl, rfl, rfl⟩
  | iend b => exact .of_setBoom ⟨rfl, rfl, rfl, rfl, rfl, rfl, rfl, rfl, rfl, rfl, rfl⟩
  | ihome b => exact .of_setBoom ⟨rfl, rfl, rfl, rfl, rfl, rfl, rfl, rfl, rfl, rfl, rfl⟩

end

/-- R120: a response reloads the monitor's count and its reference, and nothing else of the pair. -/
theorem Pair.respond_eq (p : Pair) (n : Nat) (ref : Option Int) :
    p.respond n ref = { p with monitor := (p.respond n ref).monitor } := by
  unfold Pair.respond
  split
  · split <;> rfl
  · rfl

/-- R181: clearing the latches leaves a monitor's latches above its status. -/
theorem Monitor.clearLatch_latches (m : Monitor) (h : (m.status ≠ .normal → m.warnSeen = true) ∧
    (m.status = .trip → m.tripSeen = true)) :
    (m.clearLatch.status ≠ .normal → m.clearLatch.warnSeen = true) ∧
      (m.clearLatch.status = .trip → m.clearLatch.tripSeen = true) := by
  obtain ⟨hw, ht⟩ := h
  refine ⟨fun hs => ?_, fun hs => ?_⟩
  · simpa [Monitor.clearLatch] using And.intro (hw hs) hs
  · simpa [Monitor.clearLatch] using And.intro (ht hs) hs

/-- R134: a count leaves the position within the range, or moves it down. -/
theorem countPos_range {pos n : Nat} {d : Dir} (h : countPos pos d = some n) : n ≤ 3000 ∨ n ≤ pos := by
  cases d <;> simp only [countPos] at h <;> split at h <;> simp at h <;> omega

namespace StepKept
variable {P : State → Prop} (k : StepKept P) {s : State}
include k

/-! ## The port -/

theorem link (l : Link) (h : P s) : P { s with link := l } := k.same (.of_link s l) h

theorem bus (x : HeadBus) (h : P s) : P { s with bus := x } := k.same (.of_bus s x) h

theorem cal (x : CalStore) (h : P s) : P { s with cal := x } := k.same (.of_cal s x) h

theorem raise (e : Event) (h : P s) : P (s.raise e) := k.same (.of_raise s e) h

theorem serve (seq code : Byte) (payload : List Byte) {d : State → Decision} (hd : ∀ {u}, P u → P (d u).state) (h : P s) :
    P (s.serve seq code payload d) := by
  unfold State.serve
  dsimp only
  split
  · exact k.link _ (hd (k.link _ h))
  · exact h

theorem serveFixed (seq code : Byte) (n : Nat) (payload : List Byte) {d : State → Decision}
    (hd : ∀ {u}, P u → P (d u).state) (h : P s) : P (s.serveFixed seq code n payload d) := by
  refine k.serve seq code payload (fun {u} hu => ?_) h
  unfold checkLength
  split
  · exact hd hu
  · exact hu

omit k in
theorem withBoom (n : Nat) {d : BoomId → State → Decision} (hd : ∀ b, P s → P (d b s).state) (h : P s) :
    P (withBoom n d s).state := by
  unfold Machine.withBoom
  split
  · exact hd _ h
  · exact h

theorem serveBoom (seq code : Byte) (payload : List Byte) {d : BoomId → State → Decision}
    (hd : ∀ {u : State} b, P u → P (d b u).state) (h : P s) : P (s.serveBoom seq code payload d) :=
  k.serveFixed seq code 1 payload (fun hu => withBoom _ (fun b => hd b) hu) h

theorem serveBoomFixed (seq code : Byte) (n m : Nat) (payload : List Byte) {d : BoomId → State → Decision}
    (hd : ∀ {u : State} b, P u → P (d b u).state) (h : P s) :
    P (s.serveFixed seq code n payload (Machine.withBoom m d)) :=
  k.serveFixed seq code n payload (fun hu => withBoom _ (fun b => hd b) hu) h

/-! ## Monitors -/

theorem recordValid (n : Nat) (h : P s) : P (s.recordValid n) := k.monitor n _ id h

theorem actOn (b : BoomId) (a : Actions) (h : P s) : P (s.actOn b a) := by
  unfold State.actOn
  dsimp only
  split_ifs
  · exact k.holdCause b _ h
  · exact k.holdCause b _ h
  · exact h

theorem act (x : Scope) (a : Actions) (h : P s) : P (s.act x a) := by
  unfold State.act
  exact property_ite (k.actOn .B a (property_ite (k.actOn .A a h) h)) (property_ite (k.actOn .A a h) h)

theorem testMonitor (n : Nat) (x : Int) (h : P s) : P (s.testMonitor n x) := by
  have h1 := k.monitor n ((s.monitor n).tested x) (Monitor.tested_latches _ x) h
  have h2 := property_ite (c := (s.monitor n).entersWarn x = true)
    (k.act (s.monitor n).cfg.scope (s.monitor n).cfg.warnActs (k.raise (.monitor n false) h1)) h1
  exact property_ite (k.act _ _ (k.raise _ h2)) h2

theorem reachMonitor (srcs : List Source) (p : Bool) (n : Nat) (h : P s) : P (s.reachMonitor srcs p n) := by
  unfold State.reachMonitor
  dsimp only
  split_ifs
  · exact k.testMonitor n _ (k.recordValid n h)
  · exact k.recordValid n h
  · exact h

theorem reachMonitors (srcs : List Source) (p : Bool) (ns : List Nat) (h : P s) :
    P (ns.foldl (State.reachMonitor srcs p) s) := by
  induction ns generalizing s with
  | nil => exact h
  | cons n ns ih => exact ih (k.reachMonitor srcs p n h)

theorem publish (srcs : List Source) (h : P s) : P (s.publish srcs) := k.reachMonitors srcs true _ h

theorem markValidity (srcs : List Source) (h : P s) : P (s.markValidity srcs) := k.reachMonitors srcs false _ h

theorem configureMonitor (n : Nat) (c : MonitorConfig) (h : P s) : P (s.configureMonitor n c) := by
  have h1 := k.recordValid n (k.monitor n { s.monitor n with cfg := c, status := .normal, last := none }
    (fun _ => ⟨fun hn => absurd rfl hn, fun ht => by cases ht⟩) h)
  exact property_ite (k.testMonitor n _ h1) h1

theorem clearLatches (ns : List Nat) (h : P s) :
    P (ns.foldl (fun t n => t.setMonitorAt n (t.monitor n).clearLatch) s) := by
  induction ns generalizing s with
  | nil => exact h
  | cons n ns ih => exact ih (k.monitor n _ (Monitor.clearLatch_latches _) h)

/-! ## The canopy controller -/

theorem canopyStop (h : P s) : P s.canopyStop := k.withdraw _ (k.request _ _ h)

theorem canopyMark (c : Canopy) (hc : c.state = s.canopy.state) (h : P s) : P { s with canopy := c } :=
  k.same (.of_canopy s c hc) h

theorem canopyFail (f : CanopyFault) (hs : s.canopy.state ≠ .set) (h : P s) : P (s.canopyFail f) :=
  k.raise _ (k.canopyStop (k.canopyGoto _ _ (.inr (.inl hs)) h))

theorem canopyConfirm (h : P s) : P s.canopyConfirm := k.raise _ (k.canopyStop (k.canopyGoto _ _ (.inl rfl) h))

theorem canopyLowered (hs : s.canopy.state ≠ .set ∨ ∀ b, (s.engine b).state.engaged = false) (h : P s) :
    P s.canopyLowered := by
  have h1 := k.canopyGoto .lowered .none (.inr hs) h
  unfold State.canopyLowered
  split
  · exact k.canopyStop h1
  · exact h1

theorem beginSetRun (h : P s) : P s.beginSetRun := by
  have h1 : P { s with canopy := { s.canopy with setRun := some (scanStamp s.now) } } := k.canopyMark _ rfl h
  exact property_ite (k.request _ _ h1) (k.request _ _ h1)

theorem breakSetRun (h : P s) : P s.breakSetRun := by
  have h1 : P { s with canopy := { s.canopy with setRun := none } } := k.canopyMark _ rfl h
  exact property_ite (k.request _ _ h1) (k.canopyMark _ rfl h1)

theorem canopyScan (h : P s) : P s.canopyScan := by
  unfold State.canopyScan
  dsimp only
  split
  · split
    · split
      · exact k.beginSetRun h
      · exact property_ite (k.canopyConfirm h) h
    · exact property_ite (k.breakSetRun h) h
  · split
    · split
      · exact k.canopyMark _ rfl h
      · exact property_ite (k.canopyLoss h) h
    · exact k.canopyMark _ rfl h
  · exact h

theorem canopyChannelFailed (h : P s) : P s.canopyChannelFailed := by
  unfold State.canopyChannelFailed
  split
  · exact k.canopyLoss h
  · exact k.canopyFail _ (by simp [*]) h
  · exact h

theorem canopyTrip (h : P s) : P s.canopyTrip := by
  unfold State.canopyTrip
  split
  iterate 2 exact k.raise _ (k.canopyStop (k.canopyGoto _ _ (.inr (.inl (by simp [*]))) h))
  exact h

theorem loweredSwitch (x : Bool) (h : P s) : P (s.loweredSwitch x) := by
  unfold State.loweredSwitch
  split
  · exact k.raise _ (k.canopyGoto _ _ (.inr (.inl (by simp [*]))) h)
  iterate 3 exact k.canopyLowered (.inl (by simp [*])) h
  · exact h

theorem canopyExpiry (h : P s) : P s.canopyExpiry := by
  unfold State.canopyExpiry
  split
  · exact k.canopyFail _ (by simp [*]) h
  · exact h

theorem beginRaise (hs : s.canopy.state ≠ .set) (h : P s) : P s.beginRaise := by
  have h2 : P { s.canopyGoto .raising .none with canopy := { (s.canopyGoto .raising .none).canopy with armOnGrant := true } } :=
    k.canopyMark _ rfl (k.canopyGoto .raising .none (.inr (.inl hs)) h)
  have h3 := k.place .canopy .canopyRaise h2
  exact property_ite h3 (k.request _ _ h3)

theorem beginLower (hs : s.canopy.state ≠ .set ∨ ∀ b, (s.engine b).state.engaged = false) (h : P s) : P s.beginLower := by
  have h2 : P { s.canopyGoto .lowering .none with canopy := { (s.canopyGoto .lowering .none).canopy with lowerTimer := 0 } } :=
    k.canopyMark _ rfl (k.canopyGoto .lowering .none (.inr hs) h)
  have hf := FlowEffect.of_place
    { s.canopyGoto .lowering .none with canopy := { (s.canopyGoto .lowering .none).canopy with lowerTimer := 0 } }
    .canopy .canopyLower
  have h3 := k.place .canopy .canopyLower h2
  have h4 := property_ite (P := fun u => P u ∧ u.canopy.state ≠ .set)
    (c := (State.place { s.canopyGoto .lowering .none with
      canopy := { (s.canopyGoto .lowering .none).canopy with lowerTimer := 0 } } .canopy .canopyLower).granted .canopy = true)
    ⟨h3, by rw [hf.canopy_state]; simp [State.canopyGoto]⟩
    ⟨k.request .canopy (.off false) h3, by
      rw [(FlowEffect.of_request _ _ _).canopy_state, hf.canopy_state]; simp [State.canopyGoto]⟩
  exact property_ite (k.canopyLowered (.inl h4.2) h4.1) h4.1

theorem lower (hA : s.keepsCanopy .A = false) (hB : s.keepsCanopy .B = false) (h : P s) : P s.lower := by
  have hrest : ∀ b, (s.engine b).state.engaged = false := fun b => by
    have : s.keepsCanopy b = false := by cases b <;> assumption
    unfold State.keepsCanopy at this
    simp only [Bool.or_eq_false_iff] at this
    exact this.1
  unfold State.lower
  split
  iterate 2 exact h
  · exact k.beginLower (.inr hrest) h
  iterate 3 exact property_ite (k.canopyLowered (.inr hrest) h) (k.beginLower (.inr hrest) h)

/-! ## The head bus -/

theorem classify (b : BoomId) (e : Ending) (h : P s) : P (s.classify b e) := by
  have h1 := k.headSampled b e h
  exact property_ite (k.publish _ h1) (property_ite (k.markValidity _ h1) h1)

theorem setStale (b : BoomId) (x : Bool) (h : P s) : P (s.setStale b x) := by
  have h1 := k.headStale b x h
  have e : s.headTakes b { s.head b with stale := x } = (s.setHead b { s.head b with stale := x }).headChanged b (s.head b) := by
    unfold State.headTakes
    congr 1
    unfold State.raiseHealth
    have : healthEvent (s.head b).health ({ s.head b with stale := x } : Head).health = none := by
      have : ({ s.head b with stale := x } : Head).health = (s.head b).health := rfl
      rw [this]
      cases (s.head b).health <;> rfl
    rw [this]
  rw [e] at h1
  exact property_ite h (k.markValidity _ h1)

theorem beginRound (h : P s) : P s.beginRound := k.bus _ h

theorem loadPollTimer (h : P s) : P s.loadPollTimer := k.bus _ h

theorem roundOn (h : P s) : P s.roundOn := property_ite (k.bus _ h) (k.bus _ h)

theorem pollEnded (b : BoomId) (e : Ending) (h : P s) : P (s.pollEnded b e) := by
  have h1 : P (s.setHead b { s.head b with lastPoll := e.poll }) := k.same (.of_setHead s b _ rfl rfl rfl) h
  exact property_ite (k.raise _ h1) h1

theorem endTransaction (t : Transaction) (e : Ending) (h : P s) : P (s.endTransaction t e) := by
  have h1 := k.bus { s.bus with txn := none } h
  unfold State.endTransaction
  dsimp only
  cases t.statusOf with
  | some b => exact property_ite (k.bus _ (k.classify b e h1)) (k.roundOn (k.pollEnded b e (k.classify b e h1)))
  | none => exact property_ite (k.bus _ h1) (k.roundOn h1)

/-! ## Calibration and resets -/

theorem starve (who : Requester) (h : P s) : P (s.starve who) := by
  unfold State.starve
  dsimp only
  split
  · split
    · exact k.raise _ (k.markStarved _ _ h)
    · exact k.markStarved _ _ h
  · exact h

theorem recomputeDuty (p : PairId) (h : P s) : P (s.recomputeDuty p) := k.pairMark p _ rfl rfl rfl rfl h

theorem recomputeDuties (ps : List PairId) (h : P s) : P (ps.foldl State.recomputeDuty s) := by
  induction ps generalizing s with
  | nil => exact h
  | cons p ps ih => exact ih (k.recomputeDuty p h)

theorem starveIfDue (who : Requester) (h : P s) : P (s.starveIfDue who) := property_ite (k.starve who h) h

theorem calibrateSensing (b : BoomId) (h : P s) : P (s.calibrateSensing b) :=
  property_ite h (k.sensing b _ (.inr (Nat.le_refl _)) h)

theorem applySet (vals : List Nat) (h : P s) : P (s.applySet vals) := by
  unfold State.applySet
  dsimp only
  refine k.calibrateSensing .B (k.calibrateSensing .A (k.setStale .B _ (k.setStale .A _ ?_)))
  refine k.starveIfDue _ (k.starveIfDue _ (k.starveIfDue _ (k.recomputeDuties _ ?_)))
  have h1 := k.cal { s.cal with working := vals, absent := false } h
  have h2 := k.link { s.link with timeout := ({ s.cal with working := vals, absent := false } : CalStore).linkTimeout } h1
  exact k.canopyMark _ rfl h2

theorem resetIfDue (h : P s) : P s.resetIfDue := property_ite (k.warmReset h) h

theorem tearCopy (h : P s) : P s.tearCopy := k.same (s := s) (.of_boom_eq rfl rfl rfl rfl rfl rfl rfl rfl rfl rfl rfl) h

theorem storeFailed (h : P s) : P s.storeFailed := k.raise _ (k.cal _ (k.tearCopy h))

theorem storeConfirmed (vals : List Nat) (h : P s) : P (s.storeConfirmed vals) := k.raise _ (k.cal _ h)

theorem loadComplete (h : P s) : P s.loadComplete := by
  refine k.same (s := s.beginScan) ?_ (k.beginScan h)
  refine ⟨rfl, rfl, rfl, rfl, rfl, rfl, rfl, rfl, fun _ => rfl, fun b => ?_⟩
  cases b <;> exact ⟨rfl, rfl, rfl, rfl, rfl, rfl, rfl, rfl, rfl, rfl, rfl⟩

/-! ## The requests' decisions -/

theorem decideLoadPlan (payload : List Byte) (h : P s) : P (decideLoadPlan payload s).state := by
  unfold Machine.decideLoadPlan
  dsimp only
  split
  · exact h
  · split
    · split
      · exact h
      · exact k.insertPlan _ (.inl ‹_›) h
    · split
      · exact k.insertPlan _ (.inr ‹_›) h
      · exact h

theorem decideDropPlan (payload : List Byte) (h : P s) : P (decideDropPlan payload s).state := by
  unfold Machine.decideDropPlan
  dsimp only
  split_ifs
  iterate 3 exact h
  exact k.dropPlan _ (by omega) h

omit k in
theorem decideReadPlan (payload : List Byte) (h : P s) : P (decideReadPlan payload s).state := by
  unfold Machine.decideReadPlan
  dsimp only
  split
  · exact h
  · split <;> exact h

theorem decideQueueJob (payload : List Byte) (b : BoomId) (h : P s) : P (decideQueueJob payload b s).state := by
  unfold Machine.decideQueueJob
  dsimp only
  split
  · exact h
  · exact k.appendJob b _ ‹_› h

theorem decideCancelJob (payload : List Byte) (b : BoomId) (h : P s) : P (decideCancelJob payload b s).state := by
  unfold Machine.decideCancelJob
  dsimp only
  split_ifs
  iterate 2 exact h
  exact k.cancelJob b _ h

omit k in
/-- R19: a START that passes its interlocks finds the canopy SET. -/
theorem canopy_of_startInterlock {b : BoomId} (hi : s.startInterlock b = none) : s.canopy.state = .set := by
  unfold State.startInterlock at hi
  by_contra hc
  simp only [hc, ne_eq, not_false_eq_true, if_true] at hi
  split_ifs at hi

omit k in
/-- R43: a RESUME that passes its interlocks finds the canopy SET. -/
theorem canopy_of_resumeInterlock {b : BoomId} (hi : s.resumeInterlock b = none) : s.canopy.state = .set := by
  unfold State.resumeInterlock at hi
  by_contra hc
  simp only [hc, ne_eq, not_false_eq_true, if_true] at hi
  split_ifs at hi

theorem decideStart (b : BoomId) (h : P s) : P (decideStart b s).state := by
  unfold Machine.decideStart
  split
  · split
    · exact h
    · exact k.startJob b _ _ ‹_› (canopy_of_startInterlock ‹_›) ‹_› h
    · exact h
  · exact h

theorem decideResume (b : BoomId) (h : P s) : P (decideResume b s).state := by
  unfold Machine.decideResume
  split
  · split
    · exact h
    · exact k.resume b ‹_› (canopy_of_resumeInterlock ‹_›) h
  · exact h

theorem decideHold (b : BoomId) (h : P s) : P (decideHold b s).state := by
  unfold Machine.decideHold
  split
  · exact k.holdCause b _ h
  · exact h

theorem decideAbort (b : BoomId) (h : P s) : P (decideAbort b s).state := by
  unfold Machine.decideAbort
  split
  · exact k.aborted b ‹_› h
  · exact h

theorem decideBoltLoaded (b : BoomId) (h : P s) : P (decideBoltLoaded b s).state := by
  unfold Machine.decideBoltLoaded
  split_ifs
  · exact k.enterPush b ‹_› h
  · exact k.engineMark b _ rfl rfl rfl h
  · exact h

theorem decideClearFault (b : BoomId) (h : P s) : P (decideClearFault b s).state := by
  unfold Machine.decideClearFault
  split
  · rename_i hc
    exact k.faultCleared b hc.1 hc.2 h
  · exact h

theorem decideJog (payload : List Byte) (b : BoomId) (h : P s) : P (decideJog payload b s).state := by
  unfold Machine.decideJog
  split
  iterate 2 exact h
  split_ifs
  iterate 2 exact h
  exact k.startJog b _ h

theorem decideMagazineLoaded (payload : List Byte) (b : BoomId) (h : P s) : P (decideMagazineLoaded payload b s).state := by
  unfold Machine.decideMagazineLoaded
  dsimp only
  split
  · exact h
  · have h1 := k.sensing b
      { s.sensing b with magazine := min ((s.sensing b).magazine + byteAt payload 1) 24 } (.inl (Nat.min_le_right _ _)) h
    unfold State.accept State.loadMagazine
    dsimp only
    split
    · rename_i hc
      exact k.beginStrokes b hc.1 h1
    · exact h1

theorem decideCanopyRaise (h : P s) : P (decideCanopyRaise s).state := by
  unfold Machine.decideCanopyRaise
  dsimp only
  split_ifs with _ _ _ hc
  iterate 4 exact h
  exact k.beginRaise (fun he => hc (.inr he)) h

theorem decideCanopyLower (h : P s) : P (decideCanopyLower s).state := by
  unfold Machine.decideCanopyLower
  dsimp only
  split_ifs with _ _ hc
  iterate 3 exact h
  simp only [Bool.or_eq_true, not_or, Bool.not_eq_true] at hc
  exact k.lower hc.1 hc.2 h

theorem decideClearTrip (h : P s) : P (decideClearTrip s).state := by
  unfold Machine.decideClearTrip State.clearTrip
  split
  · exact h
  · exact property_ite (k.tripClear h) h

theorem decideRestore (payload : List Byte) (h : P s) : P (decideRestore payload s).state := by
  unfold Machine.decideRestore
  split
  · exact h
  · split
    · exact k.beginRestore _ ‹_› h
    · exact h

theorem decideSetMonitor (payload : List Byte) (h : P s) : P (decideSetMonitor payload s).state := by
  unfold Machine.decideSetMonitor
  split
  · exact h
  · exact k.configureMonitor _ _ h

theorem decideClearLatch (payload : List Byte) (h : P s) : P (decideClearLatch payload s).state := by
  unfold Machine.decideClearLatch
  split
  · exact h
  · exact k.clearLatches _ h

theorem decideBusResume (h : P s) : P (decideBusResume s).state := by
  unfold Machine.decideBusResume State.resumeBus
  dsimp only
  split
  · exact h
  · exact property_ite (k.loadPollTimer (k.beginRound (k.bus _ h))) (k.bus _ h)

theorem decideTransact (payload : List Byte) (h : P s) : P (decideTransact payload s).state := by
  unfold Machine.decideTransact
  split
  · exact h
  · split
    · exact h
    · split_ifs
      iterate 5 exact h
      exact k.bus _ h

theorem decideKill (h : P s) : P (decideKill s).state := by
  unfold Machine.decideKill
  split
  · split
    · exact k.endTransaction _ _ h
    · exact h
  · exact h

omit k in
theorem decideFetch (payload : List Byte) (h : P s) : P (decideFetch payload s).state := by
  unfold Machine.decideFetch
  split
  · exact h
  · split <;> exact h

theorem decideRelease (payload : List Byte) (h : P s) : P (decideRelease payload s).state := by
  unfold Machine.decideRelease
  split
  · exact h
  · dsimp only
    split
    · exact h
    · exact k.release (by simp [*]) h

theorem decideCalibrate (payload : List Byte) (h : P s) : P (decideCalibrate payload s).state := by
  unfold Machine.decideCalibrate
  split_ifs
  iterate 2 exact h
  split
  · exact h
  · exact k.applySet _ h

theorem decideRecall (h : P s) : P (decideRecall s).state := by
  unfold Machine.decideRecall
  split_ifs
  iterate 2 exact h
  · exact k.applySet _ h
  · exact h

theorem decideStore (h : P s) : P (decideStore s).state := by
  unfold Machine.decideStore
  split
  · exact h
  · exact k.cal _ h

/-! ## Events of the rig -/

omit k in
theorem whenRunning {f : State → State} (hf : P s → P (f s)) (h : P s) : P (s.whenRunning f) := property_ite (hf h) h

theorem publishBoom (b : BoomId) (rot feed : RawSample) (later : Nat) (h : P s) :
    P (s.publishBoom b rot feed later) := k.publish _ (k.engineScan b (k.scanned b rot feed later h))

theorem canopyResponse (h : P s) : P s.canopyResponse := by
  unfold State.canopyResponse
  split
  · refine property_ite (k.pairMark .canopy _ ?_ ?_ ?_ ?_ h) h <;> rw [Pair.respond_eq]
  · exact h

theorem respond (p : PairId) (ref : Option Int) (h : P s) : P (s.respond p ref) := by
  refine k.pairMark p _ ?_ ?_ ?_ ?_ h <;> rw [Pair.respond_eq]

theorem publishCanopy (pump canopy : RawSample) (h : P s) : P (s.publishCanopy pump canopy) := by
  have h1 := k.canopyResponse
    (k.sampleShared .canopy canopy (.inr (.inl rfl)) (k.sampleShared .pump pump (.inl rfl) h))
  exact k.publish _ (k.canopyScan (property_ite (k.canopyChannelFailed h1) h1))

theorem publishOil (oil : RawSample) (h : P s) : P (s.publishOil oil) := by
  have h1 := k.sampleShared .oil oil (.inr (.inr rfl)) h
  exact k.publish _ (k.same (s := s.sampleAnalog .oil oil) (.of_boom_eq rfl rfl rfl rfl rfl rfl rfl rfl rfl rfl rfl) h1)

theorem takeGroup (i : Nat) (h : P s) : P (s.takeGroup i) := by
  have h1 := property_ite (c := i < s.scan.done) (k.beginScan h) h
  refine k.same (s := if i < s.scan.done then s.beginScan else s)
    ⟨rfl, rfl, rfl, rfl, rfl, rfl, rfl, rfl, fun b => ?_, fun b => ?_⟩ h1
  · cases b <;> rfl
  · cases b <;> exact .refl _

theorem publishScan (x : ScanSample) (h : P s) : P (s.publishScan x) := by
  cases x with
  | g0 rot feed later => exact k.publishBoom _ _ _ _ (k.takeGroup 0 h)
  | g1 rot feed later => exact k.publishBoom _ _ _ _ (k.takeGroup 1 h)
  | g2 pump canopy => exact k.publishCanopy _ _ (k.takeGroup 2 h)
  | g3 oil => exact k.publishOil _ (k.takeGroup 3 h)

theorem latchTrip (h : P s) : P s.latchTrip := by
  unfold State.latchTrip
  dsimp only
  split
  · exact h
  · exact k.raise _ (k.canopyTrip (k.endJog .B (k.endJog .A (k.holdCause .B _ (k.holdCause .A _ (k.tripSet h))))))

theorem qualify (i : SwitchId) (h : P s) : P (s.qualify i) := by
  have hset := fun x (hi : ∀ b, i ≠ .prs b) => k.same (.of_setSwitch s i x fun b hb => absurd hb (hi b)) h
  unfold State.qualify State.switchChanged
  dsimp only
  cases i with
  | estop => exact property_ite (k.latchTrip (hset _ (by simp))) (hset _ (by simp))
  | prs b =>
    have h1 := k.presence b { line := !(s.switch (.prs b)).level, level := !(s.switch (.prs b)).level, run := none } h
    exact property_ite h1 (k.holdCause b _ h1)
  | home b =>
    exact property_ite (k.homeClosed b (k.moveFeed b 0 (.inl (by omega)) (hset _ (by simp)))) (hset _ (by simp))
  | iend b =>
    have h1 := fun x => k.respond (.boom b .ins) none (hset x (by simp))
    exact property_ite (k.inserterClosed b (h1 _)) (h1 _)
  | ihome b =>
    have h1 := fun x => k.respond (.boom b .ins) none (hset x (by simp))
    exact property_ite (k.inserterClosed b (h1 _)) (h1 _)
  | clow => exact k.loweredSwitch _ (hset _ (by simp))

theorem tallyPulse (b : BoomId) (h : P s) : P (s.tallyPulse b) :=
  property_ite (k.same (.of_setLogger s b _) h) h

theorem pulse (b : BoomId) (h : P s) : P (s.pulse b) := by
  have h1 : P (s.setMotion b
      { s.motion b with pulses := (s.motion b).pulses + 1, pickup := { line := true, level := true } }) :=
    k.same (.of_setMotion s b _ rfl rfl) h
  exact k.mixPulse b (k.tallyPulse b (k.respond _ none h1))

theorem encoder (b : BoomId) (i q : Bool) (h : P s) : P (s.encoder b i q) := by
  have h1 : P (s.setMotion b { s.motion b with encI := i, encQ := q }) := k.same (.of_setMotion s b _ rfl rfl) h
  unfold State.encoder
  dsimp only
  split
  · exact h1
  · split
    · exact h1
    · rename_i hp
      have h2 := k.moveFeed b _ (by simpa using countPos_range hp) h1
      exact property_ite (k.respond _ none h2) h2

theorem enginePassage (b : BoomId) (h : P s) : P (s.enginePassage b) :=
  property_ite (k.engineMark b _ rfl rfl rfl h) h

theorem passage (b : BoomId) (h : P s) : P (s.passage b) :=
  k.enginePassage b (k.sensing b _ (.inr (Nat.sub_le _ _)) h)

theorem measurementEnd (b : BoomId) (c : Nat) (h : P s) : P (s.measurementEnd b c) := by
  have h1 := k.sensing b ((s.sensing b).measured (s.cal.threshold b) (s.closed (.ihome b)) (min c 65535))
    (.inr (Sensing.measured_frame _ _ _ _).2.2.2.2.1.le) h
  exact property_ite (k.passage b h1) h1

theorem lowerLimitReached (h : P s) : P s.lowerLimitReached := by
  unfold State.lowerLimitReached
  split
  · rename_i hc
    have hl : s.canopy.state = .lowering := by
      unfold State.lowerCounts at hc
      simp only [Bool.and_eq_true, beq_iff_eq] at hc
      exact hc.1
    refine k.canopyFail _ ?_ (k.canopyMark _ rfl h)
    simp [hl]
  · exact h

theorem headEnd (e : BusEnding) (h : P s) : P (s.headEnd e) := by
  unfold State.headEnd
  split
  · exact h
  · split
    · exact k.endTransaction _ _ h
    · exact h

theorem headTimeout (h : P s) : P s.headTimeout := by
  unfold State.headTimeout
  split
  · exact h
  · exact k.endTransaction _ _ h

theorem linkSilent (h : P s) : P s.linkSilent :=
  k.parkBoom .B _ (k.parkBoom .A _ (k.raise _ (k.link _ h)))

theorem readEvents (seq : Byte) (payload : List Byte) (h : P s) : P (s.readEvents seq payload) := by
  have h1 : P s.frameTaken := k.link _ h
  unfold State.readEvents
  dsimp only
  split
  · split
    · exact k.link _ (k.same (.of_events _ _) h1)
    · exact k.link _ h1
  · exact h

end StepKept

/-! ## Every command and every step -/

theorem StepKept.exec {P : State → Prop} (k : StepKept P) {s t : State} (c : Instr) (h : P s) (he : exec c s = .next t) :
    P t := by
  cases c with
  | powerOnReset x y => cases he; exact k.powerOn x y h
  | powerOnLoadComplete => cases he; exact property_ite h (k.loadComplete h)
  | warmReset => cases he; exact StepKept.whenRunning (fun hu => k.resetIfDue (k.link _ hu)) h
  | frameDiscarded bytes => cases he; exact property_ite (property_ite (k.link _ h) h) h
  | interByteGap x => cases he; exact property_ite (k.link _ h) h
  | unknownCode q c p => cases he; exact property_ite h (k.serve q c p (fun hu => hu) h)
  | linkSilent => cases he; exact property_ite (k.linkSilent h) h
  | identify q p => cases he; exact k.serveFixed q _ _ p (fun hu => hu) h
  | setLink q p => cases he; exact k.serveFixed q _ _ p (fun hu => k.link _ hu) h
  | readStatus q p => cases he; exact k.serveFixed q _ _ p (fun hu => hu) h
  | readEvents q p => cases he; exact k.readEvents q p h
  | reset q p => cases he; exact k.serveFixed q _ _ p (fun hu => k.link _ hu) h
  | loadPlan q p => cases he; exact k.serveFixed q _ _ p (k.decideLoadPlan p) h
  | dropPlan q p => cases he; exact k.serveFixed q _ _ p (k.decideDropPlan p) h
  | readPlan q p => cases he; exact k.serveFixed q _ _ p (StepKept.decideReadPlan p) h
  | readPlanDirectory q => cases he; exact k.serveFixed q _ _ [0] (StepKept.decideReadPlan [0]) h
  | queueJob q p => cases he; exact k.serveBoomFixed q _ _ _ p (k.decideQueueJob p) h
  | cancelJob q p => cases he; exact k.serveBoomFixed q _ _ _ p (k.decideCancelJob p) h
  | readQueue q p => cases he; exact k.serveBoom q _ p (fun _ hu => hu) h
  | start q p => cases he; exact k.serveBoom q _ p k.decideStart h
  | hold q p => cases he; exact k.serveBoom q _ p k.decideHold h
  | resume q p => cases he; exact k.serveBoom q _ p k.decideResume h
  | abort q p => cases he; exact k.serveBoom q _ p k.decideAbort h
  | park q p => cases he; exact k.serveBoom q _ p (fun b hu => k.parkBoom b _ hu) h
  | unpark q p => cases he; exact k.serveBoom q _ p (fun b hu => k.unpark b hu) h
  | boltLoaded q p => cases he; exact k.serveBoom q _ p k.decideBoltLoaded h
  | clearFault q p => cases he; exact k.serveBoom q _ p k.decideClearFault h
  | jog q p => cases he; exact k.serveBoomFixed q _ _ _ p (k.decideJog p) h
  | readBoom q p => cases he; exact k.serveBoom q _ p (fun _ hu => hu) h
  | magazineLoaded q p => cases he; exact k.serveBoomFixed q _ _ _ p (k.decideMagazineLoaded p) h
  | canopyRaise q p => cases he; exact k.serveFixed q _ _ p k.decideCanopyRaise h
  | canopyLower q p => cases he; exact k.serveFixed q _ _ p k.decideCanopyLower h
  | clearTrip q p => cases he; exact k.serveFixed q _ _ p k.decideClearTrip h
  | setPumpBudget q p => cases he; exact k.serveFixed q _ _ p (fun hu => k.setBudget _ hu) h
  | readFlow q p => cases he; exact k.serveFixed q _ _ p (fun hu => hu) h
  | readChannels q p => cases he; exact k.serveFixed q _ _ p (fun hu => hu) h
  | restoreChannel q p => cases he; exact k.serveFixed q _ _ p (k.decideRestore p) h
  | setMonitor q p => cases he; exact k.serveFixed q _ _ p (k.decideSetMonitor p) h
  | readMonitors q p => cases he; exact k.serveFixed q _ _ p (fun hu => hu) h
  | clearMonitorLatch q p => cases he; exact k.serveFixed q _ _ p (k.decideClearLatch p) h
  | headBusPause q p => cases he; exact k.serveFixed q _ _ p (fun hu => k.bus _ hu) h
  | headBusResume q p => cases he; exact k.serveFixed q _ _ p k.decideBusResume h
  | headBusTransact q p => cases he; exact k.serve q _ p (k.decideTransact p) h
  | headBusResult q p => cases he; exact k.serveFixed q _ _ p (fun hu => hu) h
  | headBusKill q p => cases he; exact k.serveFixed q _ _ p k.decideKill h
  | fetchRecord q p => cases he; exact k.serveFixed q _ _ p (StepKept.decideFetch p) h
  | releaseRecord q p => cases he; exact k.serveFixed q _ _ p (k.decideRelease p) h
  | calibrate q p => cases he; exact k.serveFixed q _ _ p (k.decideCalibrate p) h
  | readCalibration q p => cases he; exact k.serveFixed q _ _ p (fun hu => hu) h
  | storeCalibration q p => cases he; exact k.serveFixed q _ _ p k.decideStore h
  | recallCalibration q p => cases he; exact k.serveFixed q _ _ p k.decideRecall h
  | storeWriteConfirmed =>
    cases he
    refine StepKept.whenRunning (fun hu => ?_) h
    split
    · exact k.resetIfDue (k.storeConfirmed _ hu)
    · exact hu
  | storeWriteTimeout =>
    cases he
    exact StepKept.whenRunning (fun hu => property_ite (k.resetIfDue (k.storeFailed hu)) hu) h
  | scanGroupPublished x => cases he; exact StepKept.whenRunning (k.publishScan x) h
  | switchQualifiedChange i => cases he; exact StepKept.whenRunning (k.qualify i) h
  | rotationPulse b => cases he; exact StepKept.whenRunning (fun hu => property_ite (k.pulse b hu) hu) h
  | encoderCount b i q => cases he; exact property_ite (k.encoder b i q h) (k.same (.of_setMotion s b _ rfl rfl) h)
  | deadTimeExpiry p => cases he; exact StepKept.whenRunning (fun hu => property_ite hu (k.deadEnd p hu)) h
  | motionMonitorExpiry p =>
    cases he
    refine StepKept.whenRunning (fun hu => property_ite ?_ hu) h
    have h1 := k.pairMark p { s.pair p with monitor := .disarmed } rfl rfl rfl rfl hu
    cases p with
    | boom b f => exact k.engineExpiry b f h1
    | canopy => exact k.canopyExpiry h1
  | mixLimitExpiry b => cases he; exact StepKept.whenRunning (k.mixLimit b) h
  | gelTimeExpiry b => cases he; exact StepKept.whenRunning (k.gelTime b) h
  | drillTimeLimit b => cases he; exact StepKept.whenRunning (k.drillLimitReached b) h
  | torqueTimeLimit b => cases he; exact StepKept.whenRunning (k.torqueLimitReached b) h
  | jogDurationExpiry b => cases he; exact StepKept.whenRunning (k.endJog b) h
  | flowStarved who => cases he; exact StepKept.whenRunning (k.starve who) h
  | canopyLowerTimeout => cases he; exact StepKept.whenRunning k.lowerLimitReached h
  | cartridgeMeasurementEnd b c => cases he; exact StepKept.whenRunning (k.measurementEnd b c) h
  | pollTimerExpiry =>
    cases he
    exact StepKept.whenRunning
      (fun hu => property_ite (k.beginRound (k.loadPollTimer hu)) (k.loadPollTimer hu)) h
  | headTransactionEnd e => cases he; exact StepKept.whenRunning (k.headEnd e) h
  | headBusTimeout => cases he; exact StepKept.whenRunning k.headTimeout h
  | headDataStale b => cases he; exact StepKept.whenRunning (fun hu => property_ite (k.setStale b true hu) hu) h
  | switchLineChange i l =>
    cases he
    exact k.same (.of_setSwitch s i _ fun _ _ => by split <;> rfl) h
  | rotationPickupLineChange b a => cases he; exact k.same (.of_setMotion s b _ rfl rfl) h
  | rotationPickupReturn b =>
    cases he
    exact StepKept.whenRunning (fun hu => property_ite (k.same (.of_setMotion s b _ rfl rfl) hu) hu) h
  | replySent => cases he; exact property_ite (k.link _ h) h

theorem StepKept.tick {P : State → Prop} (k : StepKept P) {s : State} (h : P s) : P s.tick := by
  have h1 := k.tickTimers h
  exact property_ite (property_ite (k.beginScan h1) h1)
    (k.same (s := s) (.of_boom_eq rfl rfl rfl rfl rfl rfl rfl rfl rfl rfl rfl) h)

/-- A property that every act keeps is kept by every step. -/
theorem StepKept.step {P : State → Prop} (k : StepKept P) {s t : State} (h : P s) (hs : step s = .next t) : P t := by
  unfold Machine.step at hs
  split at hs
  · exact k.exec _ (k.same (.of_pending s _) h) hs
  · split at hs
    · exact k.exec _ h hs
    · cases hs
      exact k.tick h

end Sys2Proof.Machine
end

section
/-! PROOF. Invariants that read one part of the state each: what has to be shown of the updates of that part (`BlocksKept`,
`SamplesKept`, `CoreKept`), and that a step keeps the property then. -/
namespace Sys2Proof.Machine

/-- A monitor's latches stand no lower than its status (R181). -/
def LatchOk (m : Monitor) : Prop := (m.status ≠ .normal → m.warnSeen = true) ∧ (m.status = .trip → m.tripSeen = true)

/-- A property that the single updates of a step keep, those of an engine's acts and those of the other blocks; the samples of the
channels apart, which the restricted flags follow. -/
structure BlocksKept (P : State → Prop) : Prop extends EngineKept P where
  pass : ∀ {s : State}, P s → P { s with arb := s.arb.pass.1 }
  setBudget : ∀ {s : State} v, P s → P { s with arb := (s.arb.setBudget v).1 }
  markStarved : ∀ {s : State} who n, P s → P { s with arb := s.arb.markStarved who n }
  arbReset : ∀ {s : State}, P s → P { s with arb := { budget := s.arb.budget } }
  queue : ∀ {s : State} b (q : List Job), P s → P (s.setQueue b q)
  active : ∀ {s : State} b (j : Option Job), P s → P (s.setActive b j)
  plans : ∀ {s : State} (ps : List HolePlan), P s → P { s with plans := ps }
  dropRecord : ∀ {s : State}, P s → P { s with store := { s.store with records := s.store.records.drop 1 } }
  refile : ∀ {s : State} (r : InstRecord) (q : List BoomId), s.store.records ≠ [] → P s →
    P { s with
        store :=
          { records := s.store.records.drop 1 ++ [{ r with number := some s.store.next }], next := s.store.next + 1
            room := q } }
  monitor : ∀ {s : State} n m, (LatchOk (s.monitor n) → LatchOk m) → P s → P (s.setMonitorAt n m)
  monitorsReset : ∀ {s : State}, P s → P { s with monitors := s.monitors.map Monitor.warmReset }
  moveFeed : ∀ {s : State} b pos, (pos ≤ 3000 ∨ pos ≤ (s.motion b).feedPos) → P s → P (s.moveFeed b pos)
  beginScan : ∀ {s : State}, P s → P s.beginScan
  sensing : ∀ {s : State} b x, (x.magazine ≤ 24 ∨ x.magazine ≤ (s.sensing b).magazine) → P s → P (s.setSensing b x)
  pairMark : ∀ {s : State} p (x : Pair), x.coil = (s.pair p).coil → x.dir = (s.pair p).dir → x.last = (s.pair p).last →
    x.dead = (s.pair p).dead → P s → P (s.setPair p x)
  deadEnd : ∀ {s : State} p, P s → P ((s.setPair p { s.pair p with dead := 0 }).settlePair p)
  presence : ∀ {s : State} b x, P s → P ((s.setSwitch (.prs b) x).settleBoom b)
  tripSet : ∀ {s : State}, P s → P ({ s with trip := true } : State).settleAll
  tripClear : ∀ {s : State}, P s → P ({ s with trip := false } : State).settleAll
  canopy : ∀ {s : State} (c : Canopy), P s → P { s with canopy := c }
  powerOn : ∀ {s : State} x y, P s → P (s.powerOn x y)
  tickTimers : ∀ {s : State}, P s → P s.tickTimers

/-- A property that the samples of the channels keep, each with what the boom's engine makes of it, and the boom's own reset. -/
structure SamplesKept (P : State → Prop) : Prop where
  sampleShared : ∀ {s : State} c r, (c = .pump ∨ c = .canopy ∨ c = .oil) → P s → P (s.sampleAnalog c r)
  scanned : ∀ {s : State} b rot feed later, P s → P (s.scanned b rot feed later)
  headSampled : ∀ {s : State} b e, P s → P (s.headTakes b ((s.head b).after e s.now))
  headStale : ∀ {s : State} b x, P s → P (s.headTakes b { s.head b with stale := x })
  beginRestore : ∀ {s : State} c, s.health c = .failed → P s → P (s.beginRestore c)
  warmBoom : ∀ {s : State} b, P s → P (s.warmBoom b)

/-- A property that does not read the restricted flags, and that every update of a channel keeps by itself. -/
structure CoreKept (P : State → Prop) : Prop extends BlocksKept P where
  restrict : ∀ {s : State} b (x : Bool), P s → P (s.setEngine b { s.engine b with restricted := x })
  analog : ∀ {s : State} c (x : Analog),
    (CountOk (s.analog c).count (s.analog c).restore → CountOk x.count x.restore) → P s → P (s.setAnalog c x)
  head : ∀ {s : State} b (x : Head),
    (CountOk (s.head b).count (s.head b).restore → CountOk x.count x.restore) → P s → P (s.setHead b x)
  recordPosition : ∀ {s : State} b later, P s → P (s.recordPosition b later)

/-! ## Counts and restores (R138, R143) -/

/-- R143: where a restore counts, one more sample leaves its progress below 128 or completes it. -/
theorem CountOk.restored {count : Nat} {restore : Option Nat} (h : CountOk count restore) (good : Bool)
    (hn : restoreAfter restore good ≠ some 128) : CountOk count (restoreAfter restore good) := by
  refine ⟨h.1, fun p hp => ?_⟩
  cases restore with
  | none => simp [restoreAfter] at hp
  | some q =>
    obtain ⟨hc, hq⟩ := h.2 q rfl
    simp only [restoreAfter, Option.map_some, Option.some.injEq] at hp hn
    refine ⟨hc, ?_⟩
    split at hp <;> simp_all <;> omega

/-- R138: outside FAILED no restore counts, and the count moves within its range. -/
theorem CountOk.counted {count : Nat} {restore : Option Nat} (h : CountOk count restore)
    (hf : Health.ofCount count ≠ .failed) (good : Bool) : CountOk (countAfter count good) restore := by
  refine ⟨countAfter_le h.1 good, fun p hp => ?_⟩
  have := (h.2 p hp).1
  exact absurd ((Health.ofCount_failed count).2 (by omega)) hf

@[simp] theorem Analog.firstFilter_count (c : Analog) (ch : AnalogId) (x : Int) : (c.firstFilter ch x).count = c.count := by
  unfold Analog.firstFilter
  split <;> rfl

@[simp] theorem Analog.firstFilter_restore (c : Analog) (ch : AnalogId) (x : Int) :
    (c.firstFilter ch x).restore = c.restore := by
  unfold Analog.firstFilter
  split <;> rfl

/-- R138, R143: a sample keeps an analog channel's count and restore in range. -/
theorem Analog.sample_countOk (c : Analog) (ch : AnalogId) (n : Nat) (raw : RawSample) (x : Int)
    (h : CountOk c.count c.restore) : CountOk (c.sample ch n raw x).count (c.sample ch n raw x).restore := by
  unfold Analog.sample
  dsimp only
  split
  · split
    · exact ⟨Nat.zero_le _, fun p hp => by cases hp⟩
    · split
      · simpa using h.restored _ ‹_›
      · exact h.restored _ ‹_›
  · rename_i hf
    split <;> exact h.counted hf _

/-- R138, R143: a sample keeps a head channel's count and restore in range. -/
theorem Head.sampled_countOk (c : Head) (good : Bool) (h : CountOk c.count c.restore) :
    CountOk (c.sampled good).count (c.sampled good).restore := by
  unfold Head.sampled
  dsimp only
  split
  · split
    · exact ⟨Nat.zero_le _, fun p hp => by cases hp⟩
    · exact h.restored _ ‹_›
  · exact h.counted ‹_› _

/-- R152: an ending leaves the head record as it is, or with a sample of its channel taken, and its data published or held. -/
theorem Head.after_countOk (c : Head) (e : Ending) (now : Timestamp) (h : CountOk c.count c.restore) :
    CountOk (c.after e now).count (c.after e now).restore := by
  unfold Head.after
  split
  · dsimp only
    split <;> exact c.sampled_countOk true h
  · exact c.sampled_countOk _ h
  · exact h

/-- R143: a restore that begins in FAILED begins at 0. -/
theorem CountOk.begun {count : Nat} {restore : Option Nat} (h : CountOk count restore)
    (hf : Health.ofCount count = .failed) : CountOk count (some 0) :=
  ⟨h.1, fun p hp => by
    have := (Health.ofCount_failed count).1 hf
    cases hp
    have := h.1
    omega⟩

namespace BlocksKept
variable {P : State → Prop} (k : BlocksKept P) {s : State}
include k

theorem runPass (h : P s) : P s.runPass := k.tells _ (k.pass h)

theorem setBudgetPass (v : Nat) (h : P s) : P (s.setBudget v) := k.runPass (k.tells _ (k.setBudget v h))

theorem startJob (b : BoomId) (j : Job) (rest : List Job) (h : P s) : P (s.startJob b j rest) :=
  k.beginFlow b _ (k.setLogger b _ (k.toEngineKept.engine b _ rfl (k.active b _ (k.queue b _ (k.dropJog b h)))))

theorem appendJob (b : BoomId) (j : Job) (h : P s) : P (s.appendJob b j) := by
  have h1 := k.queue b ((s.boom b).queue ++ [j]) h
  exact property_ite (k.goto b _ _ h1) h1

theorem cancelJob (b : BoomId) (tag : Nat) (h : P s) : P (s.cancelJob b tag) := by
  have h1 := k.queue b ((s.boom b).queue.filter (fun j => j.tag != tag)) h
  exact property_ite (k.goto b _ _ h1) h1

theorem release (hr : s.store.records ≠ []) (h : P s) : P s.release := by
  have h1 := k.dropRecord h
  unfold State.release
  dsimp only
  split
  · exact h1
  · rename_i b rest _
    unfold State.file
    split
    · exact k.room rest h1
    · rename_i r _
      exact k.filed b _ (k.raise _ (k.refile r rest hr h))

theorem raiseHealth (c : ChannelId) (old new : Health) (h : P s) : P (s.raiseHealth c old new) := by
  unfold State.raiseHealth
  split
  · exact k.raise _ h
  · exact h

theorem estimateTorque (b : BoomId) (h : P s) : P (s.estimateTorque b) := k.same (.of_setMotion s b _ rfl rfl) h

theorem canopyGoto (st : CanopyState) (f : CanopyFault) (h : P s) : P (s.canopyGoto st f) := k.canopy _ h

theorem canopyLoss (h : P s) : P s.canopyLoss :=
  k.holdCause .B _ (k.holdCause .A _ (k.raise _ (k.canopyGoto _ _ h)))

theorem releasePairs (ps : List PairId) (h : P s) : P (ps.foldl State.releasePair s) := by
  induction ps generalizing s with
  | nil => exact h
  | cons p ps ih => exact ih (k.request p _ h)

theorem restartSensing (b : BoomId) (h : P s) : P (s.restartSensing b) := k.sensing b _ (.inr (Nat.le_refl _)) h

theorem warmBus (h : P s) : P s.warmBus := k.same (.of_bus s s.warmBus.bus) h

/-- What a warm reset does besides the pairs, the booms, the bus and the sensing blocks. -/
theorem resetRest (c : Canopy) (l : Link) (h : P s) :
    P { s with
        arb := { budget := s.arb.budget }, canopy := c, monitors := s.monitors.map Monitor.warmReset
        store := { s.store with room := [] }, events := 0, link := l } :=
  k.same (.of_link _ l) (k.same (.of_events _ 0) (k.canopy c (k.arbReset (k.monitorsReset (k.room [] h)))))

theorem warmReset (m : SamplesKept P) (h : P s) : P s.warmReset := by
  have h1 := m.warmBoom .B (m.warmBoom .A (k.releasePairs allPairs h))
  exact k.resetRest _ _ (k.restartSensing .B (k.restartSensing .A (k.warmBus h1)))

end BlocksKept

/-- A property that the single updates and the samples keep is kept by every act of a step. -/
theorem BlocksKept.stepKept {P : State → Prop} (k : BlocksKept P) (m : SamplesKept P) : StepKept P where
  same := k.same
  request := k.request
  place := k.place
  withdraw := k.withdraw
  setBudget := k.setBudgetPass
  markStarved := k.markStarved
  engineMark b e _ _ hr := k.toEngineKept.engine b e hr
  engineScan := k.engineScan
  holdCause := k.holdCause
  parkBoom := k.parkBoom
  unpark := k.unpark
  aborted b _ := k.enterFaulted b _
  enterPush b _ := k.enterPush b
  faultCleared b _ _ := k.choose b
  startJob b j rest _ _ _ := k.startJob b j rest
  resume b _ _ := k.resume b
  startJog := k.startJog
  endJog := k.endJog
  beginStrokes b _ := k.beginStrokes b
  homeClosed := k.homeClosed
  inserterClosed := k.inserterClosed
  engineExpiry := k.engineExpiry
  mixPulse := k.mixPulse
  mixLimit := k.mixLimit
  gelTime := k.gelTime
  drillLimitReached := k.drillLimitReached
  torqueLimitReached := k.torqueLimitReached
  insertPlan _ _ := k.plans _
  dropPlan _ _ := k.plans _
  appendJob b j _ := k.appendJob b j
  cancelJob := k.cancelJob
  release := k.release
  sampleShared := m.sampleShared
  scanned := m.scanned
  headSampled := m.headSampled
  headStale := m.headStale
  beginRestore := m.beginRestore
  monitor := k.monitor
  moveFeed := k.moveFeed
  beginScan := k.beginScan
  sensing := k.sensing
  pairMark := k.pairMark
  deadEnd := k.deadEnd
  presence := k.presence
  tripSet := k.tripSet
  tripClear := k.tripClear
  canopyGoto st f _ := k.canopyGoto st f
  canopyLoss := k.canopyLoss
  powerOn := k.powerOn
  warmReset := k.warmReset m
  tickTimers := k.tickTimers

/-! ## Properties that every update of a channel keeps by itself -/

namespace CoreKept
variable {P : State → Prop} (k : CoreKept P) {s : State}
include k

theorem sampleAnalog (c : AnalogId) (r : RawSample) (h : P s) : P (s.sampleAnalog c r) :=
  k.raiseHealth _ _ _ (k.analog c _ (Analog.sample_countOk _ _ _ _ _) h)

theorem updateRestricted (b : BoomId) (h : P s) : P (s.updateRestricted b) := by
  have h1 := k.restrict b (s.restrictedNow b) h
  exact property_ite h (k.reissueFeed b (property_ite (k.flagRecord b _ (k.raise _ h1)) h1))

theorem tellEngine (b : BoomId) (old new : Health) (h : P s) : P (s.tellEngine b old new) := by
  have h1 := k.updateRestricted b h
  exact property_ite h (property_ite (k.channelFailed b h1) h1)

theorem scanned (b : BoomId) (rot feed : RawSample) (later : Nat) (h : P s) : P (s.scanned b rot feed later) :=
  k.tellEngine b _ _ (k.tellEngine b _ _ (k.loggerScan b (k.estimateTorque b
    (k.sampleAnalog _ _ (k.sampleAnalog _ _ (k.recordPosition b later h))))))

theorem headTakes (b : BoomId) (x : Head)
    (hx : CountOk (s.head b).count (s.head b).restore → CountOk x.count x.restore) (h : P s) : P (s.headTakes b x) := by
  have h1 := k.raiseHealth (.head b) (s.head b).health x.health (k.head b x hx h)
  have h2 := property_ite (c := ((s.setHead b x).raiseHealth (.head b) (s.head b).health x.health |>.head b).health ≠
      (s.head b).health ∨
    ((s.setHead b x).raiseHealth (.head b) (s.head b).health x.health |>.head b).stale ≠ (s.head b).stale)
    (k.updateRestricted b h1) h1
  exact property_ite (k.channelFailed b h2) h2

theorem beginRestore (c : ChannelId) (hf : s.health c = .failed) (h : P s) : P (s.beginRestore c) := by
  cases c with
  | analog c => exact k.analog c _ (fun hc => hc.begun hf) h
  | head b => exact k.head b _ (fun hc => hc.begun hf) h

theorem warmBoom (b : BoomId) (h : P s) : P (s.warmBoom b) := by
  have h1 := k.restrict b (s.restrictedNow b) (k.setLogger b {} (k.active b none (k.queue b [] h)))
  have h2 := k.toEngineKept.engine b { restricted := s.restrictedNow b } (by simp) h1
  have e : s.warmBoom b = ((((s.setQueue b []).setActive b none).setLogger b {}).setEngine b
      { (((s.setQueue b []).setActive b none).setLogger b {}).engine b with restricted := s.restrictedNow b }).setEngine b
      { restricted := s.restrictedNow b } := by
    cases b <;> rfl
  rw [e]
  exact h2

theorem samplesKept : SamplesKept P where
  sampleShared c r _ := k.sampleAnalog c r
  scanned := k.scanned
  headSampled b e := k.headTakes b _ (Head.after_countOk _ e _)
  headStale b _ := k.headTakes b _ id
  beginRestore := k.beginRestore
  warmBoom := k.warmBoom

end CoreKept

theorem CoreKept.stepKept {P : State → Prop} (k : CoreKept P) : StepKept P := k.toBlocksKept.stepKept k.samplesKept

end Sys2Proof.Machine
end

section
/-! PROOF. The arbiter's stamps and the order of its wait list through its own operations, and that every step keeps the arbiter's
promise (O55). -/
namespace Sys2Proof.Machine

/-! ## The order of the wait list -/

/-- R77: the order of the wait list, class first, then arrival stamp. -/
def WaitsBefore (x y : Waiting) : Prop := x.req.cls < y.req.cls ∨ x.req.cls = y.req.cls ∧ x.req.stamp < y.req.stamp

theorem WaitsBefore.trans {x y z : Waiting} (h : WaitsBefore x y) (k : WaitsBefore y z) : WaitsBefore x z := by
  unfold WaitsBefore at *
  omega

theorem FlowReq.ahead_iff (x y : Waiting) : x.req.ahead y.req = true ↔ WaitsBefore x y := by
  simp [FlowReq.ahead, WaitsBefore]

/-- R77: a request with a stamp of its own joins the list at its place in the order. -/
theorem joinWaits_ordered {w : Waiting} {ws : List Waiting} (h : ws.Pairwise WaitsBefore)
    (hw : ∀ x ∈ ws, x.req.stamp ≠ w.req.stamp) : (joinWaits w ws).Pairwise WaitsBefore := by
  induction ws with
  | nil => exact List.pairwise_singleton _ _
  | cons x xs ih =>
    obtain ⟨hx, hs⟩ := List.pairwise_cons.1 h
    unfold joinWaits
    split
    · rename_i ha
      have hwx := (FlowReq.ahead_iff w x).1 ha
      refine List.pairwise_cons.2 ⟨fun y hy => ?_, h⟩
      rcases List.mem_cons.1 hy with rfl | hy
      · exact hwx
      · exact hwx.trans (hx y hy)
    · rename_i ha
      have hxw : WaitsBefore x w := by
        have hn : ¬WaitsBefore w x := fun hb => ha ((FlowReq.ahead_iff w x).2 hb)
        have := hw x (List.mem_cons_self ..)
        unfold WaitsBefore at *
        omega
      refine List.pairwise_cons.2 ⟨fun y hy => ?_, ih hs fun y hy => hw y (List.mem_cons_of_mem _ hy)⟩
      rcases List.mem_cons.1 ((joinWaits_perm w xs).mem_iff.1 hy) with rfl | hy
      · exact hxw
      · exact hx y hy

/-! ## Requesters and stamps together -/

/-- No requester holds two requests, and the stamps and the wait list stand in order. -/
structure Arbiter.Ordered (a : Arbiter) : Prop where
  who : (a.held.map (·.who)).Nodup
  stamps : (a.held.map (·.stamp)).Nodup
  below : ∀ r ∈ a.held, r.stamp ≤ a.counter
  bound : a.counter ≤ 65535
  waits : a.waits.Pairwise WaitsBefore

theorem Arbiter.ordered_iff (a : Arbiter) : a.Ordered ↔ (a.held.map (·.who)).Nodup ∧ StampsOk a :=
  ⟨fun h => ⟨h.who, h.stamps, h.below, h.bound, h.waits⟩, fun ⟨hw, hs, hb, hc, hp⟩ => ⟨hw, hs, hb, hc, hp⟩⟩

namespace Arbiter.Ordered
variable {a a' : Arbiter}

/-- Holding the same requests, an arbiter is as ordered as its wait list. -/
theorem of_keeps (h : a.Ordered) (k : ArbKeeps a a') (hw : a'.waits.Pairwise WaitsBefore) : a'.Ordered :=
  ⟨k.nodup h.who, ((k.1.map _).nodup_iff).2 h.stamps, fun r hr => k.2.2.symm ▸ h.below r (k.1.mem_iff.1 hr),
    k.2.2.symm ▸ h.bound, hw⟩

/-- Holding some of the requests in their order, an arbiter stays ordered. -/
theorem of_sublist (h : a.Ordered) (hs : a'.held.Sublist a.held) (hc : a'.counter = a.counter)
    (hw : a'.waits.Sublist a.waits) : a'.Ordered :=
  ⟨(hs.map _).nodup h.who, (hs.map _).nodup h.stamps, fun r hr => hc.symm ▸ h.below r (hs.subset hr), hc.symm ▸ h.bound,
    h.waits.sublist hw⟩

theorem tail (h : a.Ordered) {w : Waiting} {ws : List Waiting} (hw : a.waits = w :: ws) :
    ({ a with waits := ws } : Arbiter).Ordered := by
  refine h.of_sublist ?_ rfl (hw ▸ List.sublist_cons_self _ _)
  simp only [Arbiter.held, hw, List.map_cons]
  exact (List.Sublist.refl _).append (List.sublist_cons_self _ _)

theorem remove (h : a.Ordered) (who : Requester) : (a.remove who).Ordered := by
  refine h.of_sublist ?_ rfl List.filter_sublist
  exact List.filter_sublist.append (List.filter_sublist.map _)

/-- A granted request has a stamp of its own. -/
theorem grant_stamp (h : a.Ordered) {r : FlowReq} (hr : r ∈ a.grants) : ∀ x ∈ a.waits, x.req.stamp ≠ r.stamp := by
  intro x hx he
  have hs := h.stamps
  simp only [Arbiter.held, List.map_append, List.nodup_append] at hs
  exact hs.2.2 _ (List.mem_map_of_mem hr) _ (List.mem_map_of_mem (List.mem_map_of_mem (f := (·.req)) hx)) he.symm

theorem preempt (h : a.Ordered) {r : FlowReq} (hr : r ∈ a.grants) : (a.preempt r).Ordered :=
  h.of_keeps (Arbiter.preempt_keeps h.who hr) (joinWaits_ordered h.waits (h.grant_stamp hr))

theorem preemptFor (need cls n : Nat) (h : a.Ordered) : (a.preemptFor need cls n).1.Ordered := by
  induction n generalizing a with
  | zero => exact h
  | succ n ih =>
    unfold Arbiter.preemptFor
    split
    · exact h
    · split
      · exact h
      · rename_i r hv
        exact ih (h.preempt (victim_mem hv).1)

theorem fitBudget (n : Nat) (h : a.Ordered) : (a.fitBudget n).1.Ordered := by
  induction n generalizing a with
  | zero => exact h
  | succ n ih =>
    unfold Arbiter.fitBudget
    split
    · exact h
    · split
      · exact h
      · rename_i r hv
        exact ih (h.preempt (victim_mem hv).1)

/-- R81, R82: the head is granted, after the preemptions for it, while its own request stands aside. -/
theorem grantHead_after (h : a.Ordered) {w : Waiting} {ws : List Waiting} (hw : a.waits = w :: ws) (need cls n : Nat) :
    ((({ a with waits := ws } : Arbiter).preemptFor need cls n).1.grantHead w).Ordered := by
  have ht := h.tail hw
  obtain ⟨⟨hp, hb, hc⟩, -, -⟩ := Arbiter.preemptFor_spec need cls n { a with waits := ws } ht.who
  refine h.of_keeps ⟨?_, hb, hc⟩ (ht.preemptFor need cls n).waits
  have h1 : ((({ a with waits := ws } : Arbiter).preemptFor need cls n).1.grantHead w).held.Perm
      (w.req :: (({ a with waits := ws } : Arbiter).preemptFor need cls n).1.held) := by
    simp only [Arbiter.held, Arbiter.grantHead, List.append_assoc, List.singleton_append]
    exact List.perm_middle
  refine h1.trans ((hp.cons _).trans ?_)
  simp only [Arbiter.held, hw, List.map_cons]
  exact List.perm_middle.symm

theorem passFuel (n : Nat) (h : a.Ordered) : (a.passFuel n).1.Ordered := by
  induction n generalizing a with
  | zero => exact h
  | succ n ih =>
    unfold Arbiter.passFuel
    split
    · exact h
    · rename_i w ws hw
      split_ifs
      · exact ih (h.of_keeps (Arbiter.grantHead_keeps a w ws hw) (h.tail hw).waits)
      · exact h
      · exact h
      · exact ih (h.grantHead_after hw _ _ _)

theorem pass (h : a.Ordered) : a.pass.1.Ordered := h.passFuel 8

/-- Three requesters hold at most three requests. -/
theorem held_length (h : a.Ordered) : a.held.length ≤ 3 := by
  have hsub : (a.held.map (·.who)).Subperm [.boom .A, .boom .B, .canopy] := by
    refine h.who.subperm fun x _ => ?_
    rcases x with (_ | _) | _ <;> simp
  simpa using hsub.length_le

/-- R75: renumbering keeps the order of the stamps. -/
theorem rank_lt {x y : FlowReq} (hx : x ∈ a.held) (hxy : x.stamp < y.stamp) : a.rank x < a.rank y := by
  unfold Arbiter.rank
  have hsub : (a.held.filter (fun z => z.stamp < x.stamp)).Sublist (a.held.filter (fun z => z.stamp < y.stamp)) :=
    List.monotone_filter_right _ fun z hz => by simp only [decide_eq_true_eq] at *; omega
  have hle := hsub.length_le
  have hne : (a.held.filter (fun z => z.stamp < x.stamp)).length ≠ (a.held.filter (fun z => z.stamp < y.stamp)).length := by
    intro he
    have hmem : x ∈ a.held.filter (fun z => z.stamp < y.stamp) := List.mem_filter.2 ⟨hx, by simpa using hxy⟩
    rw [← hsub.eq_of_length he] at hmem
    simp at hmem
  omega

theorem rank_le (x : FlowReq) (hx : x ∈ a.held) : a.rank x ≤ a.held.length := by
  unfold Arbiter.rank
  have : (a.held.filter (fun z => z.stamp < x.stamp)).length < a.held.length := by
    refine lt_of_le_of_ne (List.length_filter_le _ _) fun he => ?_
    have := List.length_filter_eq_length_iff.1 he x hx
    simp at this
  omega

/-- R75: renumbering, a placement's first act, keeps the order and leaves room for one stamp more. -/
theorem renumber (h : a.Ordered) : a.renumber.Ordered ∧ a.renumber.counter < 65535 := by
  unfold Arbiter.renumber
  split
  · have hheld : ({ a with
        grants := a.grants.map (fun r => { r with stamp := a.rank r })
        waits := a.waits.map (fun w => { w with req := { w.req with stamp := a.rank w.req } })
        counter := a.held.length } : Arbiter).held = a.held.map (fun r => { r with stamp := a.rank r }) := by
      simp [Arbiter.held, List.map_map, Function.comp_def]
    have hlen := h.held_length
    refine ⟨⟨?_, ?_, ?_, by dsimp only; omega, ?_⟩, by dsimp only; omega⟩
    · rw [hheld, List.map_map]
      exact h.who
    · rw [hheld, List.map_map]
      refine (List.nodup_map_iff_inj_on h.stamps.of_map).2 fun x hx y hy he => ?_
      by_contra hne
      have hst : x.stamp ≠ y.stamp := fun e => hne (List.inj_on_of_nodup_map h.stamps hx hy e)
      simp only [Function.comp_apply] at he
      rcases lt_or_gt_of_ne hst with hlt | hlt
      · exact absurd he (rank_lt hx hlt).ne
      · exact absurd he (rank_lt hy hlt).ne'
    · intro r hr
      rw [hheld] at hr
      obtain ⟨x, hx, rfl⟩ := List.mem_map.1 hr
      exact rank_le x hx
    · refine List.pairwise_map.2 (h.waits.imp_of_mem fun {x y} hx hy hb => ?_)
      have hmem : ∀ {z}, z ∈ a.waits → z.req ∈ a.held := fun hz => List.mem_append_right _ (List.mem_map_of_mem hz)
      rcases hb with hc | ⟨hc, hs⟩
      · exact .inl hc
      · exact .inr ⟨hc, rank_lt (hmem hx) hs⟩
  · exact ⟨h, by omega⟩

/-- R78, R79: a placement or exchange gives its request the stamp above all others. -/
theorem submit (h : a.Ordered) (who : Requester) (p : Purpose) (d : Nat) : (a.submit who p d).Ordered := by
  obtain ⟨hr, hc⟩ := h.renumber
  have hm := hr.remove who
  let r : FlowReq := { who := who, purpose := p, cls := p.cls, demand := d, stamp := a.renumber.counter + 1 }
  have hp : (a.submit who p d).held.Perm (r :: (a.renumber.remove who).held) := by
    simp only [Arbiter.held, Arbiter.submit]
    exact (((joinWaits_perm _ _).map _).append_left _).trans List.perm_middle
  have hnew : ∀ x ∈ (a.renumber.remove who).held, x.stamp ≠ r.stamp := fun x hx he => by
    have : x.stamp ≤ a.renumber.counter := hm.below x hx
    have : r.stamp = a.renumber.counter + 1 := rfl
    omega
  refine ⟨((hp.map _).nodup_iff).2 ?_, ((hp.map _).nodup_iff).2 ?_, fun x hx => ?_, hc, ?_⟩
  · exact List.nodup_cons.2 ⟨Arbiter.remove_not_mem _ _, hm.who⟩
  · refine List.nodup_cons.2 ⟨fun hmem => ?_, hm.stamps⟩
    obtain ⟨x, hx, he⟩ := List.mem_map.1 hmem
    exact hnew x hx he
  · rcases List.mem_cons.1 (hp.mem_iff.1 hx) with rfl | hx
    · exact Nat.le_refl _
    · exact (hm.below x hx).trans (Nat.le_succ _)
  · exact joinWaits_ordered hm.waits fun x hx => hnew _ (List.mem_append_right _ (List.mem_map_of_mem hx))

/-- Waits whose requests stand as they were are ordered as before. -/
theorem of_waits (h : a.Ordered) {f : Waiting → Waiting} (hf : ∀ w, (f w).req = w.req) :
    ({ a with waits := a.waits.map f } : Arbiter).Ordered := by
  have hheld : ({ a with waits := a.waits.map f } : Arbiter).held = a.held := by
    simp [Arbiter.held, List.map_map, Function.comp_def, hf]
  refine ⟨by rw [hheld]; exact h.who, by rw [hheld]; exact h.stamps, by rw [hheld]; exact h.below, h.bound, ?_⟩
  exact List.pairwise_map.2 (h.waits.imp fun hb => by simpa [WaitsBefore, hf] using hb)

end Arbiter.Ordered

/-! ## Properties of the arbiter through a step -/

/-- A property of the arbiter that its own operations keep. -/
structure ArbKept (Q : Arbiter → Prop) : Prop where
  submit : ∀ {a : Arbiter} who p d, Q a → Q (a.submit who p d)
  remove : ∀ {a : Arbiter} who, Q a → Q (a.remove who)
  pass : ∀ {a : Arbiter}, Q a → Q a.pass.1
  setBudget : ∀ {a : Arbiter} v, Q a → Q (a.setBudget v).1
  markStarved : ∀ {a : Arbiter} who n, Q a → Q (a.markStarved who n)
  tick : ∀ {a : Arbiter}, Q a → Q a.tick
  fresh : ∀ n, Q { budget := n }

theorem ArbKept.coreKept {Q : Arbiter → Prop} (k : ArbKept Q) : CoreKept (fun s => Q s.arb) where
  same hs h := hs.arb ▸ h
  engine b e _ h := by simpa using h
  clearActive b h := by simpa using h
  request p r h := by simpa [State.request] using h
  submit who p d h := k.pass (k.submit who p d h)
  remove who h := k.pass (k.remove who h)
  filing _ _ h := h
  room _ h := h
  restrict b x h := by simpa using h
  pass h := k.pass h
  setBudget v h := k.setBudget v h
  markStarved who n h := k.markStarved who n h
  arbReset _ := k.fresh _
  queue b q h := by simpa using h
  active b j h := by simpa using h
  plans _ h := h
  dropRecord h := h
  refile _ _ _ h := h
  analog c x _ h := by simpa using h
  head b x _ h := by simpa using h
  monitor n m _ h := h
  monitorsReset h := h
  moveFeed b pos _ h := by simpa [State.moveFeed] using h
  recordPosition b later h := by simpa [State.recordPosition] using h
  beginScan h := h
  sensing b x _ h := by simpa using h
  pairMark p x _ _ _ _ h := by simpa using h
  deadEnd p h := by simpa [State.settlePair] using h
  presence b x h := by simpa [State.settleBoom, State.settlePair] using h
  tripSet h := by simpa [State.settleAll, State.settleBoom, State.settlePair] using h
  tripClear h := by simpa [State.settleAll, State.settleBoom, State.settlePair] using h
  canopy _ h := h
  powerOn _ _ _ := k.fresh 20
  tickTimers h := k.tick h

theorem arbiterOk_kept : ArbKept ArbiterOk where
  submit who p d h := Arbiter.submit_ok h who p d
  remove who h := Arbiter.remove_ok h who
  pass h := Arbiter.pass_ok h
  setBudget v h := Arbiter.setBudget_ok h v
  markStarved who n h := Arbiter.markStarved_ok h who n
  tick h := Arbiter.tick_ok h
  fresh n := ⟨Nat.zero_le _, List.nodup_nil, fun r hr => by cases hr⟩

theorem ordered_kept : ArbKept Arbiter.Ordered where
  submit who p d h := h.submit who p d
  remove who h := h.remove who
  pass h := h.pass
  setBudget v h := .fitBudget _ ⟨h.who, h.stamps, h.below, h.bound, h.waits⟩
  markStarved who n h := h.of_waits fun w => by split <;> rfl
  tick h := h.of_waits fun _ => rfl
  fresh n := ⟨List.nodup_nil, List.nodup_nil, fun r hr => (by cases hr), Nat.zero_le _, List.Pairwise.nil⟩

/-- Settles O55: the arbiter's promise is one of its own operations' each, and nothing else of a step reaches the arbiter. -/
theorem stepKeepsArbiter : Obligations.StepKeepsArbiter := by
  unfold Obligations.StepKeepsArbiter
  refine ⟨fun s t h hs => arbiterOk_kept.coreKept.stepKept.step h hs, fun s t h hk hs => ?_⟩
  exact ((Arbiter.ordered_iff _).1
    (ordered_kept.coreKept.stepKept.step ((Arbiter.ordered_iff s.arb).2 ⟨h.2.1, hk⟩) hs)).2

end Sys2Proof.Machine
end

section
/-! PROOF. The coils (O57): what deciding pairs afresh does to each coil, and that every step keeps every coil as its request, gate,
dead time and last direction make it. -/
namespace Sys2Proof.Machine

/-! ## Gates and pairs through the updates -/

@[simp] theorem State.setPair_gateOpen (s : State) (p q : PairId) (x : Pair) : (s.setPair p x).gateOpen q = s.gateOpen q := by
  cases q <;> simp [State.gateOpen, State.closed]

@[simp] theorem State.setEngine_gateOpen (s : State) (b : BoomId) (e : Engine) (q : PairId) :
    (s.setEngine b e).gateOpen q = s.gateOpen q := by
  cases q <;> simp [State.gateOpen, State.closed]

@[simp] theorem State.settlePair_gateOpen (s : State) (p q : PairId) : (s.settlePair p).gateOpen q = s.gateOpen q := by
  simp [State.settlePair]

@[simp] theorem State.request_gateOpen (s : State) (p q : PairId) (r : PairRequest) :
    (s.request p r).gateOpen q = s.gateOpen q := by
  simp [State.request]

theorem State.setPair_pair_ne (s : State) {p q : PairId} (h : q ≠ p) (x : Pair) : (s.setPair p x).pair q = s.pair q := by
  cases p with
  | canopy =>
    cases q with
    | canopy => exact absurd rfl h
    | boom b f => cases b <;> cases f <;> rfl
  | boom b f =>
    cases q with
    | canopy => cases b <;> cases f <;> rfl
    | boom c g =>
      cases b <;> cases c <;> cases f <;> cases g <;>
        first | rfl | exact absurd rfl h

theorem State.settlePair_pair_ne (s : State) {p q : PairId} (h : q ≠ p) : (s.settlePair p).pair q = s.pair q :=
  s.setPair_pair_ne h _

theorem CoilsOk.congr {s t : State} (h : CoilsOk s) (hg : ∀ p, t.gateOpen p = s.gateOpen p) (hp : ∀ p, t.pair p = s.pair p) :
    CoilsOk t := fun p => by rw [hg, hp]; exact h p

/-- A pair is replaced by one that is as it should be under the gate that stands. -/
theorem CoilsOk.setPair {s : State} (h : CoilsOk s) (p : PairId) {x : Pair} (hx : CoilOk (s.gateOpen p) x) :
    CoilsOk (s.setPair p x) := fun q => by
  rw [State.setPair_gateOpen]
  by_cases hq : q = p
  · subst hq
    simpa using hx
  · rw [s.setPair_pair_ne hq]
    exact h q

/-! ## Deciding pairs afresh -/

/-- The pair `q` is as it should be. -/
def PairOk (s : State) (q : PairId) : Prop := CoilOk (s.gateOpen q) (s.pair q)

theorem PairOk.settled (s : State) (p : PairId) : PairOk (s.settlePair p) p := by
  unfold PairOk
  rw [State.settlePair_gateOpen]
  simpa [State.settlePair] using Pair.settle_ok _ _ _ _

theorem PairOk.settlePair {s : State} {q : PairId} (h : PairOk s q) (p : PairId) : PairOk (s.settlePair p) q := by
  by_cases hq : q = p
  · subst hq
    exact .settled s q
  · unfold PairOk
    rw [State.settlePair_gateOpen, s.settlePair_pair_ne hq]
    exact h

theorem PairOk.settleBoom {s : State} {q : PairId} (h : PairOk s q) (b : BoomId) : PairOk (s.settleBoom b) q :=
  ((h.settlePair _).settlePair _).settlePair _

theorem PairOk.settledBoom (s : State) (b : BoomId) (f : PairFn) : PairOk (s.settleBoom b) (.boom b f) := by
  cases f
  · exact ((settled s _).settlePair _).settlePair _
  · exact (settled (s.settlePair (.boom b .rot)) _).settlePair _
  · exact settled _ _

/-- R111: after all seven pairs are decided afresh, each is as it should be. -/
theorem CoilsOk.settleAll (s : State) : CoilsOk s.settleAll := by
  intro p
  show PairOk s.settleAll p
  cases p with
  | canopy => exact .settled _ _
  | boom b f =>
    cases b
    · exact ((PairOk.settledBoom s .A f).settleBoom .B).settlePair _
    · exact (PairOk.settledBoom (s.settleBoom .A) .B f).settlePair _

/-- R114, R111: a presence level moves the gates of its boom's pairs alone, which are decided afresh. -/
theorem CoilsOk.presence {s : State} (h : CoilsOk s) (b : BoomId) (x : SwitchInput) :
    CoilsOk ((s.setSwitch (.prs b) x).settleBoom b) := by
  intro p
  show PairOk _ p
  cases p with
  | canopy =>
    refine PairOk.settleBoom ?_ b
    have := h .canopy
    cases b <;> exact this
  | boom c f =>
    by_cases hc : c = b
    · subst hc
      exact .settledBoom _ c f
    · refine PairOk.settleBoom ?_ b
      have := h (.boom c f)
      cases b <;> cases c <;> cases f <;> first | exact this | exact absurd rfl hc

/-! ## Time and marks -/

/-- A millisecond leaves request, coil and last direction of a pair; a driving coil's dead time stays 0. -/
theorem CoilOk.tick {gate : Bool} {p : Pair} (h : CoilOk gate p) (n : Nat) : CoilOk gate (p.tick n) := by
  unfold CoilOk at *
  show match p.coil with
    | .driving d => gate = true ∧ p.dir = some d ∧ p.last = some d ∧ p.dead - 1 = 0
    | .dead => gate = true ∧ p.dir ≠ none ∧ p.last ≠ p.dir
    | .off => gate = true → p.dir = none
  cases hc : p.coil <;> simp only [hc] at h ⊢
  · exact h
  · obtain ⟨hg, hd, hl, h0⟩ := h
    exact ⟨hg, hd, hl, by omega⟩
  · exact h

theorem CoilOk.mark {gate : Bool} {p x : Pair} (h : CoilOk gate p) (hc : x.coil = p.coil) (hd : x.dir = p.dir)
    (hl : x.last = p.last) (h0 : x.dead = p.dead) : CoilOk gate x := by
  unfold CoilOk at *
  rw [hc, hd, hl, h0]
  exact h

/-! ## Every step -/

theorem SameKept.pair {s t : State} (h : SameKept s t) (p : PairId) : t.pair p = s.pair p := by
  cases p with
  | canopy => exact h.canopyPair
  | boom b f => cases f <;> simp only [State.pair, (h.boom b).pairs]

theorem SameKept.gateOpen {s t : State} (h : SameKept s t) (p : PairId) : t.gateOpen p = s.gateOpen p := by
  cases p with
  | canopy => simp only [State.gateOpen, h.trip]
  | boom b f => simp only [State.gateOpen, State.closed, State.switch, h.trip, (h.boom b).prs]

theorem coilsOk_kept : CoreKept CoilsOk where
  same hs h := h.congr hs.gateOpen hs.pair
  engine b e _ h := h.congr (by simp) (by simp)
  clearActive b h := h.congr (fun p => by cases p <;> simp [State.gateOpen, State.closed]) (by simp)
  request p r h := h.setPair p (Pair.settle_ok _ _ _ _)
  submit _ _ _ h := h
  remove _ h := h
  filing _ _ h := h
  room _ h := h
  restrict b x h := h.congr (by simp) (by simp)
  pass h := h
  setBudget _ h := h
  markStarved _ _ h := h
  arbReset h := h
  queue b q h := h.congr (fun p => by cases p <;> simp [State.gateOpen, State.closed]) (by simp)
  active b j h := h.congr (fun p => by cases p <;> simp [State.gateOpen, State.closed]) (by simp)
  plans _ h := h
  dropRecord h := h
  refile _ _ _ h := h
  analog c x _ h := by cases c <;> exact h
  head b x _ h := h.congr (fun p => by cases p <;> simp [State.gateOpen, State.closed]) (by simp)
  monitor _ _ _ h := h
  monitorsReset h := h
  moveFeed {s} b pos _ h :=
    h.congr (t := s.setMotion b { s.motion b with feedPos := pos })
      (fun p => by cases p <;> simp [State.gateOpen, State.closed]) (by simp)
  recordPosition b later h := h.congr (fun p => by cases p <;> simp [State.recordPosition, State.gateOpen, State.closed])
    (by simp [State.recordPosition])
  beginScan h := h
  sensing b x _ h := h.congr (fun p => by cases p <;> simp [State.gateOpen, State.closed]) (by simp)
  pairMark p x hc hd hl h0 h := h.setPair p ((h p).mark hc hd hl h0)
  deadEnd p h := fun q => by
    by_cases hq : q = p
    · subst hq
      exact PairOk.settled _ q
    · rw [State.settlePair_gateOpen, State.setPair_gateOpen, State.settlePair_pair_ne _ hq, State.setPair_pair_ne _ hq]
      exact h q
  presence b x h := h.presence b x
  tripSet _ := .settleAll _
  tripClear _ := .settleAll _
  canopy _ h := h
  powerOn x y _ := fun p => by
    rcases p with ⟨_ | _, _ | _ | _⟩ | _ <;> exact fun _ => rfl
  tickTimers h := fun p => by
    have hp := (h p).tick
    rcases p with ⟨_ | _, _ | _ | _⟩ | _ <;> exact hp _

/-- R111: a closed gate holds its coil off. -/
theorem CoilOk.off_of_closed {p : Pair} (h : CoilOk false p) : p.coil = .off := by
  unfold CoilOk at h
  split at h
  · cases h.1
  · cases h.1
  · assumption

/-- Settles O57: every act leaves the pairs it reaches as `Pair.settle` or a millisecond leaves them; a gate that the latch or a
released presence closes holds its coil off. -/
theorem stepKeepsCoils : Obligations.StepKeepsCoils := by
  unfold Obligations.StepKeepsCoils
  refine ⟨fun s t h hs => coilsOk_kept.stepKept.step h hs, fun s h i => ⟨fun ht => ?_, fun b f hi hp => ?_⟩⟩
  · have hg : s.gateOpen i = false := by cases i <;> simp [State.gateOpen, ht]
    exact CoilOk.off_of_closed (hg ▸ h i)
  · have hg : s.gateOpen i = false := by simp [hi, State.gateOpen, hp]
    exact CoilOk.off_of_closed (hg ▸ h i)

end Sys2Proof.Machine
end

section
/-! PROOF. Records, monitors, restricted flags, counts and ranges (O59): each invariant against the updates of what it reads. -/
namespace Sys2Proof.Machine

/-! ## The record store (R186) -/

theorem StoreOk.filed {st : RecordStore} (h : StoreOk st) (hl : st.records.length < 8) (r : InstRecord) (q : List BoomId) :
    StoreOk { records := st.records ++ [{ r with number := some st.next }], next := st.next + 1, room := q } := by
  obtain ⟨-, hn⟩ := h
  refine ⟨by simpa using hl, fun i hi => ?_⟩
  simp only [List.length_append, List.length_singleton] at hi ⊢
  by_cases hlast : i < st.records.length
  · rw [List.getElem_append_left hlast, hn i hlast]
    have : st.records.length + 1 - i = (st.records.length - i) + 1 := by omega
    rw [this]
    congr 1
    bv_omega
  · have : i = st.records.length := by omega
    subst this
    simp

theorem StoreOk.drop {st : RecordStore} (h : StoreOk st) (q : List BoomId) :
    StoreOk { st with records := st.records.drop 1, room := q } := by
  obtain ⟨hl, hn⟩ := h
  refine ⟨by simp only [List.length_drop]; omega, fun i hi => ?_⟩
  simp only [List.length_drop] at hi
  simp only [List.getElem_drop, List.length_drop]
  rw [hn (1 + i) (by omega)]
  congr 3
  omega

theorem storeOk_kept : CoreKept (fun s => StoreOk s.store) where
  same hs h := hs.store ▸ h
  engine b e _ h := by simpa using h
  clearActive b h := by simpa using h
  request p r h := by simpa [State.request] using h
  submit _ _ _ h := h
  remove _ h := h
  filing r hl h := h.filed hl r _
  room _ h := h
  restrict b x h := by simpa using h
  pass h := h
  setBudget _ h := h
  markStarved _ _ h := h
  arbReset h := h
  queue b q h := by simpa using h
  active b j h := by simpa using h
  plans _ h := h
  dropRecord h := h.drop _
  refile r q hr h := by
    refine (h.drop q).filed ?_ r q
    have := h.1
    have := List.length_pos_iff.2 hr
    simp only [List.length_drop]
    omega
  analog c x _ h := by simpa using h
  head b x _ h := by simpa using h
  monitor _ _ _ h := h
  monitorsReset h := h
  moveFeed b pos _ h := by simpa [State.moveFeed] using h
  recordPosition b later h := by simpa [State.recordPosition] using h
  beginScan h := h
  sensing b x _ h := by simpa using h
  pairMark p x _ _ _ _ h := by simpa using h
  deadEnd p h := by simpa [State.settlePair] using h
  presence b x h := by simpa [State.settleBoom, State.settlePair] using h
  tripSet h := by simpa [State.settleAll, State.settleBoom, State.settlePair] using h
  tripClear h := by simpa [State.settleAll, State.settleBoom, State.settlePair] using h
  canopy _ h := h
  powerOn _ _ _ := ⟨Nat.zero_le _, fun i hi => absurd hi (Nat.not_lt_zero i)⟩
  tickTimers h := h

/-! ## The monitors (R173, R181) -/

/-- R173, R181: the twelve monitors, each with its latches above its status. -/
def MonitorsOk (ms : List Monitor) : Prop := ms.length = 12 ∧ ∀ m ∈ ms, LatchOk m

theorem latchesOk_iff (s : State) : LatchesOk s ↔ MonitorsOk s.monitors := Iff.rfl

theorem LatchOk.of_normal {m : Monitor} (h : m.status = .normal) : LatchOk m :=
  ⟨fun hn => absurd h hn, fun ht => by rw [h] at ht; cases ht⟩

theorem MonitorsOk.set {ms : List Monitor} (h : MonitorsOk ms) (n : Nat) {m : Monitor}
    (hm : LatchOk (ms.getD n default) → LatchOk m) : MonitorsOk (ms.set n m) := by
  refine ⟨by simpa using h.1, fun x hx => ?_⟩
  by_cases hn : n < ms.length
  · rcases List.mem_or_eq_of_mem_set hx with hx | rfl
    · exact h.2 x hx
    · refine hm ?_
      rw [List.getD_eq_getElem?_getD, List.getElem?_eq_getElem hn]
      exact h.2 _ (List.getElem_mem hn)
  · rw [List.set_eq_of_length_le (by omega)] at hx
    exact h.2 x hx

theorem monitorsOk_kept : CoreKept (fun s => MonitorsOk s.monitors) where
  same hs h := hs.monitors ▸ h
  engine b e _ h := by simpa using h
  clearActive b h := by simpa using h
  request p r h := by simpa [State.request] using h
  submit _ _ _ h := h
  remove _ h := h
  filing _ _ h := h
  room _ h := h
  restrict b x h := by simpa using h
  pass h := h
  setBudget _ h := h
  markStarved _ _ h := h
  arbReset h := h
  queue b q h := by simpa using h
  active b j h := by simpa using h
  plans _ h := h
  dropRecord h := h
  refile _ _ _ h := h
  analog c x _ h := by simpa using h
  head b x _ h := by simpa using h
  monitor n m hm h := h.set n hm
  monitorsReset h := by
    refine ⟨by simpa using h.1, fun m hm => ?_⟩
    obtain ⟨x, -, rfl⟩ := List.mem_map.1 hm
    exact .of_normal rfl
  moveFeed b pos _ h := by simpa [State.moveFeed] using h
  recordPosition b later h := by simpa [State.recordPosition] using h
  beginScan h := h
  sensing b x _ h := by simpa using h
  pairMark p x _ _ _ _ h := by simpa using h
  deadEnd p h := by simpa [State.settlePair] using h
  presence b x h := by simpa [State.settleBoom, State.settlePair] using h
  tripSet h := by simpa [State.settleAll, State.settleBoom, State.settlePair] using h
  tripClear h := by simpa [State.settleAll, State.settleBoom, State.settlePair] using h
  canopy _ h := h
  powerOn _ _ _ := ⟨rfl, fun m hm => by
    obtain ⟨-, rfl⟩ := List.mem_replicate.1 hm
    exact .of_normal rfl⟩
  tickTimers h := h

/-! ## Counts and restores (R138, R143) -/

theorem CountsOk.congr {s t : State} (h : CountsOk s) (ha : ∀ c, t.analog c = s.analog c)
    (hh : ∀ b, t.head b = s.head b) : CountsOk t :=
  ⟨fun c => by rw [ha]; exact h.1 c, fun b => by rw [hh]; exact h.2 b⟩

theorem SameKept.analog {s t : State} (h : SameKept s t) (c : AnalogId) : t.analog c = s.analog c := by
  cases c <;> simp only [State.analog, h.analogs]

theorem countsOk_kept : CoreKept CountsOk where
  same hs h := ⟨fun c => by rw [hs.analog]; exact h.1 c, fun b => by
    have hb := hs.boom b
    have := h.2 b
    unfold State.head at *
    rw [hb.count, hb.restore]
    exact this⟩
  engine b e _ h := h.congr (by simp [State.analog]) (by simp)
  clearActive b h := h.congr (by simp [State.analog]) (by simp)
  request p r h := h.congr (by simp [State.request, State.analog]) (by simp [State.request])
  submit _ _ _ h := h
  remove _ h := h
  filing _ _ h := h
  room _ h := h
  restrict b x h := h.congr (by simp [State.analog]) (by simp)
  pass h := h
  setBudget _ h := h
  markStarved _ _ h := h
  arbReset h := h
  queue b q h := h.congr (by simp [State.analog]) (by simp)
  active b j h := h.congr (by simp [State.analog]) (by simp)
  plans _ h := h
  dropRecord h := h
  refile _ _ _ h := h
  analog c x hx h := by
    refine ⟨fun d => ?_, fun b => ?_⟩
    · by_cases hd : d = c
      · subst hd
        simpa using hx (h.1 d)
      · simpa [hd] using h.1 d
    · have := h.2 b
      cases b <;> cases c <;> exact this
  head b x hx h := by
    refine ⟨fun d => ?_, fun c => ?_⟩
    · have := h.1 d
      cases b <;> cases d <;> exact this
    · by_cases hc : c = b
      · subst hc
        simpa using hx (h.2 c)
      · simpa [hc] using h.2 c
  monitor _ _ _ h := h
  monitorsReset h := h
  moveFeed {s} b pos _ h := h.congr (t := s.setMotion b { s.motion b with feedPos := pos }) (by simp [State.analog]) (by simp)
  recordPosition b later h := h.congr (by simp [State.recordPosition, State.analog]) (by simp [State.recordPosition])
  beginScan h := h
  sensing b x _ h := h.congr (by simp [State.analog]) (by simp)
  pairMark p x _ _ _ _ h := h.congr (by simp [State.analog]) (by simp)
  deadEnd p h := h.congr (by simp [State.settlePair, State.analog]) (by simp [State.settlePair])
  presence b x h := h.congr (by simp [State.settleBoom, State.settlePair, State.analog])
    (by simp [State.settleBoom, State.settlePair])
  tripSet {s} h := CountsOk.congr (s := { s with trip := true }) h
    (by simp [State.settleAll, State.settleBoom, State.settlePair, State.analog])
    (by simp [State.settleAll, State.settleBoom, State.settlePair])
  tripClear {s} h := CountsOk.congr (s := { s with trip := false }) h
    (by simp [State.settleAll, State.settleBoom, State.settlePair, State.analog])
    (by simp [State.settleAll, State.settleBoom, State.settlePair])
  canopy _ h := h
  powerOn x y _ :=
    ⟨fun c => by cases c <;> exact ⟨Nat.zero_le _, fun p hp => by cases hp⟩,
      fun b => by cases b <;> exact ⟨Nat.zero_le _, fun p hp => by cases hp⟩⟩
  tickTimers h := h.congr (fun c => by cases c <;> rfl) (fun b => by cases b <;> rfl)

/-! ## Positions and magazines (R134, R124, R162) -/

/-- R134, R124, R162: the positions and the magazine of boom `b` lie in their ranges. -/
def BoomRangesOk (s : State) (b : BoomId) : Prop :=
  (s.motion b).feedPos ≤ 3000 ∧ (s.motion b).scanPos ≤ 3000 ∧ (∀ x ∈ s.scan.left b, x ≤ 3000) ∧
    (s.sensing b).magazine ≤ 24

theorem RangesOk.congr {s t : State} (h : RangesOk s) (hm : ∀ b, t.motion b = s.motion b) (hl : t.scan = s.scan)
    (hs : ∀ b, t.sensing b = s.sensing b) : RangesOk t := fun b => by
  rw [hm, hl, hs]
  exact h b

theorem RangesOk.moveFeed {s : State} (h : RangesOk s) (b : BoomId) {pos : Nat}
    (hp : pos ≤ 3000 ∨ pos ≤ (s.motion b).feedPos) : RangesOk (s.moveFeed b pos) := by
  intro c
  obtain ⟨hf, hs, hl, hm⟩ := h c
  by_cases hc : c = b
  · subst hc
    have hf' : pos ≤ 3000 := by omega
    refine ⟨by simpa using hf', by simpa using hs, fun x hx => ?_, ?_⟩
    · rw [State.moveFeed_scan, Scan.leave_left] at hx
      rcases List.mem_cons.1 hx with rfl | hx
      · exact hf
      · exact hl x hx
    · cases c <;> exact hm
  · have hl' : (s.moveFeed b pos).scan.left c = s.scan.left c := by
      cases b <;> cases c <;> first | rfl | exact absurd rfl hc
    have hm' : (s.moveFeed b pos).sensing c = s.sensing c := by cases b <;> cases c <;> rfl
    rw [State.moveFeed_motion_ne s b c pos hc, hl', hm']
    exact h c

theorem RangesOk.recordPosition {s : State} (h : RangesOk s) (b : BoomId) (later : Nat) :
    RangesOk (s.recordPosition b later) := by
  intro c
  have hc := h c
  by_cases hcb : c = b
  · subst hcb
    obtain ⟨hf, hs, hl, hm⟩ := hc
    have hle : s.scan.latched c (s.motion c).feedPos later ≤ 3000 := by
      rcases List.mem_cons.1 (s.scan.latched_mem c (s.motion c).feedPos later) with he | he
      · rw [he]
        exact hf
      · exact hl _ he
    cases c <;> exact ⟨hf, hle, hl, hm⟩
  · simpa [State.recordPosition, hcb] using hc

theorem RangesOk.setSensing {s : State} (h : RangesOk s) (b : BoomId) {x : Sensing}
    (hx : x.magazine ≤ 24 ∨ x.magazine ≤ (s.sensing b).magazine) : RangesOk (s.setSensing b x) := by
  intro c
  obtain ⟨hf, hs, hl, hm⟩ := h c
  by_cases hcb : c = b
  · subst hcb
    have : x.magazine ≤ 24 := by omega
    simpa using ⟨hf, hs, hl, this⟩
  · simpa [hcb] using h c

theorem rangesOk_kept : CoreKept RangesOk where
  same hs h b := by
    have hb := hs.boom b
    have hr := h b
    unfold State.motion State.sensing at *
    rw [hb.feedPos, hb.scanPos, hs.left, hb.magazine]
    exact hr
  engine b e _ h := h.congr (by simp) (by simp) (by simp)
  clearActive b h := h.congr (by simp) (by simp) (by simp)
  request p r h := h.congr (by simp [State.request]) (by simp [State.request]) (by simp [State.request])
  submit _ _ _ h := h
  remove _ h := h
  filing _ _ h := h
  room _ h := h
  restrict b x h := h.congr (by simp) (by simp) (by simp)
  pass h := h
  setBudget _ h := h
  markStarved _ _ h := h
  arbReset h := h
  queue b q h := h.congr (by simp) (by simp) (by simp)
  active b j h := h.congr (by simp) (by simp) (by simp)
  plans _ h := h
  dropRecord h := h
  refile _ _ _ h := h
  analog c x _ h := h.congr (fun b => by cases b <;> cases c <;> rfl) (by simp) (fun b => by cases b <;> cases c <;> rfl)
  head b x _ h := h.congr (by simp) (by simp) (by simp)
  monitor _ _ _ h := h
  monitorsReset h := h
  moveFeed b pos hp h := h.moveFeed b hp
  recordPosition b later h := h.recordPosition b later
  beginScan h b := by
    obtain ⟨hf, hs, -, hm⟩ := h b
    refine ⟨hf, hs, fun x hx => ?_, hm⟩
    cases b <;> cases hx
  sensing b x hx h := h.setSensing b hx
  pairMark p x _ _ _ _ h := h.congr (by simp) (by simp) (by simp)
  deadEnd p h := h.congr (by simp [State.settlePair]) (by simp [State.settlePair]) (by simp [State.settlePair])
  presence b x h := h.congr (by simp [State.settleBoom, State.settlePair]) (by simp [State.settleBoom, State.settlePair])
    (by simp [State.settleBoom, State.settlePair])
  tripSet {s} h := RangesOk.congr (s := { s with trip := true }) h
    (by simp [State.settleAll, State.settleBoom, State.settlePair])
    (by simp [State.settleAll, State.settleBoom, State.settlePair])
    (by simp [State.settleAll, State.settleBoom, State.settlePair])
  tripClear {s} h := RangesOk.congr (s := { s with trip := false }) h
    (by simp [State.settleAll, State.settleBoom, State.settlePair])
    (by simp [State.settleAll, State.settleBoom, State.settlePair])
    (by simp [State.settleAll, State.settleBoom, State.settlePair])
  canopy _ h := h
  powerOn x y _ b := by
    cases b <;> exact ⟨Nat.zero_le _, Nat.zero_le _, fun x hx => (by cases hx), Nat.zero_le _⟩
  tickTimers h b := by
    have := h b
    cases b <;> exact this

/-! ## The restricted flags (R48) -/

/-- R48: what the channels give depends on their health and the stale mark alone. -/
theorem restrictedNow_congr {s t : State} {b : BoomId}
    (hr : (t.analog (rotChannel b)).health = (s.analog (rotChannel b)).health)
    (hf : (t.analog (feedChannel b)).health = (s.analog (feedChannel b)).health)
    (hh : (t.head b).health = (s.head b).health) (hst : (t.head b).stale = (s.head b).stale) :
    t.restrictedNow b = s.restrictedNow b := by
  unfold State.restrictedNow
  rw [hr, hf, hh, hst]

/-- R48: boom `b`'s flag is what its channels give. -/
def BoomRestrictedOk (s : State) (b : BoomId) : Prop := (s.engine b).restricted = s.restrictedNow b

theorem BoomRestrictedOk.congr {s t : State} {b : BoomId} (h : BoomRestrictedOk s b)
    (he : (t.engine b).restricted = (s.engine b).restricted) (ha : ∀ c, t.analog c = s.analog c) (hh : t.head b = s.head b) :
    BoomRestrictedOk t b := by
  unfold BoomRestrictedOk
  rw [he, restrictedNow_congr (s := s) (by rw [ha]) (by rw [ha]) (by rw [hh]) (by rw [hh])]
  exact h

theorem BoomRestrictedOk.of_flow {s t : State} {b : BoomId} (h : BoomRestrictedOk s b) (k : FlowEffect s t) :
    BoomRestrictedOk t b :=
  h.congr (k.engine_restricted b) (fun c => by unfold State.analog; rw [k.analogs]) (k.head b)

theorem BoomRestrictedOk.of_moves {s t : State} {b c : BoomId} (h : BoomRestrictedOk s b) (k : EngineMoves c s t) :
    BoomRestrictedOk t b :=
  h.congr (k.restricted b) (fun c => by unfold State.analog; rw [k.analogs]) (k.head b)

/-- R48: following the channels leaves the boom's flag as they give it. -/
theorem BoomRestrictedOk.updated (s : State) (b : BoomId) : BoomRestrictedOk (s.updateRestricted b) b := by
  unfold State.updateRestricted
  dsimp only
  split
  · exact Eq.symm ‹_›
  · have h1 : BoomRestrictedOk (s.setEngine b { s.engine b with restricted := s.restrictedNow b }) b := by
      have hn : (s.setEngine b { s.engine b with restricted := s.restrictedNow b }).restrictedNow b = s.restrictedNow b :=
        restrictedNow_congr (by simp [State.analog]) (by simp [State.analog]) (by simp) (by simp)
      unfold BoomRestrictedOk
      rw [hn]
      simp
    refine BoomRestrictedOk.of_flow (property_ite (P := fun u => BoomRestrictedOk u b) ?_ h1) (.of_reissueFeed _ b)
    exact h1.of_moves ((EngineMoves.of_raise _ b _).trans (.of_flagRecord _ b _))

/-- The other boom does not notice it. -/
theorem BoomRestrictedOk.updated_other {s : State} {b c : BoomId} (hc : c ≠ b) (h : BoomRestrictedOk s c) :
    BoomRestrictedOk (s.updateRestricted b) c := by
  unfold State.updateRestricted
  dsimp only
  split
  · exact h
  · have h1 : BoomRestrictedOk (s.setEngine b { s.engine b with restricted := s.restrictedNow b }) c :=
      h.congr (by simp [hc]) (by simp [State.analog]) (by simp)
    refine BoomRestrictedOk.of_flow (property_ite (P := fun u => BoomRestrictedOk u c) ?_ h1) (.of_reissueFeed _ b)
    exact h1.of_moves ((EngineMoves.of_raise _ b _).trans (.of_flagRecord _ b _))

/-- R142: told of a change, the engine's flag is what the channels give; told of none, it is as it was. -/
theorem BoomRestrictedOk.told {s : State} {b : BoomId} {old new : Health}
    (h : old = new → BoomRestrictedOk s b) : BoomRestrictedOk (s.tellEngine b old new) b := by
  unfold State.tellEngine
  dsimp only
  split
  · exact h ‹_›
  · have h1 := BoomRestrictedOk.updated s b
    exact property_ite (P := fun u => BoomRestrictedOk u b) (h1.of_moves (.of_channelFailed _ b)) h1

theorem BoomRestrictedOk.told_other {s : State} {b c : BoomId} (hc : c ≠ b) (h : BoomRestrictedOk s c) (old new : Health) :
    BoomRestrictedOk (s.tellEngine b old new) c := by
  have h1 := h.updated_other hc
  exact property_ite (P := fun u => BoomRestrictedOk u c) h
    (property_ite (P := fun u => BoomRestrictedOk u c) (h1.of_moves (.of_channelFailed _ b)) h1)

/-! ### A scan group of a boom -/

theorem State.raiseHealth_moves (s : State) (b : BoomId) (c : ChannelId) (old new : Health) :
    EngineMoves b s (s.raiseHealth c old new) := by
  unfold State.raiseHealth
  split
  · exact .of_raise s b _
  · exact .refl b s

/-- A sample leaves every engine, every head record and every other channel as it was. -/
theorem State.sampleAnalog_engine (s : State) (c : AnalogId) (r : RawSample) (b : BoomId) :
    (s.sampleAnalog c r).engine b = s.engine b := by
  unfold State.sampleAnalog State.raiseHealth
  dsimp only
  split <;> cases b <;> cases c <;> rfl

theorem State.sampleAnalog_head (s : State) (c : AnalogId) (r : RawSample) (b : BoomId) :
    (s.sampleAnalog c r).head b = s.head b := by
  unfold State.sampleAnalog State.raiseHealth
  dsimp only
  split <;> cases b <;> cases c <;> rfl

theorem State.sampleAnalog_analog_ne (s : State) {c d : AnalogId} (h : d ≠ c) (r : RawSample) :
    (s.sampleAnalog c r).analog d = s.analog d := by
  unfold State.sampleAnalog State.raiseHealth
  dsimp only
  split
  · have : ((s.setAnalog c ((s.analog c).sample c (s.cal.shift c) r (s.cal.convert c r))).raise
        (.channel (.analog c) ‹_›)).analog d =
        (s.setAnalog c ((s.analog c).sample c (s.cal.shift c) r (s.cal.convert c r))).analog d := by cases d <;> rfl
    rw [this, State.setAnalog_analog, if_neg h]
  · rw [State.setAnalog_analog, if_neg h]

theorem BoomRestrictedOk.sampled {s : State} {b : BoomId} (h : BoomRestrictedOk s b) {c : AnalogId}
    (hr : rotChannel b ≠ c) (hf : feedChannel b ≠ c) (r : RawSample) : BoomRestrictedOk (s.sampleAnalog c r) b := by
  unfold BoomRestrictedOk
  rw [State.sampleAnalog_engine, restrictedNow_congr (s := s) (by rw [State.sampleAnalog_analog_ne _ hr])
    (by rw [State.sampleAnalog_analog_ne _ hf]) (by rw [State.sampleAnalog_head]) (by rw [State.sampleAnalog_head])]
  exact h

theorem rotChannel_ne_feedChannel (b c : BoomId) : rotChannel b ≠ feedChannel c := by cases b <;> cases c <;> decide
theorem rotChannel_inj {b c : BoomId} (h : c ≠ b) : rotChannel c ≠ rotChannel b := by
  cases b <;> cases c <;> first | decide | exact absurd rfl h
theorem feedChannel_inj {b c : BoomId} (h : c ≠ b) : feedChannel c ≠ feedChannel b := by
  cases b <;> cases c <;> first | decide | exact absurd rfl h

/-- The two samples of a boom's group, with its record position and torque estimate, before the logger takes the scan. -/
def State.groupSampled (s : State) (b : BoomId) (rot feed : RawSample) (later : Nat) : State :=
  (((s.recordPosition b later).sampleAnalog (rotChannel b) rot).sampleAnalog (feedChannel b) feed).estimateTorque b

theorem State.groupSampled_engine (s : State) (b c : BoomId) (rot feed : RawSample) (later : Nat) :
    (s.groupSampled b rot feed later).engine c = s.engine c := by
  simp [State.groupSampled, State.estimateTorque, State.sampleAnalog_engine, State.recordPosition]

theorem State.groupSampled_head (s : State) (b c : BoomId) (rot feed : RawSample) (later : Nat) :
    (s.groupSampled b rot feed later).head c = s.head c := by
  simp [State.groupSampled, State.estimateTorque, State.sampleAnalog_head, State.recordPosition]

theorem State.setMotion_analog (s : State) (b : BoomId) (m : Motion) (c : AnalogId) :
    (s.setMotion b m).analog c = s.analog c := by simp [State.analog]

theorem State.groupSampled_analog_ne (s : State) (b : BoomId) {c : AnalogId} (hr : c ≠ rotChannel b) (hf : c ≠ feedChannel b)
    (rot feed : RawSample) (later : Nat) : (s.groupSampled b rot feed later).analog c = s.analog c := by
  unfold State.groupSampled State.estimateTorque State.recordPosition
  rw [State.setMotion_analog, State.sampleAnalog_analog_ne _ hf, State.sampleAnalog_analog_ne _ hr, State.setMotion_analog]

theorem BoomRestrictedOk.scanned {s : State} (h : RestrictedOk s) (b : BoomId) (rot feed : RawSample) (later : Nat) :
    RestrictedOk (s.scanned b rot feed later) := by
  have hlog := EngineMoves.of_loggerScan (s.groupSampled b rot feed later) b
  intro c
  show BoomRestrictedOk _ c
  by_cases hc : c = b
  · subst hc
    unfold State.scanned
    dsimp only
    rw [show (((s.recordPosition c later).sampleAnalog (rotChannel c) rot).sampleAnalog (feedChannel c) feed).estimateTorque c
      = s.groupSampled c rot feed later from rfl]
    refine BoomRestrictedOk.told fun hfeed => BoomRestrictedOk.told fun hrot => ?_
    -- neither channel has changed its health, so the flag is still true to them
    unfold BoomRestrictedOk
    rw [show (State.engine _ c).restricted = _ from hlog.restricted c, State.groupSampled_engine,
      restrictedNow_congr (s := s) hrot.symm hfeed.symm]
    · exact h c
    · rw [show State.head _ c = _ from hlog.head c, State.groupSampled_head]
    · rw [show State.head _ c = _ from hlog.head c, State.groupSampled_head]
  · refine (BoomRestrictedOk.told_other hc (BoomRestrictedOk.told_other hc ?_ _ _) _ _)
    refine BoomRestrictedOk.of_moves ?_ hlog
    unfold BoomRestrictedOk
    rw [State.groupSampled_engine, restrictedNow_congr (s := s)]
    · exact h c
    · rw [State.groupSampled_analog_ne s b (rotChannel_inj hc) (rotChannel_ne_feedChannel c b)]
    · rw [State.groupSampled_analog_ne s b (rotChannel_ne_feedChannel b c).symm (feedChannel_inj hc)]
    · rw [State.groupSampled_head]
    · rw [State.groupSampled_head]

/-! ### A head record -/

theorem BoomRestrictedOk.headTaken {s : State} (h : RestrictedOk s) (b : BoomId) (x : Head) :
    RestrictedOk (s.headTakes b x) := by
  have hm := State.raiseHealth_moves (s.setHead b x) b (.head b) (s.head b).health x.health
  have hx : ((s.setHead b x).raiseHealth (.head b) (s.head b).health x.health).head b = x := by
    rw [hm.head b]
    simp
  intro c
  show BoomRestrictedOk _ c
  by_cases hc : c = b
  · subst hc
    unfold State.headTakes State.headChanged
    dsimp only
    rw [hx]
    have h2 : BoomRestrictedOk
        (if x.health ≠ (s.head c).health ∨ x.stale ≠ (s.head c).stale then
          ((s.setHead c x).raiseHealth (.head c) (s.head c).health x.health).updateRestricted c
        else (s.setHead c x).raiseHealth (.head c) (s.head c).health x.health) c := by
      split
      · exact .updated _ c
      · rename_i hn
        simp only [not_or, ne_eq, not_not] at hn
        unfold BoomRestrictedOk
        rw [hm.restricted c, restrictedNow_congr (s := s)]
        · simpa using h c
        · unfold State.analog; rw [hm.analogs]; simp
        · unfold State.analog; rw [hm.analogs]; simp
        · rw [hx]; exact hn.1
        · rw [hx]; exact hn.2
    exact property_ite (P := fun u => BoomRestrictedOk u c) (h2.of_moves (.of_channelFailed _ c)) h2
  · have h1 : BoomRestrictedOk ((s.setHead b x).raiseHealth (.head b) (s.head b).health x.health) c :=
      BoomRestrictedOk.of_moves (BoomRestrictedOk.congr (h c) (by simp) (by simp [State.analog]) (by simp [hc])) hm
    have h2 := property_ite (P := fun u => BoomRestrictedOk u c)
      (c := ((s.setHead b x).raiseHealth (.head b) (s.head b).health x.health |>.head b).health ≠ (s.head b).health ∨
        ((s.setHead b x).raiseHealth (.head b) (s.head b).health x.health |>.head b).stale ≠ (s.head b).stale)
      (h1.updated_other hc) h1
    exact property_ite (P := fun u => BoomRestrictedOk u c) (h2.of_moves (.of_channelFailed _ b)) h2

theorem RestrictedOk.congr {s t : State} (h : RestrictedOk s)
    (he : ∀ b, (t.engine b).restricted = (s.engine b).restricted) (ha : t.analogs = s.analogs)
    (hh : ∀ b, t.head b = s.head b) : RestrictedOk t :=
  fun b => BoomRestrictedOk.congr (h b) (he b) (fun c => by unfold State.analog; rw [ha]) (hh b)

theorem restrictedOk_blocks : BlocksKept RestrictedOk where
  same {s t} hs h b := by
    have hb := hs.boom b
    have := h b
    unfold State.engine at *
    rw [hb.engine, restrictedNow_congr (s := s) (by rw [hs.analog]) (by rw [hs.analog])]
    · exact this
    · unfold State.head Head.health; rw [hb.count]
    · unfold State.head; rw [hb.stale]
  engine b e he h := h.congr (fun c => by by_cases hc : c = b <;> simp [hc, he]) (by simp) (by simp)
  clearActive b h := h.congr (by simp) (by simp) (by simp)
  request p r h := h.congr (by simp [State.request]) (by simp [State.request]) (by simp [State.request])
  submit _ _ _ h := h
  remove _ h := h
  filing _ _ h := h
  room _ h := h
  pass h := h
  setBudget _ h := h
  markStarved _ _ h := h
  arbReset h := h
  queue b q h := h.congr (by simp) (by simp) (by simp)
  active b j h := h.congr (by simp) (by simp) (by simp)
  plans _ h := h
  dropRecord h := h
  refile _ _ _ h := h
  monitor _ _ _ h := h
  monitorsReset h := h
  moveFeed {s} b pos _ h :=
    RestrictedOk.congr (t := s.setMotion b { s.motion b with feedPos := pos }) h (by simp) (by simp) (by simp)
  beginScan h := h
  sensing b x _ h := h.congr (by simp) (by simp) (by simp)
  pairMark p x _ _ _ _ h := h.congr (by simp) (by simp) (by simp)
  deadEnd p h := h.congr (by simp [State.settlePair]) (by simp [State.settlePair]) (by simp [State.settlePair])
  presence b x h := h.congr (by simp [State.settleBoom, State.settlePair]) (by simp [State.settleBoom, State.settlePair])
    (by simp [State.settleBoom, State.settlePair])
  tripSet {s} h := RestrictedOk.congr (s := { s with trip := true }) h
    (by simp [State.settleAll, State.settleBoom, State.settlePair])
    (by simp [State.settleAll, State.settleBoom, State.settlePair])
    (by simp [State.settleAll, State.settleBoom, State.settlePair])
  tripClear {s} h := RestrictedOk.congr (s := { s with trip := false }) h
    (by simp [State.settleAll, State.settleBoom, State.settlePair])
    (by simp [State.settleAll, State.settleBoom, State.settlePair])
    (by simp [State.settleAll, State.settleBoom, State.settlePair])
  canopy _ h := h
  powerOn x y _ b := by cases b <;> rfl
  tickTimers h b := by
    have := h b
    cases b <;> exact this

theorem restrictedOk_samples : SamplesKept RestrictedOk where
  sampleShared c r hc h b := BoomRestrictedOk.sampled (h b) (by rcases hc with rfl | rfl | rfl <;> cases b <;> decide)
    (by rcases hc with rfl | rfl | rfl <;> cases b <;> decide) r
  scanned b rot feed later h := BoomRestrictedOk.scanned h b rot feed later
  headSampled b e h := BoomRestrictedOk.headTaken h b _
  headStale b x h := BoomRestrictedOk.headTaken h b _
  beginRestore c _ h b := by
    have hb := h b
    cases c with
    | analog c => cases b <;> cases c <;> exact hb
    | head c => cases b <;> cases c <;> exact hb
  warmBoom b h c := by
    have hc := h c
    cases b <;> cases c <;> first | exact hc | rfl

/-- Settles O59: each of the five against the updates of what it reads. -/
theorem stepKeepsRecordsAndMeasures : Obligations.StepKeepsRecordsAndMeasures := by
  unfold Obligations.StepKeepsRecordsAndMeasures
  exact ⟨fun _ _ h hs => storeOk_kept.stepKept.step h hs, fun _ _ h hs => monitorsOk_kept.stepKept.step h hs,
    fun _ _ h hs => (restrictedOk_blocks.stepKept restrictedOk_samples).step h hs,
    fun _ _ h hs => countsOk_kept.stepKept.step h hs, fun _ _ h hs => rangesOk_kept.stepKept.step h hs⟩

end Sys2Proof.Machine
end

section
/-! PROOF. The life of a boom's job: which acts leave every engine's state, job and record as they are (`Keeps`), which end with the
engine at work or offering its record (`Works`, `Ended`), and what an event makes of the engine (`Acts`). -/
namespace Sys2Proof.Machine

/-! ## The relations -/

/-- Canopy, plans, store, queues, active jobs and the presence of records are as before. -/
structure JobFrame (s t : State) : Prop where
  canopy : t.canopy.state = s.canopy.state
  plans : t.plans = s.plans
  store : t.store = s.store
  queue : ∀ c, (t.boom c).queue = (s.boom c).queue
  active : ∀ c, (t.boom c).active = (s.boom c).active
  record : ∀ c, (t.engine c).record.isSome = (s.engine c).record.isSome

/-- Besides, every engine is in the state it was in. -/
structure Keeps (s t : State) : Prop extends JobFrame s t where
  state : ∀ c, (t.engine c).state = (s.engine c).state

/-- Besides, the engine of the boom that is not `b` is in the state it was in. -/
structure Onward (b : BoomId) (s t : State) : Prop extends JobFrame s t where
  other : ∀ c, c ≠ b → (t.engine c).state = (s.engine c).state

/-- The engine of `b` is in an engaged state or held. -/
def AtWork (s : State) (b : BoomId) : Prop := (s.engine b).state.engaged = true ∨ (s.engine b).state = .hold

/-- The engine of `b` waits for a job. -/
def AwaitsJob (s : State) (b : BoomId) : Prop :=
  (s.engine b).state = .idle ∨ (s.engine b).state = .ready ∨ (s.engine b).state = .parked

/-- The engine of `b` ends at work. -/
structure Works (b : BoomId) (s t : State) : Prop extends Onward b s t where
  work : AtWork t b

/-- The engine of `b` ends in offering its record, from FILING or FAULTED. -/
def Ended (b : BoomId) (s t : State) : Prop :=
  ∃ u, Onward b s u ∧ ((u.engine b).state = .filing ∨ (u.engine b).state = .faulted) ∧ t = u.offer b

/-- What a step of the engine of `b` may end with. -/
def Goes (b : BoomId) (s t : State) : Prop := Works b s t ∨ Ended b s t

/-- What an event makes of the engine of `b`. -/
inductive Acts (b : BoomId) (s t : State) : Prop
  | works (h : (s.engine b).state.engaged = true) (k : Works b s t)
  | ended (h : AtWork s b) (k : Ended b s t)
  | keeps (k : Keeps s t)
  | rests (h : AwaitsJob s b) (k : Onward b s t) (r : AwaitsJob t b)

/-! ## Composition -/

section
variable {b : BoomId} {s t u : State}

theorem JobFrame.trans (h : JobFrame s t) (k : JobFrame t u) : JobFrame s u :=
  ⟨k.canopy.trans h.canopy, k.plans.trans h.plans, k.store.trans h.store, fun c => (k.queue c).trans (h.queue c),
    fun c => (k.active c).trans (h.active c), fun c => (k.record c).trans (h.record c)⟩

theorem Keeps.trans (h : Keeps s t) (k : Keeps t u) : Keeps s u :=
  ⟨h.toJobFrame.trans k.toJobFrame, fun c => (k.state c).trans (h.state c)⟩

theorem Keeps.refl (s : State) : Keeps s s :=
  ⟨⟨rfl, rfl, rfl, fun _ => rfl, fun _ => rfl, fun _ => rfl⟩, fun _ => rfl⟩

theorem Keeps.onward (h : Keeps s t) (b : BoomId) : Onward b s t := ⟨h.toJobFrame, fun c _ => h.state c⟩

theorem Onward.trans (h : Onward b s t) (k : Onward b t u) : Onward b s u :=
  ⟨h.toJobFrame.trans k.toJobFrame, fun c hc => (k.other c hc).trans (h.other c hc)⟩

theorem Onward.keeps (h : Onward b s t) (k : Keeps t u) : Onward b s u := h.trans (k.onward b)

theorem Works.keeps (h : Works b s t) (k : Keeps t u) : Works b s u :=
  ⟨h.toOnward.keeps k, by unfold AtWork; rw [k.state]; exact h.work⟩

theorem Onward.works (h : Onward b s t) (k : Works b t u) : Works b s u := ⟨h.trans k.toOnward, k.work⟩

theorem Onward.ended (h : Onward b s t) (k : Ended b t u) : Ended b s u := by
  obtain ⟨v, hv, hs, rfl⟩ := k
  exact ⟨v, h.trans hv, hs, rfl⟩

theorem Onward.goes (h : Onward b s t) (k : Goes b t u) : Goes b s u := k.imp h.works h.ended

theorem Keeps.goes (h : Keeps s t) (k : Goes b t u) : Goes b s u := (h.onward b).goes k

theorem Works.goes (h : Works b s t) : Goes b s t := .inl h

/-- At work already, what keeps the state ends at work. -/
theorem Keeps.works (h : Keeps s t) (k : AtWork s b) : Works b s t := ⟨h.onward b, by unfold AtWork; rwa [h.state]⟩

theorem Keeps.ite {P : Prop} [Decidable P] (h : Keeps s t) (k : Keeps s u) : Keeps s (if P then t else u) := by
  split
  · exact h
  · exact k

theorem Goes.ite {P : Prop} [Decidable P] (h : Goes b s t) (k : Goes b s u) : Goes b s (if P then t else u) := by
  split
  · exact h
  · exact k

theorem Goes.acts (h : (s.engine b).state.engaged = true) (k : Goes b s t) : Acts b s t := by
  rcases k with k | k
  · exact .works h k
  · exact .ended (.inl h) k

end

/-! ## The single updates -/

theorem Keeps.of_same {s t : State} (h : SameKept s t) : Keeps s t where
  canopy := h.canopy
  plans := h.plans
  store := h.store
  queue c := (h.boom c).queue
  active c := (h.boom c).active
  record c := by unfold State.engine; rw [(h.boom c).engine]
  state c := by unfold State.engine; rw [(h.boom c).engine]

theorem Keeps.of_flow {s t : State} (h : FlowEffect s t) : Keeps s t :=
  ⟨⟨h.canopy_state, h.plans, h.store, h.queue, h.active, h.record_isSome⟩, h.engine_state⟩

/-- States that differ in neither boom, nor in canopy state, plans or store. -/
theorem Keeps.of_rest {s t : State} (hA : t.boomA = s.boomA) (hB : t.boomB = s.boomB)
    (hc : t.canopy.state = s.canopy.state) (hp : t.plans = s.plans) (hs : t.store = s.store) : Keeps s t := by
  have hb : ∀ c, t.boom c = s.boom c := fun c => by
    cases c
    · exact hA
    · exact hB
  have he : ∀ c, t.engine c = s.engine c := fun c => congrArg BoomState.engine (hb c)
  exact ⟨⟨hc, hp, hs, fun c => by rw [hb], fun c => by rw [hb], fun c => by rw [he]⟩, fun c => by rw [he]⟩

/-- A boom changes in what neither its job nor its engine's place is. -/
theorem Keeps.of_setBoom {s : State} {b : BoomId} {x : BoomState} (hq : x.queue = (s.boom b).queue)
    (ha : x.active = (s.boom b).active) (hr : x.engine.record.isSome = (s.engine b).record.isSome)
    (hs : x.engine.state = (s.engine b).state) : Keeps s (s.setBoom b x) := by
  cases b
  all_goals
    exact ⟨⟨rfl, rfl, rfl, fun c => by cases c <;> first | exact hq | rfl, fun c => by cases c <;> first | exact ha | rfl,
      fun c => by cases c <;> first | exact hr | rfl⟩, fun c => by cases c <;> first | exact hs | rfl⟩

theorem Onward.of_setEngine (s : State) (b : BoomId) (e : Engine) (h : e.record.isSome = (s.engine b).record.isSome) :
    Onward b s (s.setEngine b e) where
  canopy := by simp
  plans := by simp
  store := by simp
  queue c := by cases b <;> cases c <;> rfl
  active c := by cases b <;> cases c <;> rfl
  record c := by by_cases hc : c = b <;> simp [hc, h]
  other c hc := by simp [hc]

theorem Keeps.of_setEngine (s : State) (b : BoomId) (e : Engine) (h : e.record.isSome = (s.engine b).record.isSome)
    (hs : e.state = (s.engine b).state) : Keeps s (s.setEngine b e) := .of_setBoom rfl rfl h hs

theorem Keeps.of_setLogger (s : State) (b : BoomId) (l : Logger) : Keeps s (s.setLogger b l) := .of_setBoom rfl rfl rfl rfl

theorem Keeps.of_raise (s : State) (e : Event) : Keeps s (s.raise e) := .of_same (.of_raise s e)

theorem Keeps.of_modRecord (s : State) (b : BoomId) (f : InstRecord → InstRecord) : Keeps s (s.modRecord b f) :=
  .of_setEngine s b _ (by simp) rfl

theorem Keeps.of_flagRecord (s : State) (b : BoomId) (f : RecordFlag) : Keeps s (s.flagRecord b f) := .of_modRecord s b _

theorem Keeps.of_putLogger (s : State) (b : BoomId) (l : Logger) : Keeps s (s.putLogger b l) := by
  unfold State.putLogger
  dsimp only
  split
  · exact ((of_setLogger s b l).trans (.of_raise _ _)).trans (.of_flagRecord _ b _)
  · exact of_setLogger s b l

theorem Keeps.of_closeLog (s : State) (b : BoomId) : Keeps s (s.closeLog b) :=
  (of_putLogger s b _).trans (.of_modRecord _ b _)

theorem Onward.of_goto (s : State) (b : BoomId) (st : EngineState) (sub : SubCond) : Onward b s (s.goto b st sub) :=
  .of_setEngine s b _ (by rfl)

@[simp] theorem State.goto_state (s : State) (b : BoomId) (st : EngineState) (sub : SubCond) :
    ((s.goto b st sub).engine b).state = st := by simp [State.goto]

theorem Works.of_goto (s : State) (b : BoomId) {st : EngineState} (sub : SubCond) (h : st.engaged = true) :
    Works b s (s.goto b st sub) := ⟨.of_goto s b st sub, .inl (by simpa using h)⟩

/-! ## FILING and FAULTED -/

section
variable {s t : State} {b : BoomId}

/-- What leaves the engine in FILING or FAULTED may be followed by the offer. -/
theorem Ended.of_offer {st : EngineState} {sub : SubCond} (hst : st = .filing ∨ st = .faulted)
    (k : Keeps (s.goto b st sub) t) : Ended b s (t.offer b) :=
  ⟨t, (Onward.of_goto s b st sub).keeps k, by rw [k.state, State.goto_state]; exact hst, rfl⟩

end

theorem Ended.of_enterFiling (s : State) (b : BoomId) : Ended b s (s.enterFiling b) :=
  .of_offer (st := .filing) (sub := .none) (.inl rfl) (.trans (.of_flow (.of_noFlow _ b)) (.of_modRecord _ b _))

theorem Ended.of_enterFaulted (s : State) (b : BoomId) (c : FaultCause) : Ended b s (s.enterFaulted b c) := by
  unfold State.enterFaulted
  refine .of_offer (st := .faulted) (sub := .none) (.inr rfl) ?_
  have h2 := Keeps.of_setEngine (s.goto b .faulted .none) b
    { (s.goto b .faulted .none).engine b with lastFault := some c, causes := {}, armOnGrant := false } rfl rfl
  have h3 := Keeps.ite (P := (s.engine b).jog.isSome = true) h2 (h2.trans (.of_flow (.of_noFlow _ b)))
  have h4 := (h3.trans (.of_modRecord _ b
    (faultRecord (s.engine b) (if (s.engine b).state = .hold then (s.engine b).resume.getD .idle else (s.engine b).state) c
      s.now))).trans (.of_raise _ (.jobFault b))
  exact Keeps.ite (h4.trans (.of_closeLog _ b)) h4

theorem Works.of_enterHold (s : State) (b : BoomId) (c : HoldCause) : Works b s (s.enterHold b c) := by
  unfold State.enterHold
  have h1 : Keeps s (if (s.engine b).state = .mix then s.flagRecord b .mixInterrupted else s) :=
    .ite (.of_flagRecord s b _) (.refl s)
  refine .keeps (.keeps ((h1.onward b).works ⟨.of_setEngine _ b _ ?_, .inr ?_⟩) (.of_flow (.of_noFlow _ b))) (.of_raise _ _)
  · rfl
  · simp

theorem Acts.of_holdCause (s : State) (b : BoomId) (c : HoldCause) : Acts b s (s.holdCause b c) := by
  unfold State.holdCause
  dsimp only
  split
  · exact .works ‹_› (.of_enterHold s b c)
  · split
    · exact .keeps (.of_setEngine s b _ (by rfl) (by rfl))
    · exact .keeps (.refl s)

theorem Acts.of_channelFailed (s : State) (b : BoomId) : Acts b s (s.channelFailed b) := by
  unfold State.channelFailed
  dsimp only
  split
  · rename_i h
    refine .ended h (Onward.ended (t := s.holdCause b .channel) ?_ (.of_enterFaulted _ b _))
    rcases of_holdCause s b .channel with ⟨_, k⟩ | ⟨_, _⟩ | k | ⟨_, k⟩
    · exact k.toOnward
    · unfold State.holdCause
      dsimp only
      split
      · exact (Works.of_enterHold s b _).toOnward
      · split
        · exact (Keeps.of_setEngine s b _ (by rfl) (by rfl)).onward b
        · exact (Keeps.refl s).onward b
    · exact k.onward b
    · exact k
  · exact .keeps (.refl s)

/-! ## The steps -/

theorem Goes.of_enterRelease (s : State) (b : BoomId) : Goes b s (s.enterRelease b) := by
  have h := (Works.of_goto s b .none (st := .release) rfl).keeps (.of_flow (.of_beginFlow _ b (.step .release)))
  exact .ite (.inr (h.toOnward.ended (.of_enterFiling _ b))) h.goes

theorem Goes.of_endTorque (s : State) (b : BoomId) (o : JobOutcome) (t : Nat) : Goes b s (s.endTorque b o t) :=
  (Keeps.of_modRecord s b _).goes (.of_enterRelease _ b)

theorem Works.of_enterTorque (s : State) (b : BoomId) : Works b s (s.enterTorque b) :=
  ((Works.of_goto s b _ rfl).keeps (.of_setEngine _ b _ (by rfl) (by rfl))).keeps (.of_flow (.of_beginFlow _ b _))

theorem Goes.of_windowTest (s : State) (b : BoomId) : Goes b s (s.windowTest b) :=
  .ite (Works.of_enterTorque s b).goes ((Keeps.of_modRecord s b _).goes (.of_enterRelease _ b))

theorem Works.of_enterGelHold (s : State) (b : BoomId) : Works b s (s.enterGelHold b) :=
  (Works.of_goto s b _ rfl).keeps (.of_flow (.of_beginFlow _ b _))

theorem Keeps.of_mixEnded (s : State) (b : BoomId) (short : Bool) : Keeps s (s.mixEnded b short) :=
  .ite ((of_modRecord s b _).trans (.of_flagRecord _ b _)) (of_modRecord s b _)

theorem Works.of_endMix (s : State) (b : BoomId) (short : Bool) : Works b s (s.endMix b short) :=
  ((Keeps.of_mixEnded s b short).onward b).works (.of_enterGelHold _ b)

theorem Works.of_enterMix (s : State) (b : BoomId) : Works b s (s.enterMix b) :=
  (((Works.of_goto s b _ rfl).keeps (.of_setEngine _ b _ (by rfl) (by rfl))).keeps (.of_modRecord _ b _)).keeps
    (.of_flow (.of_beginFlow _ b _))

theorem Works.of_enterPush (s : State) (b : BoomId) : Works b s (s.enterPush b) :=
  ((Works.of_goto s b _ rfl).keeps (.of_setEngine _ b _ (by rfl) (by rfl))).keeps (.of_flow (.of_beginFlow _ b _))

theorem Works.of_enterAwaitBolt (s : State) (b : BoomId) : Works b s (s.enterAwaitBolt b) :=
  ((Works.of_goto s b _ rfl).keeps (.of_flow (.of_noFlow _ b))).keeps (.of_raise _ _)

theorem Works.of_finishInsert (s : State) (b : BoomId) : Works b s (s.finishInsert b) :=
  ((Keeps.of_modRecord s b _).onward b).works (.of_enterAwaitBolt _ b)

theorem Keeps.of_setLeg (s : State) (b : BoomId) (l : Leg) : Keeps s (s.setLeg b l) :=
  (of_setEngine s b _ (by rfl) (by rfl)).trans (.of_flow (.of_changeDrive _ b))

theorem Keeps.of_completeCartridge (s : State) (b : BoomId) : Keeps s (s.completeCartridge b) := by
  have h : Keeps s (if (s.engine b).tally ≥ 2 then s.flagRecord b .resinExtra else s) := .ite (.of_flagRecord s b _) (.refl s)
  exact h.trans (.of_setEngine _ b _ (by rfl) (by rfl))

/-- R168: at work, the strokes end at work or in a fault. -/
theorem Goes.of_runStroke (k : Nat) {s : State} {b : BoomId} (h : AtWork s b) : Goes b s (State.runStroke k s b) := by
  have stay : Goes b s s := ((Keeps.refl s).works h).goes
  induction k generalizing s with
  | zero => exact stay
  | succ k ih =>
    have on : ∀ {t : State}, Keeps s t → Goes b s (State.runStroke k t b) := fun {t} ht => by
      have hw := (ht.works h).work
      exact ht.goes (ih hw ((Keeps.refl t).works hw).goes)
    unfold State.runStroke
    dsimp only
    split
    · exact stay
    · exact .ite (.ite (Works.of_finishInsert s b).goes (on (.of_setLeg s b _))) stay
    · exact .ite (on (.of_setLeg s b _)) stay
    · have hc := Keeps.of_completeCartridge s b
      exact .ite
        (.ite (.ite (hc.goes (Works.of_finishInsert _ b).goes) (on (hc.trans (.of_setLeg _ b _))))
          (.ite (on (.trans (.of_setEngine s b _ (by rfl) (by rfl)) (.of_setLeg _ b _))) (.inr (.of_enterFaulted s b _))))
        stay

theorem Goes.of_strokes {s : State} {b : BoomId} (h : AtWork s b) : Goes b s (s.strokes b) := of_runStroke 24 h

theorem Goes.of_beginStrokes (s : State) (b : BoomId) : Goes b s (s.beginStrokes b) := by
  have h := ((Works.of_goto s b .none (st := .insert) rfl).keeps
    (.of_setEngine _ b { (s.goto b .insert .none).engine b with leg := some (s.firstLeg b) } rfl rfl)).keeps
    (.of_flow (.of_beginFlow _ b (.step .insert)))
  exact h.toOnward.goes (.of_strokes h.work)

theorem Goes.of_insertOrWait (s : State) (b : BoomId) : Goes b s (s.insertOrWait b) :=
  .ite (((Works.of_goto s b _ rfl).keeps (.of_flow (.of_noFlow _ b))).keeps (.of_raise _ _)).goes (.of_beginStrokes s b)

theorem Goes.of_enterInsert (s : State) (b : BoomId) : Goes b s (s.enterInsert b) :=
  (Keeps.of_setEngine s b _ (by rfl) (by rfl)).goes (.of_insertOrWait _ b)

theorem Goes.of_beginRetract (s : State) (b : BoomId) : Goes b s (s.beginRetract b) := by
  have h := (Works.of_goto s b .none (st := .retract) rfl).keeps (.of_flow (.of_beginFlow _ b (.step .retract)))
  exact .ite (h.toOnward.goes (.of_enterInsert _ b)) h.goes

theorem Goes.of_enterRetract (s : State) (b : BoomId) : Goes b s (s.enterRetract b) := by
  unfold State.enterRetract
  dsimp only
  refine Keeps.goes ?_ (.of_beginRetract _ b)
  split
  · exact ((((Keeps.of_putLogger s b _).trans (.of_setLogger _ b _)).trans
      (.of_setEngine _ b _ (by simp) (by simp))).trans (.of_modRecord _ b _)).trans (.of_flagRecord _ b _)
  · exact (((Keeps.of_putLogger s b _).trans (.of_setLogger _ b _)).trans
      (.of_setEngine _ b _ (by simp) (by simp))).trans (.of_modRecord _ b _)

theorem Works.of_enterDrill (s : State) (b : BoomId) : Works b s (s.enterDrill b) :=
  (Works.of_goto s b _ rfl).keeps (.of_flow (.of_beginFlow _ b _))

theorem Goes.of_stall {s : State} {b : BoomId} (h : AtWork s b) (pos : Nat) : Goes b s (s.stall b pos) :=
  .ite (Keeps.works (.trans (.of_setEngine s b _ (by rfl) (by rfl)) (.of_flow (.of_changeDrive _ b))) h).goes
    (.inr (.of_enterFaulted s b _))

theorem Keeps.of_endBackoff (s : State) (b : BoomId) : Keeps s (s.endBackoff b) :=
  (of_setEngine s b _ (by rfl) (by rfl)).trans (.of_flow (.of_changeDrive _ b))

/-! ## Events taken by an engine -/

theorem Keeps.of_loggerScan (s : State) (b : BoomId) : Keeps s (s.loggerScan b) := by
  unfold State.loggerScan
  dsimp only
  split
  · exact .ite ((of_putLogger s b _).trans (.of_flow (.of_reissueFeed _ b))) (of_putLogger s b _)
  · exact refl s

theorem Keeps.of_scanApproach (s : State) (b : BoomId) : Keeps s (s.scanApproach b) :=
  .ite (((of_setLogger s b _).trans (.of_setEngine _ b _ (by simp) (by simp))).trans (.of_flow (.of_changeDrive _ b))) (refl s)

theorem Keeps.of_scanBackoff (s : State) (b : BoomId) : Keeps s (s.scanBackoff b) := .ite (of_endBackoff s b) (refl s)

theorem Goes.of_scanDrill {s : State} {b : BoomId} (h : AtWork s b) : Goes b s (s.scanDrill b) :=
  .ite (.of_enterRetract s b) (.ite ((Keeps.of_scanBackoff s b).works h).goes
    (.ite (.of_stall h _) ((Keeps.refl s).works h).goes))

theorem Goes.of_scanTorque {s : State} {b : BoomId} (h : AtWork s b) : Goes b s (s.scanTorque b) :=
  .ite ((Keeps.of_setEngine s b _ (by rfl) (by rfl)).goes (.of_endTorque _ b _ _))
    (.ite ((Keeps.of_setEngine s b _ (by rfl) (by rfl)).goes (.of_endTorque _ b _ _))
      ((Keeps.of_setEngine s b _ (by rfl) (by rfl)).works h).goes)

theorem Acts.of_engineScan (s : State) (b : BoomId) : Acts b s (s.engineScan b) := by
  unfold State.engineScan
  dsimp only
  split
  · exact .keeps (.of_scanApproach s b)
  · exact .keeps (.of_scanBackoff s b)
  · have he : (s.engine b).state.engaged = true := by rw [‹(s.engine b).state = .collar›]; rfl
    exact Goes.acts he (.ite (Works.of_enterDrill s b).goes ((Keeps.refl s).works (.inl he)).goes)
  · have he : (s.engine b).state.engaged = true := by rw [‹(s.engine b).state = .drill›]; rfl
    exact Goes.acts he (.of_scanDrill (.inl he))
  · have he : (s.engine b).state.engaged = true := by rw [‹(s.engine b).state = .push›]; rfl
    exact Goes.acts he (.ite (Works.of_enterMix s b).goes ((Keeps.refl s).works (.inl he)).goes)
  · have he : (s.engine b).state.engaged = true := by rw [‹(s.engine b).state = .torque›]; rfl
    exact Goes.acts he (.ite (.of_scanTorque (.inl he)) ((Keeps.refl s).works (.inl he)).goes)
  · exact .keeps (.refl s)

theorem Acts.of_homeClosed (s : State) (b : BoomId) : Acts b s (s.homeClosed b) := by
  unfold State.homeClosed
  split
  · rename_i h
    exact Goes.acts (by rw [h]; rfl) (.of_enterInsert s b)
  · rename_i h
    exact Goes.acts (by rw [h]; rfl) (.inr (.of_enterFiling s b))
  · exact .keeps (.of_endBackoff s b)
  · exact .keeps (.of_endBackoff s b)
  · exact .keeps (.refl s)

theorem Acts.of_inserterClosed (s : State) (b : BoomId) : Acts b s (s.inserterClosed b) := by
  unfold State.inserterClosed
  split
  · rename_i h
    have he : (s.engine b).state.engaged = true := by rw [h]; rfl
    exact Goes.acts he (.of_strokes (.inl he))
  · exact .keeps (.refl s)

theorem Acts.of_engineExpiry (s : State) (b : BoomId) (f : PairFn) : Acts b s (s.engineExpiry b f) := by
  have fault : ∀ {st}, (s.engine b).state = st → st.engaged = true → ∀ c, Acts b s (s.enterFaulted b c) :=
    fun h he c => .ended (.inl (h ▸ he)) (.of_enterFaulted s b c)
  have stall : ∀ {st}, (s.engine b).state = st → st.engaged = true → Acts b s (s.stall b (s.motion b).scanPos) :=
    fun h he => Goes.acts (h ▸ he) (.of_stall (.inl (h ▸ he)) _)
  unfold State.engineExpiry
  dsimp only
  split
  iterate 6 exact fault ‹_› rfl _
  iterate 2 exact stall ‹_› rfl
  · exact fault ‹_› rfl _
  · rename_i h
    exact .works (by rw [h]; rfl) (.of_endMix s b _)
  · rename_i h
    exact Goes.acts (by rw [h]; rfl) (.of_endTorque s b _ _)
  · exact .keeps (.refl s)

theorem Acts.of_mixPulse (s : State) (b : BoomId) : Acts b s (s.mixPulse b) := by
  unfold State.mixPulse
  dsimp only
  split
  · rename_i h
    have he : (s.engine b).state.engaged = true := by rw [h]; rfl
    have hq := Keeps.of_setEngine s b { s.engine b with q := (s.engine b).q + 1 } rfl rfl
    exact Goes.acts he (.ite (hq.goes (Works.of_endMix _ b _).goes) (hq.works (.inl he)).goes)
  · split
    · exact .keeps (.of_setEngine s b _ (by rfl) (by rfl))
    · exact .keeps (.refl s)

theorem Acts.of_mixLimit (s : State) (b : BoomId) : Acts b s (s.mixLimit b) := by
  unfold State.mixLimit
  split
  · rename_i h
    exact Goes.acts (by rw [h]; rfl) ((Keeps.of_setEngine s b _ (by rfl) (by rfl)).goes (Works.of_endMix _ b _).goes)
  · exact .keeps (.refl s)

theorem Acts.of_gelTime (s : State) (b : BoomId) : Acts b s (s.gelTime b) := by
  unfold State.gelTime
  split
  · rename_i h
    exact Goes.acts (by rw [h]; rfl) ((Keeps.of_setEngine s b _ (by rfl) (by rfl)).goes (.of_windowTest _ b))
  · exact .keeps (.refl s)

theorem Acts.of_drillLimitReached (s : State) (b : BoomId) : Acts b s (s.drillLimitReached b) := by
  unfold State.drillLimitReached State.drillCounts
  split
  · rename_i h
    have he : (s.engine b).state.engaged = true := by
      simp only [Bool.and_eq_true, Bool.or_eq_true, beq_iff_eq] at h
      obtain ⟨h | h, -⟩ := h <;> rw [h] <;> rfl
    exact Goes.acts he ((Keeps.of_setEngine s b _ (by rfl) (by rfl)).goes (.inr (.of_enterFaulted _ b _)))
  · exact .keeps (.refl s)

theorem Acts.of_torqueLimitReached (s : State) (b : BoomId) : Acts b s (s.torqueLimitReached b) := by
  unfold State.torqueLimitReached State.torqueCounts
  split
  · rename_i h
    have he : (s.engine b).state.engaged = true := by
      simp only [Bool.and_eq_true, beq_iff_eq] at h
      rw [h.1]
      rfl
    exact Goes.acts he ((Keeps.of_setEngine s b _ (by rfl) (by rfl)).goes (.of_endTorque _ b _ _))
  · exact .keeps (.refl s)

theorem Keeps.of_endJog (s : State) (b : BoomId) : Keeps s (s.endJog b) :=
  .ite ((of_setEngine s b _ (by rfl) (by rfl)).trans (.of_flow (.of_noFlow _ b))) (refl s)

theorem Acts.of_parkBoom (s : State) (b : BoomId) (c : HoldCause) : Acts b s (s.parkBoom b c) := by
  have h := Keeps.of_setEngine s b { s.engine b with park := true } rfl rfl
  have rest : AwaitsJob s b →
      Acts b s ((s.setEngine b { s.engine b with park := true }).goto b .parked .none) := fun hr =>
    .rests hr ((h.onward b).trans (.of_goto _ b _ _)) (.inr (.inr (by simp)))
  have hold : ∀ {st}, (s.engine b).state = st → st.engaged = true →
      Acts b s ((s.setEngine b { s.engine b with park := true }).enterHold b c) := fun hs he =>
    .works (hs ▸ he) ((h.onward b).works (.of_enterHold _ b c))
  unfold State.parkBoom
  dsimp only
  split
  · exact rest (.inl ‹_›)
  · exact rest (.inr (.inl ‹_›))
  iterate 6 exact hold ‹_› rfl
  · exact .keeps h

theorem AwaitsJob.of_choose (s : State) (b : BoomId) : AwaitsJob (s.choose b) b := by
  unfold AwaitsJob State.choose
  rw [State.goto_state]
  split_ifs <;> simp

theorem Acts.of_unpark (s : State) (b : BoomId) : Acts b s (s.unpark b) := by
  have h := Keeps.of_setEngine s b { s.engine b with park := false } rfl rfl
  unfold State.unpark
  dsimp only
  split
  · exact .rests (.inr (.inr ‹_›)) ((h.onward b).trans (.of_goto _ b _ _)) (.of_choose _ b)
  · exact .keeps h

/-! ## The requests that move an engine -/

theorem Keeps.of_dropJog (s : State) (b : BoomId) : Keeps s (s.dropJog b) :=
  .ite ((of_setEngine s b _ (by rfl) (by rfl)).trans (.of_flow (.of_boomOff _ b _))) (refl s)

theorem Keeps.of_startJog (s : State) (b : BoomId) (j : Jog) : Keeps s (s.startJog b j) := by
  have h := ((of_dropJog s b).trans (.of_setEngine _ b { (s.dropJog b).engine b with jog := some j } rfl rfl)).trans
    (.of_flow (.of_place _ (.boom b) (.jog j.fn)))
  have h2 := h.ite (P := (State.place ((s.dropJog b).setEngine b { (s.dropJog b).engine b with jog := some j }) (.boom b)
    (.jog j.fn)).granted (.boom b) = true) (h.trans (.of_flow (.of_boomOff _ b false)))
  exact .ite (h2.trans (.of_endJog _ b)) h2

theorem Goes.of_resumeGel (s : State) (b : BoomId) : Goes b s (s.resumeGel b) :=
  .ite (Works.of_enterGelHold s b).goes (.of_windowTest s b)

theorem Goes.of_resumeMix (s : State) (b : BoomId) : Goes b s (s.resumeMix b) :=
  .ite ((Keeps.of_mixEnded s b _).goes (.of_resumeGel _ b))
    (.ite ((Works.of_goto s b _ rfl).keeps (.of_flow (.of_beginFlow _ b _))).goes
      ((Keeps.of_mixEnded s b _).goes (.of_resumeGel _ b)))

theorem Goes.of_resumeInsert (s : State) (b : BoomId) : Goes b s (s.resumeInsert b) := by
  have again : ∀ {u : State}, Works b s u → Goes b s
      (if (u.engine b).completed ≥ u.cartridges b then
        if u.closed (.ihome b) then u.finishInsert b
        else (u.setEngine b { u.engine b with leg := some .homing }).beginFlow b (.step .insert)
      else ((u.setEngine b { u.engine b with leg := some (u.firstLeg b) }).beginFlow b (.step .insert)).strokes b) := by
    intro u hu
    have leg : ∀ l, Works b s ((u.setEngine b { u.engine b with leg := some l }).beginFlow b (.step .insert)) := fun l =>
      (hu.keeps (.of_setEngine u b _ (by rfl) (by rfl))).keeps (.of_flow (.of_beginFlow _ b _))
    have hl := leg (u.firstLeg b)
    exact .ite (.ite (hu.toOnward.goes (Works.of_finishInsert u b).goes) (leg .homing).goes)
      (hl.toOnward.goes (.of_strokes hl.work))
  unfold State.resumeInsert
  dsimp only
  split
  · exact .of_insertOrWait s b
  · refine again (Onward.works (Keeps.onward ?_ b) (.of_goto _ b _ rfl))
    exact .ite (.of_completeCartridge s b) (.refl s)

/-- R44: a RESUME out of HOLD ends at work or in the engine's offer of its record. -/
theorem Goes.of_resumeStep {s : State} {b : BoomId} (h : AtWork s b) (st : EngineState) : Goes b s (s.resumeStep b st) := by
  have again : ∀ {st'}, st'.engaged = true →
      Works b s (s.setEngine b { s.engine b with state := st', resume := none }) := fun {st'} he =>
    ⟨.of_setEngine s b _ (by rfl), .inl (by simpa using he)⟩
  unfold State.resumeStep
  dsimp only
  split
  · exact ((again rfl).keeps (.of_flow (.of_beginFlow _ b _))).goes
  · exact ((again rfl).keeps (.of_flow (.of_beginFlow _ b _))).goes
  · exact .of_beginRetract s b
  · exact .of_resumeInsert s b
  · exact .ite (Works.of_enterPush s b).goes (Works.of_enterAwaitBolt s b).goes
  · exact (Works.of_enterPush s b).goes
  · exact .of_resumeMix s b
  · exact .of_resumeGel s b
  · exact (((again rfl).keeps (.of_setEngine _ b _ (by rfl) (by rfl))).keeps (.of_flow (.of_beginFlow _ b _))).goes
  · exact .of_enterRelease s b
  · exact ((Keeps.refl s).works h).goes

theorem Goes.of_resume {s : State} {b : BoomId} (h : AtWork s b) : Goes b s (s.resume b) := by
  have h1 := (Keeps.of_dropJog s b).trans (.of_setEngine _ b { (s.dropJog b).engine b with causes := {} } rfl rfl)
  exact h1.goes (.of_resumeStep (h1.works h).work _)

/-! ## The restricted flag and the channels -/

theorem Keeps.of_updateRestricted (s : State) (b : BoomId) : Keeps s (s.updateRestricted b) := by
  have h := of_setEngine s b { s.engine b with restricted := s.restrictedNow b } rfl rfl
  have h2 := Keeps.ite (P := s.restrictedNow b = true) ((h.trans (.of_raise _ (.restricted b))).trans (.of_flagRecord _ b .restrictedRun)) h
  exact .ite (refl s) (h2.trans (.of_flow (.of_reissueFeed _ b)))

theorem Keeps.of_raiseHealth (s : State) (c : ChannelId) (old new : Health) : Keeps s (s.raiseHealth c old new) := by
  unfold State.raiseHealth
  split
  · exact of_raise s _
  · exact refl s

theorem Keeps.of_sampleAnalog (s : State) (c : AnalogId) (r : RawSample) : Keeps s (s.sampleAnalog c r) :=
  Keeps.trans (.of_rest (by cases c <;> rfl) (by cases c <;> rfl) (by simp) (by simp) (by simp)) (.of_raiseHealth _ _ _ _)

end Sys2Proof.Machine
end

section
/-! PROOF. What has to be shown of an invariant of the jobs' lives (`CycleKept`), and the first of them: no boom is engaged without a
SET canopy (O56). -/
namespace Sys2Proof.Machine

/-! ## The offer of a record -/

/-- The job of boom `b` is over: its active place is empty and its engine has no record; nothing else of the jobs changes. -/
structure JobOver (b : BoomId) (s t : State) : Prop where
  canopy : t.canopy.state = s.canopy.state
  plans : t.plans = s.plans
  room : t.store.room = s.store.room
  queue : ∀ c, (t.boom c).queue = (s.boom c).queue
  active : ∀ c, (t.boom c).active = if c = b then none else (s.boom c).active
  record : ∀ c, (t.engine c).record.isSome = if c = b then false else (s.engine c).record.isSome
  other : ∀ c, c ≠ b → (t.engine c).state = (s.engine c).state

/-- The record of boom `b` has been filed: its job is over, and an engine in FILING has made its choice. -/
structure FiledFrom (b : BoomId) (s t : State) : Prop extends JobOver b s t where
  choice : if (s.engine b).state = .filing then AwaitsJob t b else (t.engine b).state = (s.engine b).state

theorem JobOver.of_clear (s : State) (b : BoomId) {e : Engine} (h : e.record = none) :
    JobOver b s (((s.setEngine b e).setActive b none).setLogger b {}) where
  canopy := by simp
  plans := by simp
  room := by simp
  queue c := by cases b <;> cases c <;> rfl
  active c := by cases b <;> cases c <;> rfl
  record c := by by_cases hc : c = b <;> simp [hc, h]
  other c hc := by simp [hc]

theorem JobOver.onward {s t u : State} {b : BoomId} (h : JobOver b s t) (k : Onward b t u) : JobOver b s u where
  canopy := k.canopy.trans h.canopy
  plans := k.plans.trans h.plans
  room := (congrArg RecordStore.room k.store).trans h.room
  queue c := (k.queue c).trans (h.queue c)
  active c := (k.active c).trans (h.active c)
  record c := (k.record c).trans (h.record c)
  other c hc := (k.other c hc).trans (h.other c hc)

theorem FiledFrom.of_filed (s : State) (b : BoomId) (o : Option JobOutcome) : FiledFrom b s (s.filed b o) := by
  have h1 := JobOver.of_clear s b (e := { s.engine b with resinRunning := false, n := none, record := none }) rfl
  unfold State.filed
  dsimp only
  split
  · rename_i h
    refine ⟨JobOver.onward (h1.onward (Keeps.onward ?_ b)) (.of_goto _ b _ _), by rw [if_pos h]; exact .of_choose _ b⟩
    exact .ite ((Keeps.of_raise _ _).trans (.of_setEngine _ b _ (by rfl) (by rfl))) (.of_raise _ _)
  · rename_i h
    exact ⟨h1, by rw [if_neg h]; simp⟩

/-- R187: a boom with a record has it filed. -/
theorem FiledFrom.of_file {s : State} {b : BoomId} (h : (s.engine b).record.isSome = true) : FiledFrom b s (s.file b) := by
  obtain ⟨r, hr⟩ := Option.isSome_iff_exists.1 h
  unfold State.file
  rw [hr]
  have k := of_filed (({ s with
    store := { s.store with records := s.store.records ++ [{ r with number := some s.store.next }], next := s.store.next + 1 } } :
      State).raise .recordReady) b r.outcome
  cases b <;>
    exact ⟨⟨k.canopy, k.plans, k.room, fun c => (k.queue c).trans (by cases c <;> rfl),
      fun c => (k.active c).trans (by cases c <;> rfl), fun c => (k.record c).trans (by cases c <;> rfl),
      fun c hc => (k.other c hc).trans (by cases c <;> rfl)⟩, k.choice⟩

theorem FiledFrom.of_keeps {s t u : State} {b : BoomId} (h : Keeps s t) (k : FiledFrom b t u) : FiledFrom b s u where
  canopy := k.canopy.trans h.canopy
  plans := k.plans.trans h.plans
  room := k.room.trans (by rw [h.store])
  queue c := (k.queue c).trans (h.queue c)
  active c := by rw [k.active, h.active]
  record c := by rw [k.record, h.record]
  other c hc := (k.other c hc).trans (h.state c)
  choice := by
    have := k.choice
    rwa [h.state] at this

/-- R187, R188: an offered record is filed, or the boom waits in the room queue; without a record nothing happens. -/
theorem State.offer_cases (s : State) (b : BoomId) :
    (s.engine b).record.isSome = true ∧ FiledFrom b s (s.offer b) ∨ (s.engine b).record.isSome = false ∧ Keeps s (s.offer b) ∨
      ∃ u, Keeps s u ∧ s.offer b = { u with store := { u.store with room := u.store.room ++ [b] } } := by
  have hm := Keeps.of_modRecord s b (fun r => { r with retries := (s.engine b).retries })
  unfold State.offer
  dsimp only
  split
  · cases hr : (s.engine b).record.isSome with
    | true => exact .inl ⟨rfl, .of_keeps hm (.of_file ((hm.record b).trans hr))⟩
    | false =>
      refine .inr (.inl ⟨rfl, ?_⟩)
      have hn := (hm.record b).trans hr
      rw [Option.isSome_eq_false_iff, Option.isNone_iff_eq_none] at hn
      unfold State.file
      rw [hn]
      exact hm
  · exact .inr (.inr ⟨_, hm.trans (.of_raise _ .storeFull), rfl⟩)

/-! ## Invariants of the jobs' lives -/

/-- A property of the jobs' lives: what has to be shown of each event of an engine, of the plan table, the queues, the store, the
canopy and the resets. -/
structure CycleKept (P : State → Prop) : Prop where
  keeps : ∀ {s t : State}, Keeps s t → P s → P t
  acts : ∀ {s t : State} {b : BoomId}, Acts b s t → P s → P t
  startJob : ∀ {s : State} b j rest, ((s.engine b).state = .ready ∨ (s.engine b).state = .parked) → s.canopy.state = .set →
    (s.boom b).queue = j :: rest → P s → P (s.startJob b j rest)
  resume : ∀ {s : State} b, (s.engine b).state = .hold → s.canopy.state = .set → P s → P (s.resume b)
  faultCleared : ∀ {s : State} b, (s.engine b).state = .faulted → (s.engine b).record = none → P s → P (s.choose b)
  insertPlan : ∀ {s : State} p, ((findPlan s.plans p.id).isSome = true ∨ s.plans.length < 16) → P s →
    P { s with plans := insertPlan p s.plans }
  dropPlan : ∀ {s : State} id, s.refs id = 0 → P s → P { s with plans := dropPlan id s.plans }
  appendJob : ∀ {s : State} b j, s.jobRefusal b j = none → P s → P (s.appendJob b j)
  cancelJob : ∀ {s : State} b tag, P s → P (s.cancelJob b tag)
  release : ∀ {s : State}, s.store.records ≠ [] → P s → P s.release
  canopyGoto : ∀ {s : State} st f,
    (st = .set ∨ s.canopy.state ≠ .set ∨ ∀ b, (s.engine b).state.engaged = false) → P s → P (s.canopyGoto st f)
  canopyLoss : ∀ {s : State}, P s → P s.canopyLoss
  powerOn : ∀ {s : State} x y, P s → P (s.powerOn x y)
  warmReset : ∀ {s : State}, P s → P s.warmReset

theorem Keeps.of_settlePair (s : State) (p : PairId) : Keeps s (s.settlePair p) := of_flow (.of_setPair s p _)

theorem Keeps.of_settleBoom (s : State) (b : BoomId) : Keeps s (s.settleBoom b) :=
  ((of_settlePair s _).trans (.of_settlePair _ _)).trans (.of_settlePair _ _)

theorem Keeps.of_settleAll (s : State) : Keeps s s.settleAll :=
  ((of_settleBoom s _).trans (.of_settleBoom _ _)).trans (.of_settlePair _ _)

theorem Keeps.of_setSwitch (s : State) (i : SwitchId) (x : SwitchInput) : Keeps s (s.setSwitch i x) := by
  cases i with
  | estop => exact of_rest rfl rfl rfl rfl rfl
  | clow => exact of_rest rfl rfl rfl rfl rfl
  | prs b => exact of_setBoom rfl rfl rfl rfl
  | home b => exact of_setBoom rfl rfl rfl rfl
  | iend b => exact of_setBoom rfl rfl rfl rfl
  | ihome b => exact of_setBoom rfl rfl rfl rfl

theorem Keeps.of_setBudget (s : State) (v : Nat) : Keeps s (s.setBudget v) :=
  ((of_rest (s := s) (t := { s with arb := (s.arb.setBudget v).1 }) rfl rfl rfl rfl rfl).trans
    (.of_flow (.of_tells _ _))).trans (.of_flow (.of_runPass _))

theorem Keeps.of_tickTimers (s : State) : Keeps s s.tickTimers :=
  ⟨⟨rfl, rfl, rfl, fun c => by cases c <;> rfl, fun c => by cases c <;> rfl, fun c => by cases c <;> rfl⟩,
    fun c => by cases c <;> rfl⟩

namespace CycleKept
variable {P : State → Prop} (k : CycleKept P) {s : State}
include k

theorem told (b : BoomId) (old new : Health) (h : P s) : P (s.tellEngine b old new) := by
  have h1 := k.keeps (.of_updateRestricted s b) h
  exact property_ite (c := old = new) h (property_ite (c := new = .failed) (k.acts (.of_channelFailed _ b) h1) h1)

theorem scanned (b : BoomId) (rot feed : RawSample) (later : Nat) (h : P s) : P (s.scanned b rot feed later) := by
  have h1 := ((((Keeps.of_setBoom rfl rfl rfl rfl : Keeps s (s.recordPosition b later)).trans
    (.of_sampleAnalog _ (rotChannel b) rot)).trans (.of_sampleAnalog _ (feedChannel b) feed)).trans
      (.of_setBoom rfl rfl rfl rfl : Keeps _ (State.estimateTorque _ b))).trans (.of_loggerScan _ b)
  exact k.told b _ _ (k.told b _ _ (k.keeps h1 h))

theorem headTakes (b : BoomId) (x : Head) (h : P s) : P (s.headTakes b x) := by
  have h1 := k.keeps (Keeps.trans (.of_setBoom rfl rfl rfl rfl : Keeps s (s.setHead b x))
    (.of_raiseHealth _ (.head b) (s.head b).health x.health)) h
  unfold State.headTakes State.headChanged
  dsimp only
  split
  · exact k.acts (.of_channelFailed _ b) (property_ite (k.keeps (.of_updateRestricted _ b) h1) h1)
  · exact property_ite (k.keeps (.of_updateRestricted _ b) h1) h1

/-- A step keeps a property that the events of the jobs' lives keep. -/
theorem stepKept : StepKept P where
  same hs h := k.keeps (.of_same hs) h
  request p r h := k.keeps (.of_flow (.of_request _ p r)) h
  place who p h := k.keeps (.of_flow (.of_place _ who p)) h
  withdraw who h := k.keeps (.of_flow (.of_withdraw _ who)) h
  setBudget v h := k.keeps (.of_setBudget _ v) h
  markStarved {s} who n h :=
    k.keeps (s := s) (t := { s with arb := s.arb.markStarved who n }) (.of_rest rfl rfl rfl rfl rfl) h
  engineMark b e hs hr _ h := k.keeps (.of_setEngine _ b e (by rw [hr]) hs) h
  engineScan b h := k.acts (.of_engineScan _ b) h
  holdCause b c h := k.acts (.of_holdCause _ b c) h
  parkBoom b c h := k.acts (.of_parkBoom _ b c) h
  unpark b h := k.acts (.of_unpark _ b) h
  aborted b hs h := k.acts (.ended hs (.of_enterFaulted _ b _)) h
  enterPush b hs h := k.acts (.works (by rw [hs]; rfl) (.of_enterPush _ b)) h
  faultCleared := k.faultCleared
  startJob := k.startJob
  resume := k.resume
  startJog b j h := k.keeps (.of_startJog _ b j) h
  endJog b h := k.keeps (.of_endJog _ b) h
  beginStrokes b hs h := k.acts (Goes.acts (by rw [hs]; rfl) (.of_beginStrokes _ b)) h
  homeClosed b h := k.acts (.of_homeClosed _ b) h
  inserterClosed b h := k.acts (.of_inserterClosed _ b) h
  engineExpiry b f h := k.acts (.of_engineExpiry _ b f) h
  mixPulse b h := k.acts (.of_mixPulse _ b) h
  mixLimit b h := k.acts (.of_mixLimit _ b) h
  gelTime b h := k.acts (.of_gelTime _ b) h
  drillLimitReached b h := k.acts (.of_drillLimitReached _ b) h
  torqueLimitReached b h := k.acts (.of_torqueLimitReached _ b) h
  insertPlan := k.insertPlan
  dropPlan := k.dropPlan
  appendJob := k.appendJob
  cancelJob := k.cancelJob
  release := k.release
  sampleShared c r _ h := k.keeps (.of_sampleAnalog _ c r) h
  scanned b rot feed later h := k.scanned b rot feed later h
  headSampled b _ h := k.headTakes b _ h
  headStale b _ h := k.headTakes b _ h
  beginRestore c _ h := by
    refine k.keeps ?_ h
    cases c with
    | analog c => exact .of_rest (by cases c <;> rfl) (by cases c <;> rfl) (by cases c <;> rfl) (by cases c <;> rfl) (by cases c <;> rfl)
    | head b => exact .of_setBoom rfl rfl rfl rfl
  monitor {s} n m _ h := k.keeps (s := s) (t := s.setMonitorAt n m) (.of_rest rfl rfl rfl rfl rfl) h
  moveFeed {s} b pos _ h := by
    have hm : Keeps s (s.setMotion b { s.motion b with feedPos := pos }) := .of_setBoom rfl rfl rfl rfl
    exact k.keeps (hm.trans (t := _) (u := s.moveFeed b pos) (.of_rest rfl rfl rfl rfl rfl)) h
  beginScan {s} h := k.keeps (s := s) (t := s.beginScan) (.of_rest rfl rfl rfl rfl rfl) h
  sensing b x _ h := k.keeps (.of_setBoom rfl rfl rfl rfl) h
  pairMark p x _ _ _ _ h := k.keeps (.of_flow (.of_setPair _ p x)) h
  deadEnd p h := k.keeps ((Keeps.of_flow (.of_setPair _ p _)).trans (.of_settlePair _ p)) h
  presence b x h := k.keeps ((Keeps.of_setSwitch _ (.prs b) x).trans (.of_settleBoom _ b)) h
  tripSet {s} h := k.keeps ((Keeps.of_rest (s := s) (t := { s with trip := true }) rfl rfl rfl rfl rfl).trans (.of_settleAll _)) h
  tripClear {s} h := k.keeps ((Keeps.of_rest (s := s) (t := { s with trip := false }) rfl rfl rfl rfl rfl).trans (.of_settleAll _)) h
  canopyGoto := k.canopyGoto
  canopyLoss := k.canopyLoss
  powerOn := k.powerOn
  warmReset := k.warmReset
  tickTimers h := k.keeps (.of_tickTimers _) h

end CycleKept

/-! ## A warm reset -/

/-- A boom without a job, with its engine in IDLE and without a record. -/
structure BoomState.Vacant (x : BoomState) : Prop where
  queue : x.queue = []
  active : x.active = none
  record : x.engine.record = none
  state : x.engine.state = .idle

/-- R17, R55: both booms are reset. -/
theorem State.warmBooms_vacant (s : State) (b : BoomId) : (((s.warmBoom .A).warmBoom .B).boom b).Vacant := by
  cases b <;> exact ⟨rfl, rfl, rfl, rfl⟩

theorem Keeps.of_restartSensing (s : State) (b : BoomId) : Keeps s (s.restartSensing b) := .of_setBoom rfl rfl rfl rfl

theorem Keeps.of_warmBus (s : State) : Keeps s s.warmBus := .of_same (.of_bus s s.warmBus.bus)

/-- R17, R55, R193, R206: after a warm reset no boom has a job, every engine is in IDLE without a record, and no boom waits for
room. -/
theorem State.warmReset_empty (s : State) :
    s.warmReset.plans = s.plans ∧ s.warmReset.store.room = [] ∧
      ∀ b, (s.warmReset.boom b).queue = [] ∧ (s.warmReset.boom b).active = none ∧ (s.warmReset.engine b).record = none ∧
        (s.warmReset.engine b).state = .idle := by
  have h1 : Keeps s (allPairs.foldl State.releasePair s) := by
    have off : ∀ (ps : List PairId) (u : State), Keeps u (ps.foldl State.releasePair u) := fun ps => by
      induction ps with
      | nil => exact .refl
      | cons p ps ih => exact fun u => (Keeps.of_flow (.of_request u p _)).trans (ih _)
    exact off allPairs s
  have h2 := ((Keeps.of_warmBus (((allPairs.foldl State.releasePair s).warmBoom .A).warmBoom .B)).trans (.of_restartSensing _ .A)).trans (.of_restartSensing _ .B)
  have hv := (allPairs.foldl State.releasePair s).warmBooms_vacant
  have hp : (((allPairs.foldl State.releasePair s).warmBoom .A).warmBoom .B).plans = s.plans :=
    Eq.trans (by simp [State.warmBoom]) h1.plans
  unfold State.warmReset
  dsimp only
  generalize ((allPairs.foldl State.releasePair s).warmBoom .A).warmBoom .B = v at h2 hv hp
  generalize (v.warmBus.restartSensing .A).restartSensing .B = u at h2
  refine ⟨h2.plans.trans hp, rfl, fun b => ?_⟩
  have hr := (h2.record b).trans (by rw [show (v.engine b).record = none from (hv b).record])
  rw [Option.isSome_none, Option.isSome_eq_false_iff, Option.isNone_iff_eq_none] at hr
  have hq := (h2.queue b).trans (hv b).queue
  have ha := (h2.active b).trans (hv b).active
  have hs := (h2.state b).trans (hv b).state
  cases b <;> exact ⟨hq, ha, hr, hs⟩

/-! ## Engaged under the canopy (R97) -/

theorem EngagedUnderCanopy.of_set {s : State} (h : s.canopy.state = .set) : EngagedUnderCanopy s := fun _ _ => h

theorem EngagedUnderCanopy.of_idle {s : State} (h : ∀ b, (s.engine b).state.engaged = false) : EngagedUnderCanopy s :=
  fun b hb => absurd hb (by simp [h b])

/-- No engine becomes engaged. -/
theorem EngagedUnderCanopy.of_engaged {s t : State} (h : EngagedUnderCanopy s) (hc : t.canopy.state = s.canopy.state)
    (he : ∀ b, (t.engine b).state.engaged = true → (s.engine b).state.engaged = true) : EngagedUnderCanopy t :=
  fun b hb => hc.trans (h b (he b hb))

theorem AwaitsJob.not_engaged {s : State} {b : BoomId} (h : AwaitsJob s b) : (s.engine b).state.engaged = false := by
  rcases h with h | h | h <;> rw [h] <;> rfl

/-- FILING and FAULTED are no engaged states. -/
theorem closing_not_engaged {st : EngineState} (h : st = .filing ∨ st = .faulted) : st.engaged = false := by
  rcases h with rfl | rfl <;> rfl

/-- R187, R188: an offer leaves the engine of the boom not engaged, and the other's state as it was. -/
theorem State.offer_states {u : State} {b : BoomId} (h : (u.engine b).state = .filing ∨ (u.engine b).state = .faulted) :
    (u.offer b).canopy.state = u.canopy.state ∧ ((u.offer b).engine b).state.engaged = false ∧
      ∀ c, c ≠ b → ((u.offer b).engine c).state = (u.engine c).state := by
  rcases u.offer_cases b with ⟨-, k⟩ | ⟨-, k⟩ | ⟨v, k, hv⟩
  · refine ⟨k.canopy, ?_, k.other⟩
    have hch := k.choice
    split at hch
    · exact hch.not_engaged
    · rw [hch]
      exact closing_not_engaged h
  · exact ⟨k.canopy, by rw [k.state]; exact closing_not_engaged h, fun c _ => k.state c⟩
  · rw [hv]
    exact ⟨k.canopy, (congrArg _ (k.state b)).trans (closing_not_engaged h), fun c _ => k.state c⟩

/-- A held boom does not become engaged by a hold cause, nor an engaged one stay so. -/
theorem State.holdCause_not_engaged (s : State) (b : BoomId) (c : HoldCause) :
    ((s.holdCause b c).engine b).state.engaged = false := by
  unfold State.holdCause
  dsimp only
  split
  · unfold State.enterHold
    dsimp only
    rw [State.raise_engine, (FlowEffect.of_noFlow _ b).engine_state]
    simp [EngineState.engaged]
  · rename_i h
    split
    · simpa using h
    · simpa using h

theorem EngagedUnderCanopy.of_filed {s t : State} {b : BoomId} (h : EngagedUnderCanopy s) (k : FiledFrom b s t) :
    EngagedUnderCanopy t := by
  refine h.of_engaged k.canopy (fun c hc => ?_)
  by_cases hcb : c = b
  · subst hcb
    have hch := k.choice
    split at hch
    · rw [hch.not_engaged] at hc
      cases hc
    · rwa [hch] at hc
  · rwa [k.other c hcb] at hc

theorem engagedUnderCanopy_acts {s t : State} {b : BoomId} (ha : Acts b s t) (h : EngagedUnderCanopy s) :
    EngagedUnderCanopy t := by
  cases ha with
  | works he k => exact .of_set (k.canopy.trans (h b he))
  | keeps k => exact h.of_engaged k.canopy (fun c hc => by rwa [k.state] at hc)
  | rests _ k r =>
    refine h.of_engaged k.canopy (fun c hc => ?_)
    by_cases hcb : c = b
    · rw [hcb, r.not_engaged] at hc
      cases hc
    · rwa [k.other c hcb] at hc
  | ended _ k =>
    obtain ⟨u, ku, hu, rfl⟩ := k
    obtain ⟨hcan, hb, ho⟩ := State.offer_states hu
    refine h.of_engaged (hcan.trans ku.canopy) (fun c hc => ?_)
    by_cases hcb : c = b
    · rw [hcb, hb] at hc
      cases hc
    · rwa [ho c hcb, ku.other c hcb] at hc

theorem engagedUnderCanopy_kept : CycleKept EngagedUnderCanopy where
  keeps k h := engagedUnderCanopy_acts (b := .A) (.keeps k) h
  acts := engagedUnderCanopy_acts
  startJob {s} b j rest _ hc _ _ := by
    refine .of_set ?_
    unfold State.startJob
    dsimp only
    rw [(FlowEffect.of_beginFlow _ b _).canopy_state]
    simpa using (Keeps.of_dropJog s b).canopy.trans hc
  resume {s} b hs hc _ := by
    refine .of_set ?_
    rcases Goes.of_resume (s := s) (b := b) (.inr hs) with k | ⟨u, ku, hu, he⟩
    · exact k.canopy.trans hc
    · rw [he]
      exact ((State.offer_states hu).1.trans ku.canopy).trans hc
  faultCleared {s} b _ _ h := by
    have k : Onward b s (s.choose b) := .of_goto s b _ _
    refine h.of_engaged k.canopy (fun c hc => ?_)
    by_cases hcb : c = b
    · rw [hcb, (AwaitsJob.of_choose s b).not_engaged] at hc
      cases hc
    · rwa [k.other c hcb] at hc
  insertPlan _ _ h := h
  dropPlan _ _ h := h
  appendJob {s} b j _ h := by
    have hq : EngagedUnderCanopy (s.setQueue b ((s.boom b).queue ++ [j])) := fun c hc => by
      simpa using h c (by simpa using hc)
    refine property_ite (P := EngagedUnderCanopy) ?_ hq
    refine hq.of_engaged (Onward.of_goto _ b _ _).canopy (fun c hc => ?_)
    by_cases hcb : c = b
    · rw [hcb, State.goto_state] at hc
      cases hc
    · rwa [(Onward.of_goto _ b _ _).other c hcb] at hc
  cancelJob {s} b tag h := by
    have hq : EngagedUnderCanopy (s.setQueue b ((s.boom b).queue.filter (fun j => j.tag != tag))) := fun c hc => by
      simpa using h c (by simpa using hc)
    refine property_ite (P := EngagedUnderCanopy) ?_ hq
    refine hq.of_engaged (Onward.of_goto _ b _ _).canopy (fun c hc => ?_)
    by_cases hcb : c = b
    · rw [hcb, State.goto_state] at hc
      cases hc
    · rwa [(Onward.of_goto _ b _ _).other c hcb] at hc
  release {s} _ h := by
    unfold State.release
    dsimp only
    split
    · exact h
    · rename_i b rest _
      -- the release itself moves no engine; the filing of the room queue's head engages none
      have h1 : EngagedUnderCanopy
          { s with store := { { s.store with records := s.store.records.drop 1 } with room := rest } } := h
      cases hr : (s.engine b).record with
      | none =>
        unfold State.file
        rw [show State.engine _ b = s.engine b from by cases b <;> rfl, hr]
        exact h1
      | some r =>
        exact h1.of_filed (.of_file (by
          rw [show State.engine _ b = s.engine b from by cases b <;> rfl, hr]
          rfl))
  canopyGoto {s} st f hs h := by
    rcases hs with rfl | hs | hs
    · exact .of_set rfl
    · exact fun b hb => absurd (h b hb) hs
    · exact .of_idle hs
  canopyLoss {s} _ := by
    refine .of_idle fun b => ?_
    unfold State.canopyLoss State.holdBooms
    cases b
    · rw [show (State.engine _ BoomId.A).state = _ from (EngineMoves.of_holdCause _ .B .canopy).otherState]
      exact State.holdCause_not_engaged _ .A _
    · exact State.holdCause_not_engaged _ .B _
  powerOn {s} x y _ := .of_idle fun b => by cases b <;> rfl
  warmReset {s} _ := .of_idle fun b => by rw [(s.warmReset_empty.2.2 b).2.2.2]; rfl

/-- Settles O56: every event of an engine against the canopy's state. -/
theorem stepKeepsBoomsUnderCanopy : Obligations.StepKeepsBoomsUnderCanopy := by
  unfold Obligations.StepKeepsBoomsUnderCanopy
  exact fun _ _ h hs => engagedUnderCanopy_kept.stepKept.step h hs

end Sys2Proof.Machine
end

section
/-! PROOF. The plan table, the queues, the active places and the records stay consistent (O58). -/
namespace Sys2Proof.Machine

/-! ## One boom's queue and place -/

/-- R12: boom `b`'s queue is at most four deep, no two of its jobs share a tag, and the plans its jobs name are stored. -/
def QueueOk (s : State) (b : BoomId) : Prop :=
  (s.boom b).queue.length ≤ 4 ∧ ((s.boom b).jobs.map (·.tag)).Nodup ∧
    ∀ j ∈ (s.boom b).jobs, (findPlan s.plans j.planId).isSome = true

/-- R16, R20, R187, R188: boom `b`'s active place, record, engine state and place in the room queue agree. -/
def PlaceOk (s : State) (b : BoomId) : Prop :=
  (s.boom b).active.isSome = (s.engine b).record.isSome ∧
    ((s.engine b).state.engaged = true ∨ (s.engine b).state = .hold ∨ (s.engine b).state = .filing →
      (s.engine b).record.isSome = true) ∧
    (b ∈ s.store.room ↔
      ((s.engine b).state = .filing ∨ (s.engine b).state = .faulted) ∧ (s.engine b).record.isSome = true)

theorem jobsOk_iff (s : State) : JobsOk s ↔
    s.plans.Pairwise (fun p q => p.id < q.id) ∧ s.plans.length ≤ 16 ∧ (∀ b, QueueOk s b) ∧ s.store.room.Nodup ∧
      ∀ b, PlaceOk s b := Iff.rfl

section
variable {s t : State} {b : BoomId}

/-- The jobs of a boom that lost some, with the same plans. -/
theorem QueueOk.sublist (h : QueueOk s b) (hp : t.plans = s.plans) (hq : (t.boom b).queue.length ≤ (s.boom b).queue.length)
    (hj : (t.boom b).jobs.Sublist (s.boom b).jobs) : QueueOk t b := by
  obtain ⟨hl, hn, hf⟩ := h
  exact ⟨hq.trans hl, (hj.map _).nodup hn, fun j hm => by rw [hp]; exact hf j (hj.subset hm)⟩

theorem PlaceOk.congr (h : PlaceOk s b) (ha : (t.boom b).active.isSome = (s.boom b).active.isSome)
    (hr : (t.engine b).record.isSome = (s.engine b).record.isSome) (hs : (t.engine b).state = (s.engine b).state)
    (hm : b ∈ t.store.room ↔ b ∈ s.store.room) : PlaceOk t b := by
  unfold PlaceOk
  rw [ha, hr, hs, hm]
  exact h

theorem PlaceOk.record_of_work (h : PlaceOk s b) (hw : AtWork s b) : (s.engine b).record.isSome = true :=
  h.2.1 (hw.elim .inl (fun k => .inr (.inl k)))

theorem AtWork.not_closing (h : AtWork s b) : (s.engine b).state ≠ .filing ∧ (s.engine b).state ≠ .faulted := by
  rcases h with h | h
  · constructor <;> (intro k; rw [k] at h; cases h)
  · constructor <;> (rw [h]; decide)

theorem AwaitsJob.not_closing (h : AwaitsJob s b) : (s.engine b).state ≠ .filing ∧ (s.engine b).state ≠ .faulted := by
  rcases h with h | h | h <;> constructor <;> (rw [h]; decide)

theorem PlaceOk.not_mem (h : PlaceOk s b) (hs : (s.engine b).state ≠ .filing ∧ (s.engine b).state ≠ .faulted) :
    b ∉ s.store.room := fun hm => (h.2.2.1 hm).1.elim hs.1 hs.2

/-- A boom at work has a job and a record, and does not wait for room. -/
theorem PlaceOk.of_work (hw : AtWork t b) (ha : (t.boom b).active.isSome = true) (hr : (t.engine b).record.isSome = true)
    (hm : b ∉ t.store.room) : PlaceOk t b :=
  ⟨ha.trans hr.symm, fun _ => hr, fun k => absurd k hm, fun k => (k.1.elim hw.not_closing.1 hw.not_closing.2).elim⟩

/-- A boom that waits for a job does not wait for room. -/
theorem PlaceOk.of_awaits (hw : AwaitsJob t b) (ha : (t.boom b).active.isSome = (t.engine b).record.isSome)
    (hm : b ∉ t.store.room) : PlaceOk t b := by
  refine ⟨ha, fun hs => ?_, fun k => absurd k hm, fun k => (k.1.elim hw.not_closing.1 hw.not_closing.2).elim⟩
  rcases hw with h | h | h <;> rw [h] at hs <;> simp [EngineState.engaged] at hs

/-- A boom whose record has been filed from FILING or FAULTED. -/
theorem PlaceOk.of_filed (k : FiledFrom b s t) (hs : (s.engine b).state = .filing ∨ (s.engine b).state = .faulted)
    (hm : b ∉ t.store.room) : PlaceOk t b := by
  have ha := k.active b
  have hr := k.record b
  rw [if_pos rfl] at ha hr
  have hch := k.choice
  split at hch
  · exact .of_awaits hch (by rw [ha, hr]; rfl) hm
  · have hf : (t.engine b).state = .faulted := hch.trans (hs.resolve_left ‹_›)
    refine ⟨by rw [ha, hr]; rfl, fun h => ?_, fun h => absurd h hm, fun h => ?_⟩
    · rw [hf] at h
      simp [EngineState.engaged] at h
    · rw [hr] at h
      simp at h

end

/-! ## The whole invariant -/

section
variable {s t : State} {b : BoomId}

/-- The plans are as before, and jobs have only gone. -/
theorem JobsOk.of_places (h : JobsOk s) (hp : t.plans = s.plans)
    (hq : ∀ c, (t.boom c).queue.length ≤ (s.boom c).queue.length ∧ (t.boom c).jobs.Sublist (s.boom c).jobs)
    (hn : t.store.room.Nodup) (hpl : ∀ c, PlaceOk t c) : JobsOk t := by
  obtain ⟨h1, h2, h3, -, -⟩ := h
  refine ⟨?_, ?_, fun c => (show QueueOk s c from h3 c).sublist hp (hq c).1 (hq c).2, hn, hpl⟩ <;> rw [hp] <;> assumption

theorem JobFrame.jobs (h : JobFrame s t) (c : BoomId) :
    (t.boom c).queue.length ≤ (s.boom c).queue.length ∧ (t.boom c).jobs.Sublist (s.boom c).jobs := by
  unfold BoomState.jobs
  rw [h.queue, h.active]
  exact ⟨Nat.le_refl _, List.Sublist.refl _⟩

/-- Boom `b`'s engine alone has moved. -/
theorem JobsOk.of_onward (h : JobsOk s) (k : Onward b s t) (hb : PlaceOk t b) : JobsOk t := by
  obtain ⟨-, -, -, hn, hpl⟩ := (jobsOk_iff s).1 h
  refine h.of_places k.plans k.jobs (by rw [k.store]; exact hn) (fun c => ?_)
  by_cases hc : c = b
  · exact hc ▸ hb
  · exact (hpl c).congr (by rw [k.active]) (k.record c) (k.other c hc) (by rw [k.store])

theorem JobsOk.of_keeps (h : JobsOk s) (k : Keeps s t) : JobsOk t :=
  h.of_onward (k.onward .A) (PlaceOk.congr (h.2.2.2.2 .A) (by rw [k.active]) (k.record _) (k.state _) (by rw [k.store]))

theorem JobsOk.of_works (h : JobsOk s) (hw : AtWork s b) (k : Works b s t) : JobsOk t := by
  have hb : PlaceOk s b := h.2.2.2.2 b
  have hr := hb.record_of_work hw
  exact h.of_onward k.toOnward
    (.of_work k.work (by rw [k.active, hb.1, hr]) ((k.record b).trans hr) (by rw [k.store]; exact hb.not_mem hw.not_closing))

theorem JobsOk.of_awaits (h : JobsOk s) (hs : (s.engine b).state ≠ .filing ∧ (s.engine b).state ≠ .faulted ∨
    (s.engine b).record = none) (k : Onward b s t) (hr : AwaitsJob t b) : JobsOk t := by
  have hb : PlaceOk s b := h.2.2.2.2 b
  refine h.of_onward k (.of_awaits hr (by rw [k.active, k.record]; exact hb.1) ?_)
  rw [k.store]
  rcases hs with hs | hs
  · exact hb.not_mem hs
  · exact fun hm => by simpa [hs] using (hb.2.2.1 hm).2

/-- A record filed from FILING or FAULTED, with the other boom's place in the room queue as it was: the boom's job is over. -/
theorem JobsOk.of_filed {st : RecordStore} {u : State} (h : JobsOk s) (ku : Onward b { s with store := st } u)
    (hs : (u.engine b).state = .filing ∨ (u.engine b).state = .faulted) (hn : st.room.Nodup) (hm : b ∉ st.room)
    (ho : ∀ c, c ≠ b → (c ∈ st.room ↔ c ∈ s.store.room)) (k : FiledFrom b u t) : JobsOk t := by
  have hroom : t.store.room = st.room := k.room.trans (congrArg RecordStore.room ku.store)
  refine h.of_places (k.plans.trans ku.plans) (fun c => ⟨?_, ?_⟩) (by rw [hroom]; exact hn) (fun c => ?_)
  · rw [k.queue, ku.queue]
    exact Nat.le_refl _
  · unfold BoomState.jobs
    rw [k.queue, k.active, ku.queue, ku.active]
    split
    · exact List.sublist_append_right _ _
    · exact List.Sublist.refl _
  · by_cases hc : c = b
    · subst hc
      exact .of_filed k hs (by rwa [hroom])
    · have hp : PlaceOk s c := h.2.2.2.2 c
      refine hp.congr ?_ ?_ ((k.other c hc).trans (ku.other c hc)) (by rw [hroom]; exact ho c hc)
      · rw [k.active, if_neg hc, ku.active]
        rfl
      · rw [k.record, if_neg hc, ku.record]
        rfl

/-- R187, R188: out of its work, a boom's engine offers its record. -/
theorem JobsOk.of_ended (h : JobsOk s) (hw : AtWork s b) (k : Ended b s t) : JobsOk t := by
  obtain ⟨u, ku, hu, rfl⟩ := k
  have hb : PlaceOk s b := h.2.2.2.2 b
  have hm := hb.not_mem hw.not_closing
  have hr := (ku.record b).trans (hb.record_of_work hw)
  have hn : s.store.room.Nodup := h.2.2.2.1
  rcases u.offer_cases b with ⟨-, k⟩ | ⟨hnone, -⟩ | ⟨v, k, hv⟩
  · exact h.of_filed ku hu hn hm (fun _ _ => Iff.rfl) k
  · rw [hr] at hnone
    cases hnone
  · -- the store is full: the boom joins the room queue
    have kv : Onward b s v := ku.keeps k
    have hroom : v.store.room = s.store.room := congrArg RecordStore.room kv.store
    rw [hv]
    refine h.of_places kv.plans (fun c => ?_) ?_ (fun c => ?_)
    · have hj := kv.jobs c
      cases c <;> exact hj
    · show (v.store.room ++ [b]).Nodup
      rw [hroom]
      exact List.nodup_append.2 ⟨hn, by simp, fun x hx y hy => by rintro rfl; exact hm (List.mem_singleton.1 hy ▸ hx)⟩
    · have hst := (k.state b).symm ▸ hu
      by_cases hc : c = b
      · subst hc
        have hrec := (kv.record c).trans (hb.record_of_work hw)
        have hact : (v.boom c).active.isSome = true := by rw [kv.active, hb.1, hb.record_of_work hw]
        have hP : (v.boom c).active.isSome = (v.engine c).record.isSome ∧
            ((v.engine c).state.engaged = true ∨ (v.engine c).state = .hold ∨ (v.engine c).state = .filing →
              (v.engine c).record.isSome = true) ∧
            (c ∈ v.store.room ++ [c] ↔
              ((v.engine c).state = .filing ∨ (v.engine c).state = .faulted) ∧ (v.engine c).record.isSome = true) :=
          ⟨hact.trans hrec.symm, fun _ => hrec, fun _ => ⟨by rw [k.state]; exact hu, hrec⟩, fun _ => by simp⟩
        cases c <;> exact hP
      · have hp : PlaceOk s c := h.2.2.2.2 c
        have hmem : c ∈ v.store.room ++ [b] ↔ c ∈ s.store.room := by simp [hroom, hc]
        have ha := congrArg Option.isSome (kv.active c)
        have hrec := kv.record c
        have hstate := kv.other c hc
        cases c <;> exact hp.congr ha hrec hstate hmem

theorem jobsOk_acts (ha : Acts b s t) (h : JobsOk s) : JobsOk t := by
  cases ha with
  | works he k => exact h.of_works (.inl he) k
  | ended hw k => exact h.of_ended hw k
  | keeps k => exact h.of_keeps k
  | rests hs k hr => exact h.of_awaits (.inl hs.not_closing) k hr

end

/-! ## The plan table -/

theorem insertPlan_length_le (p : HolePlan) (ps : List HolePlan) : (insertPlan p ps).length ≤ ps.length + 1 := by
  induction ps with
  | nil => simp [insertPlan]
  | cons x xs ih =>
    unfold insertPlan
    split_ifs <;> simp only [List.length_cons] at * <;> omega

/-- R4: a plan that is stored already is replaced. -/
theorem insertPlan_length_of_found (p : HolePlan) {ps : List HolePlan} (h : ps.Pairwise (fun x y => x.id < y.id))
    (hf : (findPlan ps p.id).isSome = true) : (insertPlan p ps).length = ps.length := by
  induction ps with
  | nil => simp [findPlan] at hf
  | cons x xs ih =>
    obtain ⟨hx, hs⟩ := List.pairwise_cons.1 h
    unfold insertPlan
    split_ifs with hlt heq
    · -- every stored id lies above that of `p`
      unfold findPlan at hf
      rw [List.find?_isSome] at hf
      obtain ⟨y, hy, hid⟩ := hf
      rw [beq_iff_eq] at hid
      rcases List.mem_cons.1 hy with rfl | hy
      · omega
      · have := hx y hy
        omega
    · simp
    · have : (findPlan xs p.id).isSome = true := by
        have hne : (x.id == p.id) = false := by simpa using Ne.symm heq
        simpa [findPlan, List.find?_cons, hne] using hf
      simp [ih hs this]

theorem JobsOk.insertPlan {s : State} (h : JobsOk s) (p : HolePlan)
    (hp : (findPlan s.plans p.id).isSome = true ∨ s.plans.length < 16) :
    JobsOk { s with plans := insertPlan p s.plans } := by
  obtain ⟨hs, hl, hq, hn, hpl⟩ := h
  refine ⟨(insertPlan_sorted p _ hs).1, ?_, fun b => ?_, hn, fun b => ?_⟩
  · rcases hp with hp | hp
    · exact (insertPlan_length_of_found p hs hp).le.trans hl
    · have := insertPlan_length_le p s.plans
      show (Machine.insertPlan p s.plans).length ≤ 16
      omega
  · obtain ⟨h1, h2, h3⟩ := hq b
    have hf : ∀ j ∈ (s.boom b).jobs, (findPlan (Machine.insertPlan p s.plans) j.planId).isSome = true := fun j hj => by
      by_cases hid : j.planId = p.id
      · rw [hid, findPlan_insertPlan_self]
        rfl
      · rw [findPlan_insertPlan_of_ne p _ hid]
        exact h3 j hj
    cases b <;> exact ⟨h1, h2, hf⟩
  · have := hpl b
    cases b <;> exact this

/-- R6: a plan that no job names may go. -/
theorem JobsOk.dropPlan {s : State} (h : JobsOk s) {id : Nat} (hid : s.refs id = 0) :
    JobsOk { s with plans := dropPlan id s.plans } := by
  obtain ⟨hs, hl, hq, hn, hpl⟩ := h
  refine ⟨dropPlan_sorted hs id, (List.length_filter_le _ _).trans hl, fun b => ?_, hn, fun b => ?_⟩
  · obtain ⟨h1, h2, h3⟩ := hq b
    have hf : ∀ j ∈ (s.boom b).jobs, (findPlan (Machine.dropPlan id s.plans) j.planId).isSome = true := fun j hj => by
      have hne : j.planId ≠ id := by
        unfold State.refs at hid
        rw [List.length_eq_zero_iff, List.filter_eq_nil_iff] at hid
        have hmem : j ∈ s.boomA.jobs ++ s.boomB.jobs := by
          cases b
          · exact List.mem_append_left _ hj
          · exact List.mem_append_right _ hj
        simpa using hid j hmem
      rw [findPlan_dropPlan, if_neg hne]
      exact h3 j hj
    cases b <;> exact ⟨h1, h2, hf⟩
  · have := hpl b
    cases b <;> exact this

/-! ## The queues -/

theorem State.setQueue_place (s : State) (b c : BoomId) (q : List Job) :
    PlaceOk (s.setQueue b q) c ↔ PlaceOk s c := by
  cases b <;> cases c <;> exact Iff.rfl

/-- R13: a job that passes the checks joins the tail. -/
theorem JobsOk.enqueue {s : State} {b : BoomId} {j : Job} (h : JobsOk s) (hj : s.jobRefusal b j = none) :
    JobsOk (s.setQueue b ((s.boom b).queue ++ [j])) := by
  obtain ⟨hs, hl, hq, hn, hpl⟩ := (jobsOk_iff s).1 h
  have hplan : (findPlan s.plans j.planId).isSome = true ∧ (s.boom b).queue.length < 4 ∧ ∀ x ∈ (s.boom b).jobs, x.tag ≠ j.tag := by
    unfold State.jobRefusal at hj
    split at hj
    · cases hj
    · split at hj
      · cases hj
      · rename_i p hp
        split_ifs at hj with hfull hdup
        refine ⟨by rw [hp]; rfl, by simpa [Config.queueCapacity] using hfull, ?_⟩
        simpa using hdup
  obtain ⟨hfound, hroom, htag⟩ := hplan
  refine (jobsOk_iff _).2 ⟨by simpa using hs, by simpa using hl, fun c => ?_, by simpa using hn, fun c => ?_⟩
  · by_cases hc : c = b
    · subst hc
      obtain ⟨h1, h2, h3⟩ := hq c
      have hjobs : ((s.setQueue c ((s.boom c).queue ++ [j])).boom c).jobs = (s.boom c).jobs ++ [j] := by
        simp [State.setQueue_boom, BoomState.jobs]
      refine ⟨by simp [State.setQueue_boom]; omega, ?_, fun x hx => ?_⟩
      · rw [hjobs, List.map_append, List.map_singleton]
        refine List.nodup_append.2 ⟨h2, by simp, fun x hx y hy => ?_⟩
        obtain ⟨z, hz, rfl⟩ := List.mem_map.1 hx
        rw [List.mem_singleton.1 hy]
        exact htag z hz
      · rw [hjobs] at hx
        rw [State.setQueue_plans]
        rcases List.mem_append.1 hx with hx | hx
        · exact h3 x hx
        · rw [List.mem_singleton.1 hx]
          exact hfound
    · have := hq c
      unfold QueueOk at *
      rwa [State.setQueue_boom, if_neg hc, State.setQueue_plans]
  · rw [State.setQueue_place]
    exact hpl c

/-- R14: jobs leave a queue. -/
theorem JobsOk.dequeue {s : State} {b : BoomId} {q : List Job} (h : JobsOk s) (hq : q.Sublist (s.boom b).queue) :
    JobsOk (s.setQueue b q) := by
  obtain ⟨-, -, -, hn, hpl⟩ := (jobsOk_iff s).1 h
  refine h.of_places (by simp) (fun c => ?_) (by simpa using hn) (fun c => (State.setQueue_place s b c q).2 (hpl c))
  rw [State.setQueue_boom]
  split
  · rename_i hc
    subst hc
    exact ⟨hq.length_le, (List.Sublist.refl _).append hq⟩
  · exact ⟨Nat.le_refl _, List.Sublist.refl _⟩

/-- R16, R20: the oldest job takes the active place, and the engine at work has its record. -/
theorem JobsOk.placeJob {s : State} {b : BoomId} {j : Job} {rest : List Job} {e : Engine} (h : JobsOk s)
    (hs : (s.engine b).state = .ready ∨ (s.engine b).state = .parked) (hq : (s.boom b).queue = j :: rest)
    (hw : e.state.engaged = true) (hr : e.record.isSome = true) :
    JobsOk (((s.setQueue b rest).setActive b (some j)).setEngine b e) := by
  obtain ⟨-, -, -, hn, hpl⟩ := (jobsOk_iff s).1 h
  refine h.of_places (by simp) (fun c => ?_) (by simpa using hn) (fun c => ?_)
  · by_cases hc : c = b
    · subst hc
      simp only [State.setEngine_boom, State.setActive_boom, State.setQueue_boom, if_pos, BoomState.jobs, hq]
      exact ⟨Nat.le_succ _, List.sublist_append_right _ _⟩
    · simp only [State.setEngine_boom, State.setActive_boom, State.setQueue_boom, if_neg hc]
      exact ⟨Nat.le_refl _, List.Sublist.refl _⟩
  · by_cases hc : c = b
    · subst hc
      refine .of_work (.inl (by simpa using hw)) (by cases c <;> rfl) (by simpa using hr) ?_
      have := (hpl c).not_mem (AwaitsJob.not_closing (.inr hs))
      simpa using this
    · exact (hpl c).congr (by simp [hc]) (by simp [hc]) (by simp [hc]) (by simp)

/-- R16, R20: the oldest job starts. -/
theorem JobsOk.startJob {s : State} {b : BoomId} {j : Job} {rest : List Job} (h : JobsOk s)
    (hs : (s.engine b).state = .ready ∨ (s.engine b).state = .parked) (hq : (s.boom b).queue = j :: rest) :
    JobsOk (s.startJob b j rest) := by
  have kd := Keeps.of_dropJog s b
  unfold State.startJob
  dsimp only
  refine JobsOk.of_keeps (JobsOk.of_keeps ?_ (.of_setLogger _ b _)) (.of_flow (.of_beginFlow _ b _))
  exact (h.of_keeps kd).placeJob (by rw [kd.state]; exact hs) ((kd.queue b).trans hq) rfl rfl

theorem jobsOk_kept : CycleKept JobsOk where
  keeps k h := h.of_keeps k
  acts := jobsOk_acts
  startJob b j rest hs _ hq h := h.startJob hs hq
  resume b hs _ h := (Goes.of_resume (.inr hs)).elim (h.of_works (.inr hs)) (h.of_ended (.inr hs))
  faultCleared {s} b _ hr h := h.of_awaits (.inr hr) (.of_goto s b _ _) (.of_choose s b)
  insertPlan p hp h := h.insertPlan p hp
  dropPlan _ hid h := h.dropPlan hid
  appendJob {s} b j hj h := by
    have hq := h.enqueue hj
    unfold State.appendJob
    dsimp only
    split
    · rename_i hi
      exact hq.of_awaits (.inl (by rw [State.setQueue_engine, hi]; decide)) (.of_goto _ b _ _) (.inr (.inl (by simp)))
    · exact hq
  cancelJob {s} b tag h := by
    have hq := h.dequeue (b := b) (List.filter_sublist (p := fun j => j.tag != tag))
    unfold State.cancelJob
    dsimp only
    split
    · rename_i hi
      exact hq.of_awaits (.inl (by rw [State.setQueue_engine, hi.2]; decide)) (.of_goto _ b _ _) (.inl (by simp))
    · exact hq
  release {s} _ h := by
    unfold State.release
    dsimp only
    split
    · exact h
    · rename_i b rest hroom
      obtain ⟨-, -, -, hn, hpl⟩ := (jobsOk_iff s).1 h
      rw [hroom, List.nodup_cons] at hn
      obtain ⟨hs, hr⟩ := (hpl b).2.2.1 (by rw [hroom]; exact List.mem_cons_self)
      have he : ∀ st : RecordStore, ({ s with store := st } : State).engine b = s.engine b := fun st => by cases b <;> rfl
      refine h.of_filed (b := b) ((Keeps.refl _).onward b) (by rw [he]; exact hs) hn.2 hn.1 (fun c hc => ?_)
        (.of_file (by rw [he]; exact hr))
      rw [hroom, List.mem_cons]
      exact ⟨.inr, fun h => h.resolve_left hc⟩
  canopyGoto {s} st f _ h := h
  canopyLoss {s} h := by
    have h1 : JobsOk (s.canopyGoto .lost .none) := h
    exact jobsOk_acts (.of_holdCause _ .B _) (jobsOk_acts (.of_holdCause _ .A _) (h1.of_keeps (.of_raise _ _)))
  powerOn {s} x y _ := by
    refine ⟨List.Pairwise.nil, Nat.zero_le _, fun b => ?_, List.nodup_nil, fun b => ?_⟩
    · cases b <;> exact ⟨Nat.zero_le _, List.nodup_nil, fun j hj => (by cases hj)⟩
    · have hp : PlaceOk (s.powerOn x y) b := .of_awaits (.inl (by cases b <;> rfl)) (by cases b <;> rfl)
        (by exact List.not_mem_nil)
      exact hp
  warmReset {s} h := by
    obtain ⟨hplans, hroom, hb⟩ := s.warmReset_empty
    refine h.of_places hplans (fun b => ?_) (by rw [hroom]; exact List.nodup_nil) (fun b => ?_)
    · obtain ⟨hq, ha, -, -⟩ := hb b
      unfold BoomState.jobs
      rw [hq, ha]
      exact ⟨Nat.zero_le _, List.nil_sublist _⟩
    · obtain ⟨-, ha, hr, hi⟩ := hb b
      exact .of_awaits (.inl hi) (by rw [ha, hr]; rfl) (by rw [hroom]; exact List.not_mem_nil)

/-- Settles O58: every event of a job's life, of the plan table and of the store. -/
theorem stepKeepsJobs : Obligations.StepKeepsJobs := by
  unfold Obligations.StepKeepsJobs
  exact fun _ _ h hs => jobsOk_kept.stepKept.step h hs

end Sys2Proof.Machine
end

section
/-! PROOF. A step takes the command at the front of the queue (O1), and the state after reset meets the invariants (O60). -/
namespace Sys2Proof.Machine

/-- Settles O1. -/
theorem stepRunsFrontCommand : Obligations.StepRunsFrontCommand := by
  unfold Obligations.StepRunsFrontCommand
  intro s c rest h
  unfold step
  rw [h]

/-- No gate of the reset state drives a coil. -/
theorem coilsOk_reset : CoilsOk State.reset := fun p => by
  rcases p with ⟨_ | _, _ | _ | _⟩ | _ <;> exact fun _ => rfl

theorem jobsOk_reset : JobsOk State.reset := by
  refine (jobsOk_iff _).2 ⟨List.Pairwise.nil, Nat.zero_le _, fun b => ?_, List.nodup_nil, fun b => ?_⟩
  · cases b <;> exact ⟨Nat.zero_le _, List.nodup_nil, fun j hj => (by cases hj)⟩
  · exact .of_awaits (.inl (by cases b <;> rfl)) (by cases b <;> rfl) List.not_mem_nil

theorem countsOk_reset : CountsOk State.reset :=
  ⟨fun c => by cases c <;> exact ⟨Nat.zero_le _, fun p hp => by cases hp⟩,
    fun b => by cases b <;> exact ⟨Nat.zero_le _, fun p hp => by cases hp⟩⟩

theorem rangesOk_reset : RangesOk State.reset := fun b => by
  cases b <;> exact ⟨Nat.zero_le _, Nat.zero_le _, fun x hx => (by cases hx), Nat.zero_le _⟩

/-- Settles O60: nothing is granted, engaged, driven or stored, and all counts are 0. -/
theorem resetMeetsInvariants : Obligations.ResetMeetsInvariants := by
  unfold Obligations.ResetMeetsInvariants
  have hlatch : LatchesOk State.reset :=
    ⟨rfl, fun m hm => by obtain ⟨-, rfl⟩ := List.mem_replicate.1 hm; exact LatchOk.of_normal rfl⟩
  exact ⟨⟨Nat.zero_le _, List.nodup_nil, fun r hr => (by cases hr)⟩,
    ⟨List.nodup_nil, fun r hr => (by cases hr), Nat.zero_le _, List.Pairwise.nil⟩,
    .of_idle fun b => (by cases b <;> rfl), coilsOk_reset, jobsOk_reset,
    ⟨Nat.zero_le _, fun i hi => absurd hi (Nat.not_lt_zero i)⟩, hlatch, fun b => (by cases b <;> rfl), countsOk_reset,
    rangesOk_reset⟩

end Sys2Proof.Machine
end

section
/-! PROOF. Time and the link: the timer event taken on an empty queue and the millisecond (O2). -/
namespace Sys2Proof.Machine

/-! ## The timer events that are due -/

/-- The first of a list of conditions that holds, as its command. -/
def firstOf (l : List (Bool × Instr)) : Option Instr := (l.find? (·.1)).map (·.2)

theorem firstOf_append (l m : List (Bool × Instr)) : firstOf (l ++ m) = (firstOf l).or (firstOf m) := by
  unfold firstOf
  rw [List.find?_append]
  cases l.find? (·.1) <;> rfl

theorem firstOf_flatten_cons (l : List (Bool × Instr)) (ls : List (List (Bool × Instr))) :
    firstOf (l :: ls).flatten = (firstOf l).or (firstOf ls.flatten) := by
  rw [List.flatten_cons, firstOf_append]

theorem firstOf_flatten_nil : firstOf ([] : List (List (Bool × Instr))).flatten = none := rfl

theorem dueIf_eq_firstOf (c : Bool) (i : Instr) : dueIf c i = firstOf [(c, i)] := by cases c <;> rfl

theorem firstDue_eq_firstOf {α : Type} (xs : List α) (due : α → Bool) (c : α → Instr) :
    firstDue xs due c = firstOf (xs.map fun x => (due x, c x)) := by
  unfold firstDue firstOf
  rw [List.find?_map, Option.map_map]
  rfl

theorem State.resetDue_eq (s : State) : s.resetDue = (s.link.resetStage == .due && s.cal.writing.isNone) := by
  unfold State.resetDue
  cases s.cal.writing <;> rfl

theorem State.pulseDue_eq (s : State) (b : BoomId) :
    s.pulseDue b = ((s.motion b).pickup.line && !(s.motion b).pickup.level &&
      (s.motion b).pickup.run.any (fun n => decide (s.cal.pulseQualify ≤ n))) := by
  unfold State.pulseDue Pickup.runs
  dsimp only
  cases (s.motion b).pickup.run <;> simp

theorem State.returnDue_eq (s : State) (b : BoomId) :
    s.returnDue b = (!(s.motion b).pickup.line && (s.motion b).pickup.level &&
      (s.motion b).pickup.run.any (fun n => decide (s.cal.pulseQualify ≤ n))) := by
  unfold State.returnDue Pickup.runs
  dsimp only
  cases (s.motion b).pickup.run <;> simp

/-- R121: a monitor is due while it counts with its count at 0. -/
theorem State.monitorDue_eq (s : State) (p : PairId) :
    s.monitorDue p = ((s.pair p).counting && (match (s.pair p).monitor with
        | .armed n _ _ => n == 0
        | .disarmed => false)) := by
  unfold State.monitorDue Pair.expires
  cases (s.pair p).monitor with
  | disarmed => simp
  | armed n r f => cases n <;> simp

theorem State.staleDue_eq (s : State) (b : BoomId) :
    s.staleDue b = (!(s.head b).stale &&
      ((s.head b).published.map (fun x => (s.now - x).toNat)).all (fun n => decide (s.cal.staleLimit < n))) := by
  unfold State.staleDue State.isStale
  cases (s.head b).published <;> rfl

/-- Log 2, log 35: the timer that comes first in the table of limits. -/
theorem State.dueRunning_eq (s : State) : s.dueRunning = ((timersDue s).find? (·.1)).map (·.2) := by
  show _ = firstOf (timersDue s)
  unfold timersDue State.dueRunning
  simp only [dueIf_eq_firstOf, firstDue_eq_firstOf, firstOf_flatten_cons, State.resetDue_eq, State.pulseDue_eq,
    State.returnDue_eq, State.monitorDue_eq, State.staleDue_eq, Option.orElse_eq_orElse, Option.orElse_eq_or, firstOf_flatten_nil,
    Option.or_none]
  rfl

/-! ## One millisecond -/

theorem State.tickTimers_switch (s : State) (i : SwitchId) :
    s.tickTimers.switch i = { s.switch i with run := (s.switch i).run.map (· + 1) } := by
  cases i with
  | estop => rfl
  | clow => rfl
  | prs b => cases b <;> rfl
  | home b => cases b <;> rfl
  | iend b => cases b <;> rfl
  | ihome b => cases b <;> rfl

theorem State.tickTimers_pair (s : State) (p : PairId) : s.tickTimers.pair p = (s.pair p).tick (s.cal.period p) := by
  rcases p with ⟨_ | _, _ | _ | _⟩ | _ <;> rfl

theorem State.tickTimers_boom (s : State) (b : BoomId) : s.tickTimers.boom b = s.tickBoom b := by cases b <;> rfl

/-- R109, R119: a millisecond of a pair moves its dead time, the monitor that counts, and the pulse period of a driven coil. -/
theorem Pair.tick_spec (p : Pair) (period : Nat) :
    p.tick period = { p with dead := p.dead - 1, monitor := (p.tick period).monitor, pulse := (p.tick period).pulse } ∧
      (∀ n r, p.counting = true → p.monitor = .armed n r false → (p.tick period).monitor = .armed (n - 1) r false) ∧
      (p.counting = false → (p.tick period).monitor = p.monitor) ∧
      (∀ d, p.coil = .driving d →
        (p.tick period).pulse =
          if p.pulse.elapsed + 1 < p.pulse.period then { p.pulse with elapsed := p.pulse.elapsed + 1 }
          else { duty := p.applied, period := period, elapsed := 0 }) ∧
      ((∀ d, p.coil ≠ .driving d) → (p.tick period).pulse = p.pulse) := by
  refine ⟨rfl, fun n r hc hm => ?_, fun hc => ?_, fun d hd => ?_, fun hn => ?_⟩
  · simp [Pair.tick, hm, hc]
  · unfold Pair.tick
    cases hm : p.monitor <;> simp [hc]
  · simp only [Pair.tick, hd]
    split_ifs <;> first | rfl | omega
  · unfold Pair.tick
    cases hc : p.coil with
    | driving d => exact absurd hc (hn d)
    | off => rfl
    | dead => rfl

/-- R124: what begins a scan changes the scan alone. -/
theorem State.scanStarts_scan (s : State) : ∃ x, s.scanStarts = { s with scan := x } := by
  unfold State.scanStarts
  split
  · exact ⟨_, rfl⟩
  · exact ⟨_, rfl⟩

/-- A millisecond of every timer that no boom, pair or switch has. -/
theorem State.tickTimers_eq (s : State) (x : Scan) :
    ({ s.tickTimers with scan := x } : State) =
      { s with
        now := s.now + 1
        scan := x
        link := { s.link with silence := if s.link.live = true ∧ s.link.timeout ≠ 0 then s.link.silence + 1 else s.link.silence }
        boomA := s.tickBoom .A
        boomB := s.tickBoom .B
        arb := { s.arb with waits := s.arb.waits.map (fun w => { w with wait := w.wait + 1 }) }
        canopy :=
          { s.canopy with
            lowerTimer :=
              if s.canopy.state = .lowering ∧ s.granted .canopy = true then s.canopy.lowerTimer + 1
              else s.canopy.lowerTimer }
        canopyPair := s.canopyPair.tick (s.cal.period .canopy)
        estop := s.estop.tick
        clow := s.clow.tick
        bus := { s.bus with pollTimer := s.bus.pollTimer - 1 }
        cal := { s.cal with writeTimer := if s.cal.writing ≠ none then s.cal.writeTimer + 1 else s.cal.writeTimer } } := by
  have hl : (s.link.live && s.link.timeout != 0) = true ↔ s.link.live = true ∧ s.link.timeout ≠ 0 := by simp
  have hc : s.lowerCounts = true ↔ s.canopy.state = .lowering ∧ s.granted .canopy = true := by simp [State.lowerCounts]
  have hw : s.cal.writing.isSome = true ↔ s.cal.writing ≠ none := Option.isSome_iff_ne_none
  unfold State.tickTimers Link.tick Arbiter.tick
  simp only [hl, hc, hw]

/-- A millisecond of a boom. -/
theorem State.tickBoom_spec (s : State) (b : BoomId) :
    s.tickTimers.boom b =
      { s.boom b with
        engine := s.tickTimers.engine b
        pairs := (s.tickTimers.boom b).pairs
        switches := (s.tickTimers.boom b).switches
        motion :=
          { s.motion b with pickup := { (s.motion b).pickup with run := (s.motion b).pickup.run.map (· + 10) } } } ∧
      s.tickTimers.engine b =
        { s.engine b with
          drillTimer :=
            if ((s.engine b).state = .collar ∨ (s.engine b).state = .drill) ∧ s.granted (.boom b) = true then
              (s.engine b).drillTimer + 1
            else (s.engine b).drillTimer
          torqueTimer :=
            if (s.engine b).state = .torque ∧ s.granted (.boom b) = true then (s.engine b).torqueTimer + 1
            else (s.engine b).torqueTimer
          resinClock :=
            if (s.engine b).resinRunning = true then min ((s.engine b).resinClock + 1) 1000000 else (s.engine b).resinClock
          jog := (s.engine b).jog.map (fun j => { j with left := j.left - 1 }) } := by
  have hd : s.drillCounts b = true ↔
      ((s.engine b).state = .collar ∨ (s.engine b).state = .drill) ∧ s.granted (.boom b) = true := by simp [State.drillCounts]
  have ht : s.torqueCounts b = true ↔ (s.engine b).state = .torque ∧ s.granted (.boom b) = true := by
    simp [State.torqueCounts]
  have he : s.tickTimers.engine b = (s.engine b).tick (s.drillCounts b) (s.torqueCounts b) :=
    congrArg BoomState.engine (s.tickTimers_boom b)
  refine ⟨?_, ?_⟩
  · unfold State.engine
    rw [s.tickTimers_boom b]
    rfl
  · rw [he]
    unfold Engine.tick
    simp only [hd, ht]

/-- Settles O2: the timers in the order of `timersDue`, and a millisecond field by field. -/
theorem emptyQueueTakesDueEventOrMillisecond : Obligations.EmptyQueueTakesDueEventOrMillisecond := by
  unfold Obligations.EmptyQueueTakesDueEventOrMillisecond
  intro s hq
  have hdue : ∀ c, s.due = some c → step s = exec c s := fun c h => by
    unfold step
    simp only [hq, h]
  have hnone : s.due = none → step s = .next s.tick := fun h => by
    unfold step
    simp only [hq, h]
  refine ⟨fun h => ?_, fun h => ?_, fun c h => ?_, fun h hl => ?_, fun h hr => ?_⟩
  · unfold State.due State.running
    rw [h]
    exact s.dueRunning_eq
  · unfold State.due State.running
    rw [h]
    by_cases hl : 20 ≤ s.loadTimer <;> simp [dueIf, loadLimit, hl]
  · exact hdue c h
  · rw [hnone h]
    unfold State.tick State.running
    rw [hl]
    rfl
  · have ht : s.tick = s.tickTimers.scanStarts := by
      unfold State.tick State.running
      rw [hr]
      rfl
    obtain ⟨x, hx⟩ := s.tickTimers.scanStarts_scan
    refine ⟨s.tickTimers.scanStarts, by rw [hnone h, ht], ?_, fun he => ?_, fun ho => ?_, fun i => ?_, fun p => ?_, fun b => ?_⟩
    · rw [hx]
      exact s.tickTimers_eq x
    · unfold State.scanStarts at he ⊢
      split
      · rfl
      · rename_i hn
        rw [if_neg hn] at he
        exact absurd he hn
    · unfold State.scanStarts at ho ⊢
      split
      · rename_i hp
        rw [if_pos hp] at ho
        exact absurd (show s.tickTimers.now.toNat % 2 = 1 from ho) (by omega)
      · rfl
    · rw [hx]
      exact s.tickTimers_switch i
    · rw [hx]
      have hp := (s.pair p).tick_spec (s.cal.period p)
      rw [← s.tickTimers_pair] at hp
      exact hp
    · rw [hx]
      exact s.tickBoom_spec b

end Sys2Proof.Machine
end

section
/-! PROOF. The port: what a request's own effect leaves of the link (`PortKept`), and the form in which every request is served
(`ServedAs`): one reply to every frame (O3), and what the port refuses by itself (O4). -/
namespace Sys2Proof.Machine

/-! ## What a request leaves of the link -/

/-- The link's state, its silence timer, the receiver and the queue of commands are as before. -/
structure PortKept (s t : State) : Prop where
  live : t.link.live = s.link.live
  silence : t.link.silence = s.link.silence
  receiver : t.link.receiver = s.link.receiver
  pending : t.pending = s.pending

namespace PortKept
variable {s t u : State}

theorem refl (s : State) : PortKept s s := ⟨rfl, rfl, rfl, rfl⟩

theorem trans (h : PortKept s t) (k : PortKept t u) : PortKept s u :=
  ⟨k.live.trans h.live, k.silence.trans h.silence, k.receiver.trans h.receiver, k.pending.trans h.pending⟩

theorem of_link (h : t.link = s.link) (k : t.pending = s.pending) : PortKept s t := ⟨by rw [h], by rw [h], by rw [h], k⟩

theorem of_flow (h : FlowEffect s t) : PortKept s t := of_link h.link h.pending

theorem of_moves {b : BoomId} (h : EngineMoves b s t) : PortKept s t := of_link h.link h.pending

theorem ite {c : Prop} [Decidable c] (h : PortKept s t) (k : PortKept s u) : PortKept s (if c then t else u) := by
  split
  · exact h
  · exact k

/-- An act on every member of a list. -/
theorem foldl {α : Type} {f : State → α → State} (h : ∀ u x, PortKept u (f u x)) (xs : List α) (s : State) :
    PortKept s (xs.foldl f s) := by
  induction xs generalizing s with
  | nil => exact refl s
  | cons x xs ih => exact (h s x).trans (ih _)

theorem of_setBoom (s : State) (b : BoomId) (x : BoomState) : PortKept s (s.setBoom b x) := by
  cases b <;> exact of_link rfl rfl

theorem of_raise (s : State) (e : Event) : PortKept s (s.raise e) := of_link rfl rfl

theorem of_setPair (s : State) (p : PairId) (x : Pair) : PortKept s (s.setPair p x) := of_flow (.of_setPair s p x)

/-! ### Engines and restricted flags -/

theorem of_updateRestricted (s : State) (b : BoomId) : PortKept s (s.updateRestricted b) := by
  have h := of_setBoom s b { s.boom b with engine := { s.engine b with restricted := s.restrictedNow b } }
  have h2 := ite (c := s.restrictedNow b = true)
    (h.trans (of_moves ((EngineMoves.of_raise _ b (.restricted b)).trans (.of_flagRecord _ b .restrictedRun)))) h
  exact ite (refl s) (h2.trans (of_flow (.of_reissueFeed _ b)))

theorem of_headChanged (s : State) (b : BoomId) (old : Head) : PortKept s (s.headChanged b old) := by
  unfold State.headChanged
  dsimp only
  have h := ite (c := (s.head b).health ≠ old.health ∨ (s.head b).stale ≠ old.stale) (of_updateRestricted s b) (refl s)
  exact ite (h.trans (of_moves (.of_channelFailed _ b))) h

/-! ### Monitors -/

theorem of_actOn (s : State) (b : BoomId) (a : Actions) : PortKept s (s.actOn b a) :=
  ite (of_moves (.of_holdCause s b _)) (ite (of_moves (.of_holdCause s b _)) (refl s))

theorem of_act (s : State) (x : Scope) (a : Actions) : PortKept s (s.act x a) := by
  have h := ite (c := x.has .A = true) (of_actOn s .A a) (refl s)
  exact ite (h.trans (of_actOn _ .B a)) h

theorem of_testMonitor (s : State) (n : Nat) (x : Int) : PortKept s (s.testMonitor n x) := by
  have h1 : PortKept s (s.setMonitorAt n ((s.monitor n).tested x)) := of_link rfl rfl
  have raised : ∀ {t} (e : Event) (sc : Scope) (a : Actions), PortKept s t → PortKept s ((t.raise e).act sc a) :=
    fun e sc a h => (h.trans (of_raise _ e)).trans (of_act _ sc a)
  have h2 := ite (c := (s.monitor n).entersWarn x = true)
    (raised (.monitor n false) (s.monitor n).cfg.scope (s.monitor n).cfg.warnActs h1) h1
  exact ite (raised _ _ _ h2) h2

theorem of_reachMonitor (srcs : List Source) (p : Bool) (s : State) (n : Nat) :
    PortKept s (State.reachMonitor srcs p s n) := by
  have h : PortKept s (s.recordValid n) := of_link rfl rfl
  exact ite (ite (h.trans (of_testMonitor _ n _)) h) (refl s)

theorem of_publish (s : State) (srcs : List Source) : PortKept s (s.publish srcs) :=
  foldl (of_reachMonitor srcs true) _ s

theorem of_markValidity (s : State) (srcs : List Source) : PortKept s (s.markValidity srcs) :=
  foldl (of_reachMonitor srcs false) _ s

theorem of_configureMonitor (s : State) (n : Nat) (c : MonitorConfig) : PortKept s (s.configureMonitor n c) := by
  have h : PortKept s ((s.setMonitorAt n { s.monitor n with cfg := c, status := .normal, last := none }).recordValid n) :=
    of_link rfl rfl
  exact ite (h.trans (of_testMonitor _ n _)) h

/-! ### The head bus -/

theorem of_raiseHealth (s : State) (c : ChannelId) (old new : Health) : PortKept s (s.raiseHealth c old new) := by
  unfold State.raiseHealth
  split
  · exact of_link rfl rfl
  · exact refl s

theorem of_classify (s : State) (b : BoomId) (e : Ending) : PortKept s (s.classify b e) := by
  have h := ((of_setBoom s b { s.boom b with head := (s.head b).after e s.now }).trans
    (of_raiseHealth _ (.head b) (s.head b).health ((s.head b).after e s.now).health)).trans (of_headChanged _ b (s.head b))
  exact ite (h.trans (of_publish _ _)) (ite (h.trans (of_markValidity _ _)) h)

theorem of_setStale (s : State) (b : BoomId) (x : Bool) : PortKept s (s.setStale b x) :=
  ite (refl s) (((of_setBoom s b { s.boom b with head := { s.head b with stale := x } }).trans (of_headChanged _ b _)).trans
    (of_markValidity _ _))

theorem of_bus (s : State) (x : HeadBus) : PortKept s { s with bus := x } := of_link rfl rfl

theorem of_roundOn (s : State) : PortKept s s.roundOn := ite (of_link rfl rfl) (of_link rfl rfl)

theorem of_pollEnded (s : State) (b : BoomId) (e : Ending) : PortKept s (s.pollEnded b e) := by
  have h := of_setBoom s b { s.boom b with head := { s.head b with lastPoll := e.poll } }
  exact ite (h.trans (of_raise _ _)) h

theorem of_endTransaction (s : State) (t : Transaction) (e : Ending) : PortKept s (s.endTransaction t e) := by
  have h1 := of_bus s { s.bus with txn := none }
  unfold State.endTransaction
  dsimp only
  cases t.statusOf with
  | some b =>
    have h2 := h1.trans (of_classify _ b e)
    exact ite (h2.trans (of_bus _ _)) ((h2.trans (of_pollEnded _ b e)).trans (of_roundOn _))
  | none => exact ite (h1.trans (of_bus _ _)) (h1.trans (of_roundOn _))

/-! ### Calibration and the canopy -/

theorem of_starveIfDue (s : State) (who : Requester) : PortKept s (s.starveIfDue who) := by
  refine ite ?_ (refl s)
  unfold State.starve
  dsimp only
  split
  · cases who with
    | boom b => exact of_link rfl rfl
    | canopy => exact of_link rfl rfl
  · exact refl s

theorem of_calibrateSensing (s : State) (b : BoomId) : PortKept s (s.calibrateSensing b) := ite (refl s) (of_setBoom s b _)

theorem of_applySet (s : State) (vals : List Nat) : PortKept s (s.applySet vals) := by
  have h1 : PortKept s (State.endConfirmRuns
      { s with
        cal := { s.cal with working := vals, absent := false }
        link := { s.link with timeout := ({ s.cal with working := vals, absent := false } : CalStore).linkTimeout } }) :=
    ⟨rfl, rfl, rfl, rfl⟩
  have h2 := h1.trans (foldl (f := State.recomputeDuty) (fun u p => of_setPair u p _) allPairs _)
  have h3 := ((h2.trans (of_starveIfDue _ (.boom .A))).trans (of_starveIfDue _ (.boom .B))).trans (of_starveIfDue _ .canopy)
  exact (((h3.trans (of_setStale _ .A _)).trans (of_setStale _ .B _)).trans (of_calibrateSensing _ .A)).trans
    (of_calibrateSensing _ .B)

theorem of_canopyGoto (s : State) (st : CanopyState) (f : CanopyFault) : PortKept s (s.canopyGoto st f) := of_link rfl rfl

theorem of_canopyStop (s : State) : PortKept s s.canopyStop := of_flow (.of_canopyStop s)

theorem of_canopyLowered (s : State) : PortKept s s.canopyLowered :=
  ite ((of_canopyGoto s _ _).trans (of_canopyStop _)) (of_canopyGoto s _ _)

theorem of_motion (s : State) (c : Canopy) (p : Purpose) : PortKept s
    (if (State.place { s with canopy := c } .canopy p).granted .canopy then State.place { s with canopy := c } .canopy p
      else (State.place { s with canopy := c } .canopy p).request .canopy (.off false)) := by
  have h : PortKept s { s with canopy := c } := of_link rfl rfl
  have h2 := h.trans (of_flow (.of_place _ .canopy p))
  exact ite h2 (h2.trans (of_flow (.of_request _ _ _)))

theorem of_beginRaise (s : State) : PortKept s s.beginRaise := of_motion s _ _

theorem of_beginLower (s : State) : PortKept s s.beginLower := by
  have h := of_motion s { (s.canopyGoto .lowering .none).canopy with lowerTimer := 0 } .canopyLower
  exact ite (h.trans (of_canopyLowered _)) h

theorem of_lower (s : State) : PortKept s s.lower := by
  have h := ite (c := s.closed .clow = true) (of_canopyLowered s) (of_beginLower s)
  unfold State.lower
  split
  iterate 2 exact refl s
  · exact of_beginLower s
  iterate 3 exact h

theorem of_settleAll (s : State) : PortKept s s.settleAll := by
  have pair : ∀ u p, PortKept u (State.settlePair u p) := fun u p => of_setPair u p _
  have boom : ∀ u b, PortKept u (State.settleBoom u b) := fun u b => ((pair u _).trans (pair _ _)).trans (pair _ _)
  exact ((boom s .A).trans (boom _ .B)).trans (pair _ .canopy)

theorem of_setBudget (s : State) (v : Nat) : PortKept s (s.setBudget v) := by
  have h : PortKept s { s with arb := (s.arb.setBudget v).1 } := of_link rfl rfl
  exact (h.trans (of_flow (.of_tells _ _))).trans (of_flow (.of_runPass _))

/-! ### Jobs and records -/

theorem of_startJob (s : State) (b : BoomId) (j : Job) (rest : List Job) : PortKept s (s.startJob b j rest) := by
  have h1 := ((of_moves (.of_dropJog s b)).trans (of_setBoom _ b { (s.dropJog b).boom b with queue := rest })).trans
    (of_setBoom _ b { ((s.dropJog b).setQueue b rest).boom b with active := some j })
  unfold State.startJob
  dsimp only
  exact ((h1.trans (of_setBoom _ b _)).trans (of_moves (.of_setLogger _ b _))).trans (of_flow (.of_beginFlow _ b _))

theorem of_appendJob (s : State) (b : BoomId) (j : Job) : PortKept s (s.appendJob b j) := by
  have h := of_setBoom s b { s.boom b with queue := (s.boom b).queue ++ [j] }
  exact ite (h.trans (of_moves (.of_goto _ b _ _))) h

theorem of_cancelJob (s : State) (b : BoomId) (tag : Nat) : PortKept s (s.cancelJob b tag) := by
  have h := of_setBoom s b { s.boom b with queue := (s.boom b).queue.filter (fun j => j.tag != tag) }
  exact ite (h.trans (of_moves (.of_goto _ b _ _))) h

theorem of_loadMagazine (s : State) (b : BoomId) (n : Nat) : PortKept s (s.loadMagazine b n) := by
  have h := of_setBoom s b { s.boom b with sensing := { s.sensing b with magazine := min ((s.sensing b).magazine + n) 24 } }
  exact ite (h.trans (of_moves (.of_beginStrokes _ b))) h

theorem of_release (s : State) : PortKept s s.release := by
  unfold State.release
  dsimp only
  split
  · exact of_link rfl rfl
  · have h : ∀ x : RecordStore, PortKept s { s with store := x } := fun _ => of_link rfl rfl
    exact (h _).trans (of_moves (.of_file _ _))

theorem of_unpark (s : State) (b : BoomId) : PortKept s (s.unpark b) := by
  have h := of_setBoom s b { s.boom b with engine := { s.engine b with park := false } }
  exact ite (h.trans (of_moves (.of_choose _ b))) h

theorem of_beginRestore (s : State) (c : ChannelId) : PortKept s (s.beginRestore c) := by
  cases c with
  | analog c => cases c <;> exact of_link rfl rfl
  | head b => exact of_setBoom s b _

end PortKept

/-! ## Decisions that leave the link alone -/

/-- A decision leaves the link and the queue of commands as they were. -/
def DecisionKept (d : State → Decision) : Prop := ∀ u, PortKept u (d u).state

theorem DecisionKept.withBoom {n : Nat} {d : BoomId → State → Decision} (h : ∀ b, DecisionKept (d b)) :
    DecisionKept (withBoom n d) := fun u => by
  unfold Machine.withBoom
  split
  · exact h _ u
  · exact .refl u

/-! ## The requests' decisions -/

namespace DecisionKept

theorem accept {g : State → State} {w : State → List Wire} (h : ∀ u, PortKept u (g u)) :
    DecisionKept (fun s => (g s).accept (w s)) := fun u => h u

theorem reads {w : State → List Wire} : DecisionKept (fun s => s.accept (w s)) := fun u => .refl u

theorem setLink (p : List Byte) : DecisionKept (decideSetLink p) := fun _ => ⟨rfl, rfl, rfl, rfl⟩

theorem reset : DecisionKept decideReset := fun _ => ⟨rfl, rfl, rfl, rfl⟩

theorem loadPlan (p : List Byte) : DecisionKept (decideLoadPlan p) := fun u => by
  have put : ∀ x r, PortKept u (u.loadPlan x r).state := fun _ _ => .of_link rfl rfl
  unfold decideLoadPlan
  dsimp only
  split
  · exact .refl u
  · split_ifs
    · exact .refl u
    · exact put _ _
    · exact put _ _
    · exact .refl u

theorem dropPlan (p : List Byte) : DecisionKept (decideDropPlan p) := fun u => by
  unfold decideDropPlan
  dsimp only
  split_ifs
  iterate 3 exact .refl u
  exact .of_link rfl rfl

theorem readPlan (p : List Byte) : DecisionKept (decideReadPlan p) := fun u => by
  unfold decideReadPlan
  dsimp only
  split
  · exact .refl u
  · split <;> exact .refl u

theorem queueJob (p : List Byte) (b : BoomId) : DecisionKept (decideQueueJob p b) := fun u => by
  unfold decideQueueJob
  dsimp only
  split
  · exact .refl u
  · exact .of_appendJob u b _

theorem cancelJob (p : List Byte) (b : BoomId) : DecisionKept (decideCancelJob p b) := fun u => by
  unfold decideCancelJob
  dsimp only
  split_ifs
  iterate 2 exact .refl u
  exact .of_cancelJob u b _

theorem start (b : BoomId) : DecisionKept (decideStart b) := fun u => by
  unfold decideStart
  split
  · split
    · exact .refl u
    · exact .of_startJob u b _ _
    · exact .refl u
  · exact .refl u

theorem hold (b : BoomId) : DecisionKept (decideHold b) := fun u => by
  unfold decideHold
  split
  · exact .of_moves (.of_holdCause u b _)
  · exact .refl u

theorem resume (b : BoomId) : DecisionKept (decideResume b) := fun u => by
  unfold decideResume
  split
  · split
    · exact .refl u
    · exact .of_moves (.of_resume u b)
  · exact .refl u

theorem abort (b : BoomId) : DecisionKept (decideAbort b) := fun u => by
  unfold decideAbort
  split
  · exact .of_moves (.of_enterFaulted u b _)
  · exact .refl u

theorem park (b : BoomId) : DecisionKept (decidePark b) := fun u => .of_moves (.of_parkBoom u b _)

theorem unpark (b : BoomId) : DecisionKept (decideUnpark b) := fun u => .of_unpark u b

theorem boltLoaded (b : BoomId) : DecisionKept (decideBoltLoaded b) := fun u => by
  unfold decideBoltLoaded
  split_ifs
  · exact .of_moves (.of_enterPush u b)
  · exact .of_setBoom u b _
  · exact .refl u

theorem clearFault (b : BoomId) : DecisionKept (decideClearFault b) := fun u => by
  unfold decideClearFault
  split_ifs
  · exact .of_moves (.of_choose u b)
  · exact .refl u

theorem jog (p : List Byte) (b : BoomId) : DecisionKept (decideJog p b) := fun u => by
  unfold decideJog
  split
  iterate 2 exact .refl u
  split_ifs
  iterate 2 exact .refl u
  exact .of_moves (.of_startJog u b _)

theorem magazineLoaded (p : List Byte) (b : BoomId) : DecisionKept (decideMagazineLoaded p b) := fun u => by
  unfold decideMagazineLoaded
  dsimp only
  split_ifs
  · exact .refl u
  · exact .of_loadMagazine u b _

theorem canopyRaise : DecisionKept decideCanopyRaise := fun u => by
  unfold decideCanopyRaise
  split_ifs
  iterate 3 exact .refl u
  · exact .refl u
  · exact .of_beginRaise u

theorem canopyLower : DecisionKept decideCanopyLower := fun u => by
  unfold decideCanopyLower
  split_ifs
  iterate 3 exact .refl u
  exact .of_lower u

theorem clearTrip : DecisionKept decideClearTrip := fun u => by
  have h : PortKept u { u with trip := false } := .of_link rfl rfl
  unfold decideClearTrip
  split_ifs
  · exact .refl u
  · exact .ite (h.trans (.of_settleAll _)) (.refl u)

theorem setBudget (p : List Byte) : DecisionKept (decideSetBudget p) := fun u => .of_setBudget u _

theorem restore (p : List Byte) : DecisionKept (decideRestore p) := fun u => by
  unfold decideRestore
  split
  · exact .refl u
  · split_ifs
    · exact .of_beginRestore u _
    · exact .refl u

theorem setMonitor (p : List Byte) : DecisionKept (decideSetMonitor p) := fun u => by
  unfold decideSetMonitor
  split
  · exact .refl u
  · exact .of_configureMonitor u _ _

theorem clearLatch (p : List Byte) : DecisionKept (decideClearLatch p) := fun u => by
  unfold decideClearLatch
  split
  · exact .refl u
  · exact .foldl (f := fun t n => t.setMonitorAt n (t.monitor n).clearLatch) (fun v _ => .of_link rfl rfl) _ u

theorem pause : DecisionKept decidePause := fun _ => .of_link rfl rfl

theorem busResume : DecisionKept decideBusResume := fun u => by
  unfold decideBusResume
  split_ifs
  · exact .refl u
  · exact .ite (.of_link rfl rfl) (.of_link rfl rfl)

theorem transact (p : List Byte) : DecisionKept (decideTransact p) := fun u => by
  unfold decideTransact
  split
  · exact .refl u
  · split
    · exact .refl u
    · split_ifs
      iterate 5 exact .refl u
      exact .of_link rfl rfl

theorem kill : DecisionKept decideKill := fun u => by
  unfold decideKill
  split
  · split_ifs
    · exact .of_endTransaction u _ _
    · exact .refl u
  · exact .refl u

theorem fetch (p : List Byte) : DecisionKept (decideFetch p) := fun u => by
  unfold decideFetch
  split
  · exact .refl u
  · split_ifs <;> exact .refl u

theorem release (p : List Byte) : DecisionKept (decideRelease p) := fun u => by
  unfold decideRelease
  split
  · exact .refl u
  · dsimp only
    split
    · exact .refl u
    · exact .of_release u

theorem calibrate (p : List Byte) : DecisionKept (decideCalibrate p) := fun u => by
  unfold decideCalibrate
  split_ifs
  iterate 2 exact .refl u
  split
  · exact .refl u
  · exact .of_applySet u _

theorem store : DecisionKept decideStore := fun u => by
  unfold decideStore
  split_ifs
  · exact .refl u
  · exact .of_link rfl rfl

theorem recallSet : DecisionKept decideRecall := fun u => by
  unfold decideRecall
  split_ifs
  iterate 2 exact .refl u
  · exact .of_applySet u _
  · exact .refl u

end DecisionKept

/-! ## The form in which a request is served -/

/-- R195, R198: how the port serves a request: at the length its catalogue gives, with the boom field checked where it has one;
at any length where the catalogue gives none; and READ EVENTS. -/
inductive ServedAs (i : Instr) (q c : Byte) (p : List Byte) : Prop
  | fixed (n : Nat) (d : State → Decision) (hn : catalogueLength c = some n)
      (hc : c.toNat ∉ [0x09, 0x0A, 0x0B, 0x0C, 0x0D, 0x0E, 0x0F, 0x10, 0x11, 0x12, 0x13, 0x14, 0x15, 0x16])
      (hx : ∀ s, exec i s = .next (s.serveFixed q c n p d)) (hd : DecisionKept d)
  | boom (n : Nat) (d : BoomId → State → Decision) (hn : catalogueLength c = some n) (hpos : 0 < n)
      (hx : ∀ s, exec i s = .next (s.serveFixed q c n p (withBoom (byteAt p 0) d)))
      (hd : ∀ b, DecisionKept (d b))
  | free (d : State → Decision) (hn : catalogueLength c = none)
      (hc : c.toNat ∉ [0x09, 0x0A, 0x0B, 0x0C, 0x0D, 0x0E, 0x0F, 0x10, 0x11, 0x12, 0x13, 0x14, 0x15, 0x16])
      (hx : ∀ s, exec i s = .next (s.serve q c p d)) (hd : DecisionKept d)
  | events (hc : c = 0x04) (hx : ∀ s, exec i s = .next (s.readEvents q p))

/-- The code of a request that the catalogue does not know. -/
theorem unknownCode_free {c : Byte} (h : namesRequest c = false) : catalogueLength c = none ∧
    c.toNat ∉ [0x09, 0x0A, 0x0B, 0x0C, 0x0D, 0x0E, 0x0F, 0x10, 0x11, 0x12, 0x13, 0x14, 0x15, 0x16] := by
  revert h
  revert c
  decide

/-- Every request that can be sent is served in one of the four forms. -/
theorem servedAs {i : Instr} {f : FrameContent} (hf : encodeFrame i = some f) (hw : i.wellFormed = true) :
    ServedAs i f.seq f.code f.payload := by
  cases i <;> cases hf
  all_goals dsimp only
  case unknownCode q c p =>
    have hn : namesRequest c = false := by
      simp only [Instr.wellFormed, Bool.and_eq_true, Bool.not_eq_true'] at hw
      exact hw.1
    refine .free (fun t => t.refuse .unknownCode) (unknownCode_free hn).1 (unknownCode_free hn).2 (fun s => ?_) (fun u => .refl u)
    show Host.Outcome.next _ = _
    rw [if_neg (by simp [hn])]
  case identify => exact .fixed _ _ rfl (by decide) (fun _ => rfl) .reads
  case setLink => exact .fixed _ _ rfl (by decide) (fun _ => rfl) (.setLink _)
  case readStatus => exact .fixed _ _ rfl (by decide) (fun _ => rfl) .reads
  case readEvents => exact .events rfl (fun _ => rfl)
  case reset => exact .fixed _ _ rfl (by decide) (fun _ => rfl) .reset
  case loadPlan => exact .fixed _ _ rfl (by decide) (fun _ => rfl) (.loadPlan _)
  case dropPlan => exact .fixed _ _ rfl (by decide) (fun _ => rfl) (.dropPlan _)
  case readPlan => exact .fixed _ _ rfl (by decide) (fun _ => rfl) (.readPlan _)
  case readPlanDirectory => exact .fixed _ _ rfl (by decide) (fun _ => rfl) (.readPlan _)
  case queueJob => exact .boom _ _ rfl (by decide) (fun _ => rfl) (.queueJob _)
  case cancelJob => exact .boom _ _ rfl (by decide) (fun _ => rfl) (.cancelJob _)
  case readQueue => exact .boom _ _ rfl (by decide) (fun _ => rfl) (fun _ => .reads)
  case start => exact .boom _ _ rfl (by decide) (fun _ => rfl) .start
  case hold => exact .boom _ _ rfl (by decide) (fun _ => rfl) .hold
  case resume => exact .boom _ _ rfl (by decide) (fun _ => rfl) .resume
  case abort => exact .boom _ _ rfl (by decide) (fun _ => rfl) .abort
  case park => exact .boom _ _ rfl (by decide) (fun _ => rfl) .park
  case unpark => exact .boom _ _ rfl (by decide) (fun _ => rfl) .unpark
  case boltLoaded => exact .boom _ _ rfl (by decide) (fun _ => rfl) .boltLoaded
  case clearFault => exact .boom _ _ rfl (by decide) (fun _ => rfl) .clearFault
  case jog => exact .boom _ _ rfl (by decide) (fun _ => rfl) (.jog _)
  case readBoom => exact .boom _ _ rfl (by decide) (fun _ => rfl) (fun _ => .reads)
  case magazineLoaded => exact .boom _ _ rfl (by decide) (fun _ => rfl) (.magazineLoaded _)
  case canopyRaise => exact .fixed _ _ rfl (by decide) (fun _ => rfl) .canopyRaise
  case canopyLower => exact .fixed _ _ rfl (by decide) (fun _ => rfl) .canopyLower
  case clearTrip => exact .fixed _ _ rfl (by decide) (fun _ => rfl) .clearTrip
  case setPumpBudget => exact .fixed _ _ rfl (by decide) (fun _ => rfl) (.setBudget _)
  case readFlow => exact .fixed _ _ rfl (by decide) (fun _ => rfl) .reads
  case readChannels => exact .fixed _ _ rfl (by decide) (fun _ => rfl) .reads
  case restoreChannel => exact .fixed _ _ rfl (by decide) (fun _ => rfl) (.restore _)
  case setMonitor => exact .fixed _ _ rfl (by decide) (fun _ => rfl) (.setMonitor _)
  case readMonitors => exact .fixed _ _ rfl (by decide) (fun _ => rfl) .reads
  case clearMonitorLatch => exact .fixed _ _ rfl (by decide) (fun _ => rfl) (.clearLatch _)
  case headBusPause => exact .fixed _ _ rfl (by decide) (fun _ => rfl) .pause
  case headBusResume => exact .fixed _ _ rfl (by decide) (fun _ => rfl) .busResume
  case headBusTransact => exact .free _ rfl (by decide) (fun _ => rfl) (.transact _)
  case headBusResult => exact .fixed _ _ rfl (by decide) (fun _ => rfl) .reads
  case headBusKill => exact .fixed _ _ rfl (by decide) (fun _ => rfl) .kill
  case fetchRecord => exact .fixed _ _ rfl (by decide) (fun _ => rfl) (.fetch _)
  case releaseRecord => exact .fixed _ _ rfl (by decide) (fun _ => rfl) (.release _)
  case calibrate => exact .fixed _ _ rfl (by decide) (fun _ => rfl) (.calibrate _)
  case readCalibration => exact .fixed _ _ rfl (by decide) (fun _ => rfl) .reads
  case storeCalibration => exact .fixed _ _ rfl (by decide) (fun _ => rfl) .store
  case recallCalibration => exact .fixed _ _ rfl (by decide) (fun _ => rfl) .recallSet

/-! ## One reply to every frame -/

/-- What a reply leaves of a request that the port has taken. -/
def AnsweredOnce (i : Instr) (f : FrameContent) (s : State) : Prop :=
  ∃ t r, exec i s = .next t ∧ t.link.reply = some r ∧ r.seq = f.seq ∧ r.code = f.code ∧ t.link.sending = true ∧
    t.link.live = true ∧ t.link.silence = 0 ∧ t.link.receiver = .hunting ∧ t.pending = s.pending ∧
    (f.code ≠ 0x04 → r.summary = t.summary)

/-- R195, R196: a decision that leaves the link alone is answered once. -/
theorem AnsweredOnce.of_serve {i : Instr} {f : FrameContent} {s : State} {d : State → Decision} (ht : s.takesFrames = true)
    (hp : f.payload.length ≤ 250) (hx : exec i s = .next (s.serve f.seq f.code f.payload d)) (hd : DecisionKept d) :
    AnsweredOnce i f s := by
  have k := hd s.frameTaken
  rw [State.serve_of_takes ht hp] at hx
  exact ⟨_, _, hx, rfl, rfl, rfl, rfl, k.live, k.silence, k.receiver, k.pending, fun _ => rfl⟩

theorem DecisionKept.checkLength {n : Nat} {p : List Byte} {d : State → Decision} (h : DecisionKept d) :
    DecisionKept (checkLength n p d) := fun u => by
  unfold Machine.checkLength
  split
  · exact h u
  · exact .refl u

/-- The frames of requests that can be sent carry at most 250 bytes. -/
theorem payload_fits {i : Instr} {f : FrameContent} (hf : encodeFrame i = some f) (hw : i.wellFormed = true) :
    f.payload.length ≤ 250 := by
  have general : (match encodeFrame i with
      | some f => payloadFits f.payload
      | none => true) = true → f.payload.length ≤ 250 := fun h => by
    rw [hf] at h
    simpa [payloadFits] using h
  cases i
  case unknownCode | readPlan =>
    simp only [Instr.wellFormed, Bool.and_eq_true] at hw
    cases hf
    simpa [payloadFits] using hw.2
  case readPlanDirectory => cases hf; simp
  all_goals first | exact general hw | cases hf

/-- Settles O3: every request by the form in which it is served. -/
theorem everyFrameAnswered : Obligations.EveryFrameAnswered := by
  unfold Obligations.EveryFrameAnswered
  intro i f s hf hw ht
  have hp := payload_fits hf hw
  cases servedAs hf hw with
  | fixed n d _ _ hx hd => exact AnsweredOnce.of_serve ht hp (hx s) hd.checkLength
  | boom n d _ _ hx hd => exact AnsweredOnce.of_serve ht hp (hx s) (DecisionKept.withBoom hd).checkLength
  | free d _ _ hx hd => exact AnsweredOnce.of_serve ht hp (hx s) hd
  | events hc hx =>
    have hx := hx s
    unfold State.readEvents at hx
    rw [if_pos (by simp [ht, hp])] at hx
    dsimp only at hx
    split at hx
    · exact ⟨_, _, hx, rfl, rfl, hc.symm, rfl, rfl, rfl, rfl, rfl, fun hn => absurd hc hn⟩
    · exact ⟨_, _, hx, rfl, rfl, hc.symm, rfl, rfl, rfl, rfl, rfl, fun hn => absurd hc hn⟩

end Sys2Proof.Machine
end

section
/-! PROOF. The port's own refusals (O4), the frame and the receiver (O5, O6), and the link's own requests (O7). -/
namespace Sys2Proof.Machine

/-! ## Refused before the block -/

/-- READ EVENTS of another length than 0 is refused. -/
theorem State.readEvents_badLength {s : State} (h : s.takesFrames = true) {p : List Byte} (hp : p.length ≤ 250)
    (hn : p.length ≠ 0) (q : Byte) : s.readEvents q p = answered s q 0x04 (.refused .badLength 0) := by
  unfold State.readEvents
  rw [if_pos (by simp [h, hp])]
  dsimp only
  rw [if_neg hn]
  rfl

/-- R195: a code that names no request is refused. -/
theorem exec_unknownCode {s : State} (h : s.takesFrames = true) {p : List Byte} (hp : p.length ≤ 250) (q : Byte) {c : Byte}
    (hc : namesRequest c = false) : exec (.unknownCode q c p) s = .next (answered s q c (.refused .unknownCode 0)) := by
  show Host.Outcome.next _ = _
  rw [if_neg (by simp [hc]), State.serve_answered h hp q c _ (u := s) rfl rfl]
  rfl

/-- Settles O4: length and boom field by the form in which a request is served. -/
theorem refusedBeforeTheBlock : Obligations.RefusedBeforeTheBlock := by
  unfold Obligations.RefusedBeforeTheBlock
  refine ⟨fun i f s hf hw ht => ⟨fun n hn hlen => ?_, fun hc hlen hb => ?_⟩, fun q c p s ht hp hc => ?_⟩
  · have hp := payload_fits hf hw
    cases servedAs hf hw with
    | fixed m d hm _ hx _ =>
      obtain rfl : m = n := Option.some.inj (hm.symm.trans hn)
      rw [hx, State.serveFixed_badLength ht hp hlen]
    | boom m d hm _ hx _ =>
      obtain rfl : m = n := Option.some.inj (hm.symm.trans hn)
      rw [hx, State.serveFixed_badLength ht hp hlen]
    | free d hm _ _ _ =>
      rw [hm] at hn
      cases hn
    | events hc hx =>
      rw [hc] at hn
      obtain rfl : 0 = n := Option.some.inj hn
      rw [hx, State.readEvents_badLength ht hp hlen, hc]
  · have hp := payload_fits hf hw
    cases servedAs hf hw with
    | fixed _ _ _ hnot _ _ => exact absurd hc hnot
    | boom m d hm _ hx _ =>
      obtain rfl : m = f.payload.length := Option.some.inj (hm.symm.trans hlen)
      have hbyte : 2 ≤ byteAt f.payload 0 := by
        unfold byteAt
        cases hpl : f.payload with
        | nil => simp [hpl] at hb
        | cons x xs => simpa [hpl] using hb
      rw [hx, State.serveFixed_refused ht rfl hp f.seq f.code _ (withBoom_above hbyte d _)]
    | free _ _ hnot _ _ => exact absurd hc hnot
    | events he _ =>
      rw [he] at hc
      simp at hc
  · refine exec_unknownCode ht hp q ?_
    unfold namesRequest
    rcases hc with rfl | hc
    · rfl
    · simp
      omega

/-! ## The receiver -/

/-- R194: the valid frame that the bytes of a complete frame make, if any. -/
def completed (bytes : List Byte) : List (List Byte) := if crcMatches bytes then [bytes.take (bytes.length - 2)] else []

/-- R194: the bytes of a frame after SYNC and LEN, up to the last that LEN awaits. -/
theorem Receiver.feed_assembling {len : Byte} (xs : List Byte) (rest : List Byte) (hx : xs ≠ [])
    (hl : rest.length + xs.length = len.toNat + 4) :
    Receiver.feed (.assembling (len :: rest)) xs = (.hunting, completed (len :: rest ++ xs)) := by
  induction xs generalizing rest with
  | nil => exact absurd rfl hx
  | cons b xs ih =>
    simp only [List.length_cons] at hl
    unfold Receiver.feed
    by_cases hxs : xs = []
    · -- the last byte: the CRC is compared
      subst hxs
      have ht : Receiver.take (.assembling (len :: rest)) b =
          ⟨.hunting, if crcMatches (len :: rest ++ [b]) then some ((len :: rest ++ [b]).take ((len :: rest ++ [b]).length - 2))
            else none⟩ := by
        simp only [Receiver.take]
        rw [if_neg (by simp at hl; simp; omega)]
      rw [ht]
      unfold completed
      cases crcMatches (len :: rest ++ [b]) <;> rfl
    · have hpos : 0 < xs.length := List.length_pos_iff.2 hxs
      have ht : Receiver.take (.assembling (len :: rest)) b = ⟨.assembling (len :: (rest ++ [b])), none⟩ := by
        simp only [Receiver.take]
        rw [if_pos (by simp; omega)]
        rfl
      rw [ht]
      dsimp only
      rw [ih (rest ++ [b]) hxs (by simp; omega)]
      simp

/-- R194: SYNC, a LEN up to 250 and the bytes that it awaits. -/
theorem Receiver.feed_frame {len : Byte} (hlen : len.toNat ≤ 250) {body : List Byte} (hl : body.length = len.toNat + 4) :
    Receiver.feed .hunting (0xC3 :: len :: body) = (.hunting, completed (len :: body)) := by
  have h1 : Receiver.take .hunting 0xC3 = ⟨.assembling [], none⟩ := rfl
  have h2 : Receiver.take (.assembling []) len = ⟨.assembling [len], none⟩ := by
    simp only [Receiver.take]
    rw [if_neg (by omega)]
  rw [Receiver.feed, h1]
  dsimp only
  rw [Receiver.feed, h2]
  dsimp only
  rw [Receiver.feed_assembling body [] (fun h => by simp [h] at hl) (by simpa using hl)]
  rfl

theorem be16_length (n : Nat) : (be16 n).length = 2 := rfl

/-- R194: the last two bytes against the CRC of the rest. -/
theorem crcMatches_append (covered : List Byte) (hi lo : Byte) :
    crcMatches (covered ++ [hi, lo]) = ([hi, lo] == be16 (crc16 covered).toNat) := by
  unfold crcMatches
  simp

theorem completed_append (covered : List Byte) (hi lo : Byte) :
    completed (covered ++ [hi, lo]) = if [hi, lo] == be16 (crc16 covered).toNat then [covered] else [] := by
  unfold completed
  rw [crcMatches_append]
  simp

/-- R194: two bytes are those of a CRC just where their value is its. -/
theorem bytes_eq_be16 (hi lo : Byte) (x : BitVec 16) : [hi, lo] = be16 x.toNat ↔ hi.toNat * 256 + lo.toNat = x.toNat := by
  unfold be16
  have hx := x.isLt
  have h1 := hi.isLt
  have h2 := lo.isLt
  constructor
  · intro h
    obtain ⟨e1, e2⟩ : hi = BitVec.ofNat 8 (x.toNat / 256) ∧ lo = BitVec.ofNat 8 x.toNat := by simpa using h
    rw [e1, e2, BitVec.toNat_ofNat, BitVec.toNat_ofNat]
    omega
  · intro h
    have e1 : hi = BitVec.ofNat 8 (x.toNat / 256) := BitVec.eq_of_toNat_eq (by rw [BitVec.toNat_ofNat]; omega)
    have e2 : lo = BitVec.ofNat 8 x.toNat := BitVec.eq_of_toNat_eq (by rw [BitVec.toNat_ofNat]; omega)
    rw [← e1, ← e2]

theorem len_toNat {p : List Byte} (hp : p.length ≤ 250) : (BitVec.ofNat 8 p.length).toNat = p.length := by
  rw [BitVec.toNat_ofNat]
  omega

/-- R194: what a hunting receiver makes of a frame with the CRC bytes `hi` and `lo`. -/
theorem Receiver.feed_request (q c hi lo : Byte) {p : List Byte} (hp : p.length ≤ 250) :
    Receiver.feed .hunting (0xC3 :: BitVec.ofNat 8 p.length :: q :: c :: p ++ [hi, lo]) =
      (.hunting, if hi.toNat * 256 + lo.toNat = (crc16 (BitVec.ofNat 8 p.length :: q :: c :: p)).toNat
        then [BitVec.ofNat 8 p.length :: q :: c :: p] else []) := by
  have hbody := Receiver.feed_frame (len := BitVec.ofNat 8 p.length) (by rw [len_toNat hp]; exact hp)
    (body := q :: c :: p ++ [hi, lo]) (by rw [len_toNat hp]; simp)
  have hc := completed_append (BitVec.ofNat 8 p.length :: q :: c :: p) hi lo
  simp only [beq_iff_eq, bytes_eq_be16] at hc
  refine hbody.trans ?_
  rw [← hc]
  rfl

/-- R194: a frame as it is sent gives one valid frame. -/
theorem Receiver.feed_sent (q c : Byte) {p : List Byte} (hp : p.length ≤ 250) :
    Receiver.feed .hunting (frame q c p) = (.hunting, [BitVec.ofNat 8 p.length :: q :: c :: p]) := by
  obtain ⟨hi, lo, he⟩ : ∃ hi lo, be16 (crc16 (BitVec.ofNat 8 p.length :: q :: c :: p)).toNat = [hi, lo] := ⟨_, _, rfl⟩
  have hv := (bytes_eq_be16 hi lo (crc16 (BitVec.ofNat 8 p.length :: q :: c :: p))).1 he.symm
  have := Receiver.feed_request q c hi lo hp
  rw [if_pos hv] at this
  unfold frame frameBody
  dsimp only
  rw [he]
  exact this

/-! ## Frames there and back -/

/-- R195: a code that names no request decodes to the command for such a code. -/
theorem decodeFrame_unknown {q c : Byte} {p : List Byte} (h : namesRequest c = false) :
    decodeFrame ⟨q, c, p⟩ = .unknownCode q c p := by
  have hc : c.toNat = 0 ∨ 44 ≤ c.toNat := by
    unfold namesRequest at h
    simp at h
    omega
  unfold decodeFrame
  dsimp only
  split <;> first | rfl | omega

/-- 12.3: the frame of a request decodes to it. -/
theorem decodeFrame_encodeFrame {i : Instr} {f : FrameContent} (hf : encodeFrame i = some f) (hw : i.wellFormed = true) :
    decodeFrame f = i := by
  cases i <;> cases hf
  case unknownCode q c p =>
    simp only [Instr.wellFormed, Bool.and_eq_true, Bool.not_eq_true'] at hw
    exact decodeFrame_unknown hw.1
  case readPlan q p =>
    simp only [Instr.wellFormed, Bool.and_eq_true, bne_iff_ne, ne_eq] at hw
    exact if_neg hw.1
  all_goals rfl

/-- R197: the reasons numbered 1 to 13 in the order of the table. -/
theorem Reason.num_of_getElem? {n : Nat} {r : Reason}
    (h : [Reason.badLength, .unknownCode, .badField, .noPlan, .planInUse, .planTableFull, .queueFull, .duplicateTag, .noJob,
      .wrongState, .interlock, .busy, .empty][n]? = some r) : r.num = n + 1 := by
  have hn : n < 13 := by
    obtain ⟨hn, -⟩ := List.getElem?_eq_some_iff.1 h
    exact hn
  interval_cases n <;> cases h <;> rfl

/-- Settles O5. -/
theorem frameRoundTrip : Obligations.FrameRoundTrip := by
  unfold Obligations.FrameRoundTrip
  refine ⟨fun i f hw hf => ⟨decodeFrame_encodeFrame hf hw, Receiver.feed_sent _ _ (payload_fits hf hw)⟩,
    fun q c m => ⟨fun fields hl => ?_, fun r n detail hr => ?_⟩⟩
  · have := Receiver.feed_sent q (c + 0x80) (p := m :: (fields.map Wire.bytes).flatten) (by simp only [List.length_cons]; omega)
    rw [List.length_cons, Nat.add_comm] at this
    exact this
  · have := Receiver.feed_sent q 0x7F (p := [m, c, BitVec.ofNat 8 r.num, BitVec.ofNat 8 detail.toNat]) (by simp)
    rw [Reason.num_of_getElem? hr, BitVec.ofNat_toNat, BitVec.setWidth_eq] at this
    unfold Reply.frame Reply.payload Reply.frameCode
    dsimp only
    rw [Reason.num_of_getElem? hr, BitVec.ofNat_toNat, BitVec.setWidth_eq]
    exact this

/-! ## Discarded bytes -/

theorem State.takesFrames_of_sending {s : State} (h : s.link.sending = true) : s.takesFrames = false := by
  simp [State.takesFrames, h]

/-- R194: while the part sends, a request has no effect. -/
theorem exec_of_sending {i : Instr} {f : FrameContent} {s : State} (hf : encodeFrame i = some f) (hs : s.link.sending = true) :
    exec i s = .next s := by
  have hn := State.takesFrames_of_sending hs
  have served : ∀ (q c : Byte) (p : List Byte) (d : State → Decision), Host.Outcome.next (s.serve q c p d) =
      (Host.Outcome.next s : Host.Outcome State Fault Refusal) := fun q c p d => by rw [State.serve_of_not_takes hn]
  cases i
  case unknownCode q c p =>
    show Host.Outcome.next _ = _
    split
    · rfl
    · exact served _ _ _ _
  case readEvents q p =>
    show Host.Outcome.next (s.readEvents q p) = _
    unfold State.readEvents
    rw [if_neg (by simp [hn])]
  all_goals first | exact served _ _ _ _ | cases hf

/-- Settles O6. -/
theorem discardedFrameHasNoEffect : Obligations.DiscardedFrameHasNoEffect := by
  unfold Obligations.DiscardedFrameHasNoEffect
  refine ⟨fun i f s hf hs => exec_of_sending hf hs, fun bytes s ht he => ?_, fun q c hi lo p hp hne => ?_, fun len hl => ?_,
    fun x s ht => ?_⟩
  · show Host.Outcome.next _ = _
    rw [if_pos ht]
    dsimp only
    rw [if_pos (by rw [he]; rfl)]
    rfl
  · rw [Receiver.feed_request q c hi lo hp, if_neg hne]
  · have h1 : Receiver.take .hunting 0xC3 = ⟨.assembling [], none⟩ := rfl
    have h2 : Receiver.take (.assembling []) len = ⟨.hunting, none⟩ := by
      simp only [Receiver.take]
      rw [if_pos hl]
    rw [Receiver.feed, h1]
    dsimp only
    rw [Receiver.feed, h2]
    rfl
  · show Host.Outcome.next _ = _
    rw [if_pos ht]
    rfl

/-! ## The link's own requests -/

/-- R200: the clamp of a link timeout. -/
theorem clampTimeout_eq (v : Nat) :
    clampTimeout v = if v = 0 then 0 else if v < 100 then 100 else if v ≤ 5000 then v else 5000 := by
  unfold clampTimeout
  split_ifs <;> omega

@[simp] theorem u16At_pair (hi lo : Byte) (p : List Byte) : u16At (hi :: lo :: p) 0 = hi.toNat * 256 + lo.toNat := rfl

/-- R199: byte `k` of the event set. -/
theorem eventBytes_getElem (x : BitVec 96) {k : Nat} (h : k < 12) :
    (eventBytes x)[k]? = some (.u8 ((x >>> (8 * k)).toNat % 256)) := by
  simp [eventBytes, h]

/-- Settles O7. -/
theorem linkRequestsServed : Obligations.LinkRequestsServed := by
  unfold Obligations.LinkRequestsServed
  refine ⟨fun q s ht => ⟨?_, fun hi lo v n hv hn => ?_⟩, fun q s ht => ⟨?_, rfl, fun e he => ?_⟩, fun q s ht => ?_, fun s hs => ?_⟩
  · exact congrArg Host.Outcome.next (State.serveFixed_answered ht rfl (by decide) q 0x01 decideIdentify rfl rfl)
  · have hs : s.serveFixed q 0x02 2 [hi, lo] (decideSetLink [hi, lo]) = _ := State.serve_of_takes ht (by simp) q 0x02 _
    show Host.Outcome.next _ = _
    rw [hs]
    unfold decideSetLink checkLength
    simp only [List.length_cons, List.length_nil, if_pos, u16At_pair, clampTimeout_eq, ← hv, ← hn]
    rfl
  · show Host.Outcome.next (s.readEvents q []) = _
    unfold State.readEvents
    rw [if_pos (by simp [ht])]
    rfl
  · refine ⟨_, eventBytes_getElem s.events (by omega), Nat.mod_lt _ (by decide), ?_⟩
    have h8 : e.bit % 8 < 8 := Nat.mod_lt _ (by decide)
    rw [show (256 : Nat) = 2 ^ 8 from rfl, Nat.testBit_mod_two_pow, BitVec.toNat_ushiftRight, Nat.testBit_shiftRight,
      Nat.div_add_mod]
    simp [h8, State.raised, BitVec.getLsbD]
  · have hr : s.serveFixed q 0x05 0 [] decideReset = _ := State.serve_of_takes ht (by simp) q 0x05 _
    exact congrArg Host.Outcome.next hr
  · refine ⟨s.replySent, ?_, rfl, rfl, fun hr => ?_⟩
    · show Host.Outcome.next _ = _
      rw [if_pos hs]
    · unfold State.takesFrames State.replySent
      simp [hr]

end Sys2Proof.Machine
end

section
/-! PROOF. The requests that read (R7, R8, R15, R54, R90, R144, R158, R180, R198, R204): each is answered from the state and
leaves it as it was. -/
namespace Sys2Proof.Machine

/-- A request of fixed length that its block only reads the state for: the reply carries the fields, and nothing changes. -/
theorem exec_of_accept {i : Instr} {s : State} {payload : List Byte} {n : Nat} {seq code : Byte} {decide : State → Decision}
    {fields : List Wire} (h : s.takesFrames = true) (hi : exec i s = .next (s.serveFixed seq code n payload decide))
    (hn : payload.length = n) (hl : n ≤ 250) (hd : decide s.frameTaken = s.frameTaken.accept fields) :
    exec i s = .next (answered s seq code (.accepted fields)) := by
  have hs : (decide s.frameTaken).state = { s with link := s.frameTaken.link } := by rw [hd]; rfl
  rw [hi, State.serveFixed_answered h hn hl seq code decide hs rfl, hd]
  rfl

/-- The same of a request refused by its block. -/
theorem exec_of_refuse {i : Instr} {s : State} {payload : List Byte} {n : Nat} {seq code : Byte} {decide : State → Decision}
    {r : Reason} {d : Nat} (h : s.takesFrames = true) (hi : exec i s = .next (s.serveFixed seq code n payload decide))
    (hn : payload.length = n) (hl : n ≤ 250) (hd : decide s.frameTaken = ⟨s.frameTaken, .refused r d⟩) :
    exec i s = .next (answered s seq code (.refused r d)) := by
  rw [hi, State.serveFixed_refused h hn hl seq code decide hd]

theorem queueWire_eq (n : Nat) (js : List Job) :
    queueWire n js = ((js.zipIdx n).map (fun x => jobWire x.2 x.1)).flatten := by
  induction js generalizing n with
  | nil => rfl
  | cons j js ih => simp [queueWire, ih]

theorem ite_isSome {α β : Type} (x : Option α) (u v : β) : (if x.isSome = true then u else v) = if x = none then v else u := by
  cases x <;> rfl

/-- R138: a channel has not FAILED up to a fault count of 255. -/
theorem Health.ofCount_ne_failed (n : Nat) : (Health.ofCount n != .failed) = decide (n ≤ 255) := by
  rw [Bool.eq_iff_iff]
  simp [Health.ofCount_failed]

/-- R158: a manual transaction was a read of a head module's status block. -/
theorem Manual.isStatus_iff (m : Manual) :
    m.isStatus = true ↔ m.kind = .readBlock ∧ m.cmd = 0x10 ∧ (m.addr = 0x2A ∨ m.addr = 0x2B) := by
  simp [Manual.isStatus, headAddr, and_assoc]

theorem codeClass_num (c : Byte) :
    (codeClass c).num = if c = 0x40 then 0 else if c = 0x80 then 1 else if c = 0x81 then 2 else 3 := by
  unfold codeClass
  split_ifs <;> rfl

theorem decideBusResult_frameTaken (s : State) :
    decideBusResult s.frameTaken =
      s.frameTaken.accept
        ([.u8 s.bus.schedule.num, Wire.flag s.bus.round.isSome, .u8 ((s.bus.round.map BoomId.num).getD 0)]
          ++ [.u8 (if s.bus.txn.isSome then 7 else 0), Wire.flag (s.bus.txn.any (·.manual)),
            .u8 ((s.bus.txn.map (·.kind.num)).getD 0), .u8 ((s.bus.txn.map (·.addr.toNat)).getD 0)]
          ++ pollEndingWire (s.head .A).lastPoll ++ pollEndingWire (s.head .B).lastPoll ++ s.bus.manual.wire) := rfl

/-- Settles O10: each read's fields, item by item of its layout. -/
theorem readsChangeNothing : Obligations.ReadsChangeNothing := by
  unfold Obligations.ReadsChangeNothing
  refine ⟨?reads, ?plans⟩
  case plans =>
    intro q id s h
    refine ⟨fun hid p hp => ?_, fun hid hp => ?_, ?_⟩
    · refine exec_of_accept h rfl rfl (by decide) ?_
      have hf : findPlan s.frameTaken.plans id.toNat = some p := hp
      simp [decideReadPlan, byte_toNat_ne_zero hid, hf]
    · refine exec_of_refuse h rfl rfl (by decide) ?_
      have hf : findPlan s.frameTaken.plans id.toNat = none := hp
      simp [decideReadPlan, byte_toNat_ne_zero hid, hf, State.refuse]
    · exact exec_of_accept h rfl rfl (by decide) rfl
  case reads =>
    intro q b s h opt8 opt16 way pair setting sense age status active queued e boom request channel head inputs channels slot x
      statusRead manual
    refine ⟨?status, ?queue, ?boom, ?flow, ?channels, ?monitors, ?bus, ?calibration⟩
    case status =>
      refine exec_of_accept h rfl rfl (by decide) ?_
      have hway : way = dirWire := by
        funext d
        rcases d with _ | _ | _ <;> rfl
      have hpair : s.frameTaken.pairWire = pair := by
        funext i
        simp only [State.pairWire, State.frameTaken_pair, Pair.coilWire, pair, hway]
        rcases i with ⟨c, f⟩ | _
        · simp only [State.gateOpen, State.frameTaken_closed]
          cases (s.pair (.boom c f)).coil <;> cases (s.pair (.boom c f)).monitor <;> rfl
        · cases (s.pair .canopy).coil <;> cases (s.pair .canopy).monitor <;> rfl
      have hsense : (fun c => (s.frameTaken.sensing c).wire) = sense := by
        funext c
        simp only [State.frameTaken_sensing, Sensing.wire, sense, SettingState.wire, setting, ite_isSome, Sensing.markByte]
      have hage : (fun x : Option Timestamp => (x.map (since s.now)).getD 0) = age := by
        funext x
        cases x <;> rfl
      have hstatus : s.frameTaken.statusWire = status := by
        simp only [State.statusWire, State.canopyWire, State.driversWire, ite_isSome, hpair, congrFun hsense, status, ← congrFun hage]
        rfl
      rw [← hstatus]
      rfl
    case queue =>
      refine exec_of_accept h rfl (by rfl) (by decide) ?_
      have hactive : s.frameTaken.activeWire b = active := by
        simp only [State.activeWire, State.frameTaken_boom, active]
        cases hj : (s.boom b).active with
        | none => rfl
        | some j =>
          have hjob : s.frameTaken.activeJob b = j := by simp [State.activeJob, hj]
          have hplan : s.frameTaken.activePlan b = s.activePlan b := by cases b <;> rfl
          simp only [State.activeValues, hplan, hjob]
          rfl
      have hqueued : queued = (fun x => jobWire x.2 x.1) := by
        funext x
        simp only [queued, jobWire, ite_isSome]
      rw [← hactive, hqueued, ← queueWire_eq]
      cases b <;> rfl
    case boom =>
      refine exec_of_accept h rfl (by rfl) (by decide) ?_
      have hboom : s.frameTaken.boomWire b = boom := by
        simp only [State.boomWire, State.frameTaken_engine, State.frameTaken_boom, boom, beq_iff_eq, ite_isSome]
        refine congrArg₂ (· ++ ·) (congrArg₂ (· ++ ·) (congrArg₂ (· ++ ·) (congrArg₂ (· ++ ·) (congrArg₂ (· ++ ·) (congrArg₂ (· ++ ·)
          (congrArg₂ (· ++ ·) (congrArg₂ (· ++ ·) ?step ?job) rfl) ?depth) ?strokes) rfl) ?torque) rfl) ?jog
        case step => cases e.sub <;> rfl
        case job => cases (s.boom b).active <;> rfl
        case depth =>
          have hdepth : s.frameTaken.depth b = (s.logger b).collarZero.map (fun z => ((s.motion b).feedPos : Int) - z) := by
            cases b <;> rfl
          have hlogger : s.frameTaken.logger b = s.logger b := by cases b <;> rfl
          rw [hdepth, hlogger]
          cases (s.logger b).collarZero <;> rfl
        case strokes => cases e.n <;> rfl
        case torque => by_cases ht : (s.engine b).state = .torque <;> simp [e, ht]
        case jog => cases e.jog <;> rfl
      rw [← hboom]
      cases b <;> rfl
    case flow =>
      refine exec_of_accept h rfl rfl (by decide) ?_
      have hrequest : FlowReq.wire = request := by
        funext r
        rcases r with ⟨⟨_ | _⟩ | _, _, _, _, _⟩ <;> rfl
      rw [← hrequest]
      rfl
    case channels =>
      refine exec_of_accept h rfl rfl (by decide) ?_
      have hchannel : (fun c => (s.frameTaken.analog c).wire c) = channel := by
        funext c
        simp only [Analog.wire, State.frameTaken_analog, Analog.valid, Analog.health, Health.ofCount_ne_failed, channel]
        rfl
      have hhead : (fun c => (s.frameTaken.head c).wire s.now) = head := by
        funext c
        simp only [Head.wire, State.frameTaken_head, Head.valid, Head.health, Health.ofCount_ne_failed, head]
        cases (s.head c).data <;> rfl
      have hinputs : s.frameTaken.motionWire = inputs := by
        funext c
        simp only [State.motionWire, State.frameTaken_analog, State.frameTaken_motion, State.frameTaken_closed, Analog.valid,
          Analog.health, Health.ofCount_ne_failed, inputs]
        cases c <;> rfl
      simp only [channels, ← hchannel, ← hhead, ← hinputs]
      rfl
    case monitors =>
      refine exec_of_accept h rfl rfl (by decide) ?_
      have hslot : (fun n => (s.frameTaken.monitor n).wire n) = slot := by
        funext n
        have hm : s.frameTaken.monitor n = s.monitor n := rfl
        simp only [Monitor.wire, hm, Source.wire, slot]
        cases (s.monitor n).cfg.source with
        | value c => cases c <;> rfl
        | _ => rfl
      rw [← hslot]
      rfl
    case bus =>
      refine exec_of_accept h rfl rfl (by decide) ?_
      have hmanual : s.bus.manual.wire = manual := by
        change x.wire = manual
        simp only [manual, statusRead]
        clear_value x
        rcases x with ⟨_ | _ | data | ⟨e, n⟩, kind, addr, cmd⟩
        case none => rfl
        case inProgress => rfl
        case done =>
          have hdata : Manual.data ⟨.done data, kind, addr, cmd⟩ = if kind = .readBlock then data else [] := by
            cases kind <;> rfl
          have hclass : (Manual.codeClass ⟨.done data, kind, addr, cmd⟩) =
              if kind = .readBlock ∧ cmd = 0x10 ∧ (addr = 0x2A ∨ addr = 0x2B) then some (codeClass (data.headD 0)) else none := by
            simp only [Manual.codeClass, Manual.isStatus_iff]
          simp only [Manual.wire, hdata, hclass]
          by_cases hread : kind = .readBlock ∧ cmd = 0x10 ∧ (addr = 0x2A ∨ addr = 0x2B)
          · simp only [if_pos hread, ← codeClass_num]
            rfl
          · simp only [if_neg hread]
            rfl
        case error => cases n <;> rfl
      refine (decideBusResult_frameTaken s).trans (congrArg s.frameTaken.accept ?_)
      refine congrArg₂ (· ++ ·) (congrArg₂ (· ++ ·) (congrArg₂ (· ++ ·) (congrArg₂ (· ++ ·) ?round ?txn) ?polledA) ?polledB) hmanual
      case round => rcases s.bus.round with _ | _ | _ <;> rfl
      case txn => cases s.bus.txn <;> rfl
      case polledA =>
        beta_reduce
        rcases (s.head .A).lastPoll with _ | _ | _ <;> rfl
      case polledB =>
        beta_reduce
        rcases (s.head .B).lastPoll with _ | _ | _ <;> rfl
    case calibration => exact exec_of_accept h rfl rfl (by decide) rfl
end Sys2Proof.Machine
end

section
/-! PROOF. The byte layouts of 12.4 that are read back (plan records, calibration sets), the record pages of FETCH RECORD, and the
requests of chapter 1 that fill the plan table and the queues. -/
namespace Sys2Proof.Machine

section
variable {i : Instr} {s : State} {payload : List Byte} {n : Nat} {seq code : Byte} {decide : State → Decision}

/-- A request of fixed length, taken and decided, is answered with its decision. -/
theorem exec_of_decides {u : State} {a : Answer} (h : s.takesFrames = true)
    (hi : exec i s = .next (s.serveFixed seq code n payload decide)) (hn : payload.length = n) (hl : n ≤ 250)
    (hd : decide s.frameTaken = ⟨{ u with link := s.frameTaken.link }, a⟩) (hk : u.link = s.link) :
    exec i s = .next (answered u seq code a) := by
  have hs : (decide s.frameTaken).state = { u with link := s.frameTaken.link } := by rw [hd]
  rw [hi, State.serveFixed_answered h hn hl seq code decide hs hk, hd]
end

/-! ## Words of a layout -/

theorem be16_toNat {n : Nat} (h : n < 65536) : (BitVec.ofNat 8 (n / 256)).toNat * 256 + (BitVec.ofNat 8 n).toNat = n := by
  simp only [BitVec.toNat_ofNat]
  omega

/-- The bytes of a list of two-byte values. -/
def wordBytes (ws : List Nat) : List Byte := (ws.map be16).flatten

theorem wordBytes_length (ws : List Nat) : (wordBytes ws).length = 2 * ws.length := by
  induction ws with
  | nil => rfl
  | cons w ws ih => simp [wordBytes, be16_length] at ih ⊢; omega

theorem u16At_cons (x : Byte) (p : List Byte) (k : Nat) : u16At (x :: p) (k + 1) = u16At p k := rfl

/-- R198: the `k`-th of a list of two-byte values is read back from its two bytes. -/
theorem u16At_wordBytes {ws : List Nat} (h : ∀ w ∈ ws, w < 65536) (k : Nat) : u16At (wordBytes ws) (2 * k) = ws.getD k 0 := by
  induction ws generalizing k with
  | nil => simp [wordBytes, u16At, byteAt]
  | cons w ws ih =>
    have hcons : wordBytes (w :: ws) = BitVec.ofNat 8 (w / 256) :: BitVec.ofNat 8 w :: wordBytes ws := rfl
    rw [hcons]
    cases k with
    | zero => rw [u16At_pair, be16_toNat (h w (by simp))]; rfl
    | succ k => rw [Nat.mul_succ, u16At_cons, u16At_cons, ih (fun x hx => h x (by simp [hx]))]; rfl

/-! ## Calibration sets -/

theorem calValues_calBytes {vals : List Nat} (hl : vals.length = 96) (h : ∀ v ∈ vals, v < 65536) :
    calValues (calBytes vals) = vals := by
  apply List.ext_getElem
  · simp [calValues, hl]
  · intro k hk hk'
    have hu : u16At (calBytes vals) (2 * k) = vals.getD k 0 := u16At_wordBytes h k
    simp [calValues, hu, List.getD_eq_getElem?_getD, hk']

/-! ## Plan records -/

theorem optAt_isSome (x : Option Nat) : optAt x.isSome (x.getD 0) = x := by cases x <;> rfl

/-- The two-byte values of a plan record, the four-byte ones as two each. -/
def HolePlan.words (p : HolePlan) : List Nat :=
  [p.id, p.holeLength, p.bondLength, p.contact, p.collarDepth, p.approachFeed, p.collarFeed, p.collarRot, p.drillFeed,
    p.drillRot, p.hardFeed.getD 0, p.voidFeed.getD 0, p.jam, p.retryLimit, p.autoRetry, p.drillLimit, p.kf, p.voidMax,
    p.softMax, p.hardMin, p.dropTime.getD 0, p.fill, p.wv, p.ws, p.base, p.maxCart, p.pushFeed, p.pushContact, p.mixRot,
    p.mixCount, p.mixLimit, p.gelTime / 65536, p.gelTime % 65536, p.torqueWindow / 65536, p.torqueWindow % 65536,
    p.holdFeed, p.torqueRot, p.torqueTarget, p.torqueLimit.getD 0, p.torqueTime, p.retractDuty, p.releaseDuty]

def HolePlan.presence (p : HolePlan) : Nat :=
  (if p.hardFeed.isSome then 1 else 0) + (if p.voidFeed.isSome then 2 else 0) + (if p.dropTime.isSome then 4 else 0)
    + (if p.torqueLimit.isSome then 8 else 0)

/-- The presence bits of a plan record, read back. -/
theorem HolePlan.presence_bits (p : HolePlan) :
    (BitVec.ofNat 8 p.presence).toNat.testBit 0 = p.hardFeed.isSome ∧
      (BitVec.ofNat 8 p.presence).toNat.testBit 1 = p.voidFeed.isSome ∧
      (BitVec.ofNat 8 p.presence).toNat.testBit 2 = p.dropTime.isSome ∧
      (BitVec.ofNat 8 p.presence).toNat.testBit 3 = p.torqueLimit.isSome := by
  unfold HolePlan.presence
  generalize p.hardFeed.isSome = w
  generalize p.voidFeed.isSome = x
  generalize p.dropTime.isSome = y
  generalize p.torqueLimit.isSome = z
  revert w x y z
  decide

theorem planWire_bytes (p : HolePlan) :
    ((planWire p).map Wire.bytes).flatten = BitVec.ofNat 8 p.presence :: wordBytes p.words := by
  have hmod (n : Nat) : be16 (n % 65536) = be16 n := by
    simp only [be16, List.cons.injEq, and_true]
    constructor <;> apply BitVec.eq_of_toNat_eq <;> simp only [BitVec.toNat_ofNat] <;> omega
  simp [planWire, Wire.bytes, wordBytes, HolePlan.words, HolePlan.presence, hmod]

theorem optWithin_getD {lo hi : Nat} {x : Option Nat} (h : optWithin lo x hi = true) : x.getD 0 ≤ hi := by
  cases x with
  | none => simp
  | some n => simp [optWithin, within] at h; exact h.2

/-- R1: every value of a plan that passes the field check fits its two bytes. -/
theorem HolePlan.words_lt {p : HolePlan} (h : ∀ n, 1 ≤ n → n ≤ 30 → p.fieldOk n = true) : ∀ w ∈ p.words, w < 65536 := by
  have fields : ∀ n ∈ List.range' 1 30, p.fieldOk n = true := fun n hn => h n (by simp at hn; omega) (by simp at hn; omega)
  simp only [List.range'_succ, List.range'_zero, List.forall_mem_cons, List.not_mem_nil, HolePlan.fieldOk, within,
    Bool.and_eq_true, decide_eq_true_eq, Nat.reduceAdd] at fields
  obtain ⟨f1, f2, f3, f4, f5, f6, f7, f8, f9, f10, f11, f12, f13, f14, f15, f16, f17, f18, f19, f20, f21, f22, f23, f24, f25, f26, f27,
    f28, f29, f30, -⟩ := fields
  have g8 := optWithin_getD f8
  have g9 := optWithin_getD f9
  have g16 := optWithin_getD f16
  have g28 := optWithin_getD f28
  simp only [HolePlan.words, List.forall_mem_cons, List.not_mem_nil, false_implies, implies_true, and_true]
  refine ⟨by omega, by omega, by omega, ?_⟩
  omega

theorem HolePlan.firstBad_none {p : HolePlan} (h : p.firstBad = none) : ∀ n, 1 ≤ n → n ≤ 30 → p.fieldOk n = true := by
  intro n h1 h30
  have := List.find?_eq_none.1 h n (by simp; omega)
  simpa using this

/-- Settles O12. -/
theorem recordLayoutsRoundTrip : Obligations.RecordLayoutsRoundTrip := by
  unfold Obligations.RecordLayoutsRoundTrip
  refine ⟨fun p hp => ?_, fun vals hl h => ⟨calValues_calBytes hl h, ?_⟩⟩
  · have hlt := HolePlan.words_lt (HolePlan.firstBad_none hp)
    rw [planWire_bytes]
    refine ⟨?_, ?_⟩
    · have hvalue (k : Nat) : planValue (BitVec.ofNat 8 p.presence :: wordBytes p.words) k = p.words.getD k 0 := by
        rw [planValue, Nat.add_comm, u16At_cons, u16At_wordBytes hlt]
      have htail (k : Nat) : planTail (BitVec.ofNat 8 p.presence :: wordBytes p.words) k = p.words.getD (35 + k) 0 := by
        rw [planTail, show 71 + 2 * k = 2 * (35 + k) + 1 by omega, u16At_cons, u16At_wordBytes hlt]
      have hlong (k : Nat) : u32At (BitVec.ofNat 8 p.presence :: wordBytes p.words) (2 * k + 1) =
          p.words.getD k 0 * 65536 + p.words.getD (k + 1) 0 := by
        rw [u32At, u16At_cons, u16At_wordBytes hlt, show 2 * k + 1 + 2 = 2 * (k + 1) + 1 by omega, u16At_cons, u16At_wordBytes hlt]
      obtain ⟨b0, b1, b2, b3⟩ := p.presence_bits
      have hgel := hlong 31
      have hwindow := hlong 33
      simp only [planOf, hvalue, htail, byteAt_zero, b0, b1, b2, b3, hgel, hwindow, Nat.reduceAdd]
      simp only [HolePlan.words, List.getD_cons_succ, List.getD_cons_zero, optAt_isSome, Nat.div_add_mod']
    · rw [List.length_cons, wordBytes_length]
      rfl
  · have := wordBytes_length vals
    rw [hl] at this
    exact this

end Sys2Proof.Machine
end

section
/-! PROOF. The record pages of FETCH RECORD, and the requests of chapter 1 that fill the plan table and the queues. -/
namespace Sys2Proof.Machine

/-! ## FETCH RECORD -/

theorem decideFetch_frameTaken {s : State} {r : InstRecord} {rest : List InstRecord} (h : s.store.records = r :: rest) (p : Byte) :
    decideFetch [p] s.frameTaken =
      if r.pages ≤ p.toNat then s.frameTaken.badField 1 else s.frameTaken.accept (s.recordPage r p.toNat) := by
  have hr : s.frameTaken.store.records = r :: rest := h
  simp only [decideFetch, hr, byteAt_zero, ge_iff_le]
  rfl

/-- Settles O11. -/
theorem fetchRecordPages : Obligations.FetchRecordPages := by
  unfold Obligations.FetchRecordPages
  intro q p s h
  refine ⟨fun he => ?_, fun r rest hr => ?_⟩
  · refine exec_of_refuse h rfl rfl (by decide) ?_
    have he' : s.frameTaken.store.records = [] := he
    simp only [decideFetch, he']
    rfl
  · intro bit stamp outcome fault header entry first es slicePage count
    have hboom : (if r.boom = .A then 0 else 1) = r.boom.num := by cases r.boom <;> rfl
    have hstamp : stamp = stampWire := by
      funext x
      cases x <;> rfl
    have houtcome : (r.outcome.map JobOutcome.num).getD 0 = outcome := by
      simp only [outcome]
      rcases r.outcome with _ | ⟨_ | _⟩ <;> rfl
    have hfault : faultNum r.fault = fault := by
      simp only [fault, faultNum]
      rcases r.fault with _ | ⟨_ | _⟩ <;> rfl
    have hheader : r.header = header := by
      simp only [InstRecord.header, houtcome, hfault, header, hboom, hstamp]
      rfl
    have hentry : SliceEntry.wire = entry := by
      funext e
      simp only [SliceEntry.wire, entry]
      cases e.cls <;> rfl
    have hslices : r.slicePage p.toNat = slicePage := by
      simp only [slicePage, ← hentry]
      rfl
    have hpages : r.pages = count := rfl
    refine ⟨fun hp => ?_, fun hp => ?_, rfl, ?_⟩
    · refine exec_of_refuse h rfl rfl (by decide) ?_
      rw [decideFetch_frameTaken hr, hpages, if_pos hp]
      rfl
    · refine exec_of_accept h rfl rfl (by decide) ?_
      rw [decideFetch_frameTaken hr, hpages, if_neg (by omega), State.recordPage, hheader, hslices, hpages]
    · have hes (es : List SliceEntry) : (((es.map entry).flatten).map Wire.bytes).flatten.length = 6 * es.length := by
        induction es with
        | nil => rfl
        | cons e es ih => simp only [List.map_cons, List.flatten_cons, List.map_append, List.flatten_append, List.length_append, ih,
            List.length_cons]; rw [Nat.mul_succ, Nat.add_comm]; rfl
      simp only [slicePage, List.map_append, List.flatten_append, List.length_append, hes]
      rfl

/-! ## LOAD PLAN -/

theorem insertPlan_length_of_not_found (p : HolePlan) {ps : List HolePlan} (hf : findPlan ps p.id = none) :
    (insertPlan p ps).length = ps.length + 1 := by
  induction ps with
  | nil => rfl
  | cons x xs ih =>
    have hx : p.id ≠ x.id := fun e => by simp [findPlan, e] at hf
    have hxs : findPlan xs p.id = none := by
      simp [findPlan] at hf ⊢
      exact hf.2
    unfold insertPlan
    split_ifs
    · rfl
    · simp [ih hxs]

/-- R3: a plan's first bad field. -/
theorem HolePlan.firstBad_eq_some {p : HolePlan} {n : Nat} (h1 : 1 ≤ n) (h30 : n ≤ 30) (hn : p.fieldOk n = false)
    (hm : ∀ m, 1 ≤ m → m < n → p.fieldOk m = true) : p.firstBad = some n := by
  refine List.find?_range'_eq_some.2 ⟨by simp [hn], by simp; omega, fun j h1 hj => ?_⟩
  simp [hm j h1 hj]

theorem HolePlan.firstBad_eq_none {p : HolePlan} (h : ∀ n, 1 ≤ n → n ≤ 30 → p.fieldOk n = true) : p.firstBad = none := by
  refine List.find?_eq_none.2 fun n hn => ?_
  simp at hn
  simp [h n (by omega) (by omega)]

/-- Settles O13. -/
theorem loadPlanDecidedByTable : Obligations.LoadPlanDecidedByTable := by
  unfold Obligations.LoadPlanDecidedByTable
  refine ⟨fun q payload n s h hl h1 h30 hn hm => ?_, fun q payload s h hl hok hsorted => ?_⟩
  · refine exec_of_refuse h rfl hl (by decide) ?_
    rw [decideLoadPlan, HolePlan.firstBad_eq_some h1 h30 hn hm]
    rfl
  · intro p
    have hgood : p.firstBad = none := HolePlan.firstBad_eq_none hok
    have hdecide : decideLoadPlan payload s.frameTaken =
        if (findPlan s.plans p.id).isSome then
          if 0 < s.refs p.id then s.frameTaken.refuse .planInUse else s.frameTaken.loadPlan p true
        else if s.plans.length < 16 then s.frameTaken.loadPlan p false else s.frameTaken.refuse .planTableFull := by
      rw [decideLoadPlan, hgood]
      rfl
    have hplaced (h' : (findPlan s.plans p.id).isSome = true ∧ s.refs p.id = 0 ∨
        (findPlan s.plans p.id).isSome = false ∧ s.plans.length < 16) :
        decideLoadPlan payload s.frameTaken = s.frameTaken.loadPlan p (findPlan s.plans p.id).isSome := by
      rw [hdecide]
      rcases h' with ⟨hs, hr⟩ | ⟨hs, hr⟩ <;> simp [hs, hr]
    refine ⟨fun hs hr => ?_, fun hs hr => ?_, fun h' => ⟨insertPlan p s.plans, ?_, findPlan_insertPlan_self p _,
      fun id hid => findPlan_insertPlan_of_ne p _ hid, (insertPlan_sorted p _ hsorted).1, ?_⟩⟩
    · refine exec_of_refuse h rfl hl (by decide) ?_
      rw [hdecide, if_pos hs, if_pos hr]
      rfl
    · refine exec_of_refuse h rfl hl (by decide) ?_
      rw [hdecide, if_neg (by simp [hs]), if_neg (by omega)]
      rfl
    · exact exec_of_decides (u := { s with plans := insertPlan p s.plans }) h rfl hl (by decide) (hplaced h') rfl
    · split
      · next hs => rw [insertPlan_length_of_found p hsorted hs, Nat.add_zero]
      · next hs => exact insertPlan_length_of_not_found p (by simpa using hs)

/-! ## QUEUE JOB -/

/-- R13: a boom whose queue a job has joined: IDLE becomes READY. -/
def BoomState.queuedTo (x : BoomState) (j : Job) : BoomState :=
  { x with
    queue := x.queue ++ [j]
    engine :=
      if x.engine.state = .idle then { x.engine with state := .ready, sub := .none, leg := none, resume := none }
      else x.engine }

@[simp] theorem BoomState.queuedTo_active (x : BoomState) (j : Job) : (x.queuedTo j).active = x.active := rfl
@[simp] theorem BoomState.queuedTo_queue (x : BoomState) (j : Job) : (x.queuedTo j).queue = x.queue ++ [j] := rfl

theorem State.appendJob_eq (s : State) (b : BoomId) (j : Job) :
    s.appendJob b j = s.setBoom b ((s.boom b).queuedTo j) := by
  unfold State.appendJob BoomState.queuedTo
  by_cases h : (s.boom b).engine.state = .idle
  · cases b <;> simp [State.engine, h] <;> rfl
  · cases b <;> simp [State.engine, h] <;> rfl

theorem State.refs_queuedTo (s : State) (b : BoomId) (j : Job) :
    (s.setBoom b ((s.boom b).queuedTo j)).refs j.planId = s.refs j.planId + 1 := by
  have hother : otherBoom b ≠ b := by cases b <;> decide
  rw [State.refs_eq_countP _ b, State.refs_eq_countP s b]
  simp only [State.setBoom_boom, if_true, if_neg hother, BoomState.jobs, BoomState.queuedTo_active,
    BoomState.queuedTo_queue, List.countP_append, List.countP_cons, List.countP_nil, beq_self_eq_true]
  omega

section
variable {payload : List Byte} {b : BoomId} {s : State}

theorem decideQueueJob_refused {r : Reason} {n : Nat} (h : s.jobRefusal b (jobOf payload) = some (r, n)) :
    decideQueueJob payload b s = ⟨s, .refused r n⟩ := by simp only [decideQueueJob, h]

theorem decideQueueJob_queued (h : s.jobRefusal b (jobOf payload) = none) :
    decideQueueJob payload b s =
      ⟨s.setBoom b ((s.boom b).queuedTo (jobOf payload)),
        .accepted [.u8 b.num, .u16 (jobOf payload).tag, .u8 ((s.boom b).queue.length + 1),
          .u8 ((s.boom b).queue.length + 1)]⟩ := by
  simp only [decideQueueJob, h, State.appendJob_eq, State.accept, State.setBoom_boom, if_true, BoomState.queuedTo_queue,
    List.length_append, List.length_singleton]

end

/-- R12: the checks of a job on a stored plan, in their order. -/
theorem State.jobRefusal_of_plan {s : State} {b : BoomId} {j : Job} {p : HolePlan} (h0 : j.planId ≠ 0)
    (hp : findPlan s.plans j.planId = some p) :
    s.jobRefusal b j =
      if 4 ≤ (s.boom b).queue.length then some (.queueFull, 0)
      else if ∃ x ∈ (s.boom b).jobs, x.tag = j.tag then some (.duplicateTag, 0)
      else (j.firstBad p).map (fun n => (.badField, n)) := by
  simp only [State.jobRefusal, if_neg h0, hp, List.any_eq_true, beq_iff_eq, ge_iff_le]
  rfl

/-- Settles O15. -/
theorem queueJobAppends : Obligations.QueueJobAppends := by
  unfold Obligations.QueueJobAppends
  rintro q b payload s j h hl hb rfl
  have hexec : exec (.queueJob q payload) s = .next (s.serveFixed q 0x09 11 payload (decideQueueJob payload b)) := by
    have hbyte : byteAt payload 0 = b.num := by
      cases payload with
      | nil => cases hl
      | cons x xs =>
        rw [byteAt_zero, show x = BitVec.ofNat 8 b.num from hb, BoomId.num_byte]
    have hboom : withBoom b.num (decideQueueJob payload) = decideQueueJob payload b := funext fun t => withBoom_num b _ t
    show Host.Outcome.next (s.serveFixed q 0x09 11 payload (withBoom (byteAt payload 0) (decideQueueJob payload))) = _
    rw [hbyte, hboom]
  have hrefused {r : Reason} {n : Nat} (hr : s.frameTaken.jobRefusal b (jobOf payload) = some (r, n)) :
      exec (.queueJob q payload) s = .next (answered s q 0x09 (.refused r n)) :=
    exec_of_refuse h hexec hl (by decide) (decideQueueJob_refused hr)
  refine ⟨fun h0 => hrefused ?_, fun h0 hp => hrefused ?_, fun p h0 hp => ?_⟩
  · simp only [State.jobRefusal, if_pos h0]
  · have hp' : findPlan s.frameTaken.plans (jobOf payload).planId = none := hp
    simp only [State.jobRefusal, if_neg h0, hp']
  · have hchecks := State.jobRefusal_of_plan (s := s.frameTaken) (b := b) h0 hp
    rw [State.frameTaken_boom] at hchecks
    refine ⟨fun hfull => hrefused ?_, fun hroom hdup => hrefused ?_, fun hroom hnew => ⟨fun n hn => hrefused ?_, fun hgood => ?_⟩⟩
    · rw [hchecks, if_pos hfull]
    · rw [hchecks, if_neg (by omega), if_pos hdup]
    all_goals have hfresh : ¬∃ x ∈ (s.boom b).jobs, x.tag = (jobOf payload).tag := fun ⟨x, hx, ht⟩ => hnew x hx ht
    · rw [hchecks, if_neg (by omega), if_neg hfresh, hn]
      rfl
    · refine ⟨s.setBoom b ((s.boom b).queuedTo (jobOf payload)), by cases b <;> rfl, State.refs_queuedTo s b _, ?_⟩
      have haccept : s.frameTaken.jobRefusal b (jobOf payload) = none := by
        rw [hchecks, if_neg (by omega), if_neg hfresh, hgood]
        rfl
      refine exec_of_decides h hexec hl (by decide) ((decideQueueJob_queued haccept).trans ?_) (by simp)
      rw [State.frameTaken_setBoom, State.frameTaken_boom]

end Sys2Proof.Machine
end

section
/-! PROOF. One sample of a measurement channel (chapter 7): conversion, health and filter, and the restore of a FAILED channel. -/
namespace Sys2Proof.Machine

/-! ## An analog channel -/

theorem goodSample_eq (r : RawSample) : goodSample r = decide (320 ≤ r.toNat ∧ r.toNat ≤ 4032) := by
  simp [goodSample]

/-- R131: what a published sample makes of the filter. -/
theorem Analog.filter_eq (c : Analog) (ch : AnalogId) (k : Nat) (x : Int) :
    c.filter ch k x = if ch = .oil then c.filtered else some ((c.filtered.map (filterStep · x k)).getD x) := by
  unfold Analog.filter
  cases ch <;> cases c.filtered <;> rfl

/-- R132: what the first good sample makes of the filter of a FAILED channel. -/
theorem Analog.firstFilter_filtered (c : Analog) (ch : AnalogId) (x : Int) :
    c.firstFilter ch x = { c with filtered := if c.filtered = none ∧ ch ≠ .oil then some x else c.filtered } := by
  unfold Analog.firstFilter
  rcases c with ⟨_, _, _, _ | f, _, _⟩ <;> cases ch <;> rfl

theorem Analog.health_failed (c : Analog) : c.health = .failed ↔ 255 < c.count := Health.ofCount_failed _

theorem Health.ofCount_low (n : Nat) : Health.ofCount n = .healthy ∨ Health.ofCount n = .suspect ↔ n ≤ 127 := by
  unfold Health.ofCount
  split_ifs <;> simp <;> omega

section
variable {c : Analog} {ch : AnalogId} {k : Nat} {raw : RawSample} {x : Int}

/-- R138, R141: outside FAILED a sample moves the count, and a good one is published where the health then allows. -/
theorem Analog.sample_counting (h : c.count ≤ 255) :
    c.sample ch k raw x =
      let n := countAfter c.count (goodSample raw)
      if goodSample raw = true ∧ (n ≤ 127 ∨ c.value = none) then
        { c with raw := raw, good := goodSample raw, count := n, value := some x, filtered := c.filter ch k x }
      else { c with raw := raw, good := goodSample raw, count := n } := by
  have hf : ¬(Health.ofCount c.count = .failed) := by rw [Health.ofCount_failed]; omega
  simp only [Analog.sample, Analog.health, if_neg hf, ← or_assoc, Health.ofCount_low]
  rfl

/-- R143: in FAILED a sample moves the restore progress, whose end restores the channel. -/
theorem Analog.sample_failed (h : 255 < c.count) :
    c.sample ch k raw x =
      let p := restoreAfter c.restore (goodSample raw)
      if p = some 128 then
        { c with
          raw := raw, good := goodSample raw, count := 0, restore := none, value := some x, filtered := c.filter ch k x }
      else
        { c with
          raw := raw, good := goodSample raw, restore := p
          filtered := if goodSample raw = true ∧ c.filtered = none ∧ ch ≠ .oil then some x else c.filtered } := by
  have hf : Health.ofCount c.count = .failed := (Health.ofCount_failed _).2 h
  simp only [Analog.sample, Analog.health, if_pos hf, Analog.firstFilter_filtered]
  split
  · rfl
  · cases goodSample raw <;> simp

end

theorem restoreAfter_done (o : Option Nat) (good : Bool) : restoreAfter o good = some 128 ↔ o = some 127 ∧ good = true := by
  unfold restoreAfter
  cases o <;> cases good <;> simp

theorem CalStore.convert_eq (cal : CalStore) (ch : AnalogId) (r : RawSample) :
    cal.convert ch r =
      if ch = .oil then oilTemp r.toNat (cal.offset ch) (cal.gain ch) else pressure r.toNat (cal.offset ch) (cal.gain ch) := by
  cases ch <;> rfl

/-- Settles O32. -/
theorem channelTakesSample : Obligations.ChannelTakesSample := by
  unfold Obligations.ChannelTakesSample
  refine ⟨fun c ch k raw x => ?sample, fun cal ch r => ?value, fun f idle kt => ⟨fun h => ?_, ?_⟩⟩
  case sample =>
    intro good t moved
    have hgood : goodSample raw = decide good := goodSample_eq raw
    have hmoved : c.filter ch k x = if ch = .oil then c.filtered else some moved := by
      rw [Analog.filter_eq]
      simp only [moved]
      cases c.filtered <;> rfl
    rcases Nat.lt_or_ge 255 c.count with hc | hc
    · have ht : t = _ := Analog.sample_failed hc
      simp only [restoreAfter_done, hgood, hmoved, decide_eq_true_eq] at ht
      clear_value t
      split at ht
      · next hd =>
        subst ht
        exact ⟨rfl, rfl, fun h => by omega, fun _ => ⟨fun _ _ => ⟨rfl, rfl, rfl, rfl⟩, fun hn => by simp [hd] at hn⟩⟩
      · next hd =>
        subst ht
        refine ⟨rfl, rfl, fun h => by omega, fun _ => ⟨fun hr hg => absurd ⟨hr, hg⟩ hd, fun _ => ⟨fun p hp => ?_, fun hp => ?_, rfl, rfl, rfl⟩⟩⟩
        · simp [restoreAfter, hp]
        · simp [restoreAfter, hp]
    · have ht : t = _ := Analog.sample_counting hc
      have hn : countAfter c.count (decide good) = if good then c.count - 1 else min (c.count + 8) 256 := by
        simp [countAfter]
      simp only [hgood, hn, hmoved, decide_eq_true_eq] at ht
      clear_value t
      generalize (if good then c.count - 1 else min (c.count + 8) 256) = n at ht ⊢
      split at ht
      · next hp =>
        subst ht
        refine ⟨rfl, rfl, fun _ => ⟨rfl, rfl, fun _ _ => ⟨rfl, rfl⟩, fun hn => ?_⟩, fun h => by omega⟩
        rcases hn with hn | ⟨hn, hv⟩
        · exact absurd hp.1 hn
        · exact absurd hp.2 (not_or.2 ⟨by dsimp only at hn; omega, hv⟩)
      · next hp =>
        subst ht
        exact ⟨rfl, rfl, fun _ => ⟨rfl, rfl, fun hg hl => absurd ⟨hg, hl⟩ hp, fun _ => ⟨rfl, rfl⟩⟩, fun h => by omega⟩
  case value =>
    intro scaled
    have hs : (scaledTerm r.toNat (cal.offset ch) (cal.gain ch) : Int) = scaled := by
      simp only [scaledTerm, scaled]
      split <;> rfl
    refine ⟨fun hch => ?_, fun hch => ?_⟩
    · rw [CalStore.convert_eq, if_neg hch, pressure, ← hs, Nat.cast_min]
      rfl
    · rw [CalStore.convert_eq, if_pos hch, oilTemp, hs]
  · rw [torqueEstimate, if_neg (by omega)]
  · rintro n rfl hn
    rw [torqueEstimate, if_pos (by omega), show ((idle : Int) + n - idle).toNat = n by omega]

/-! ## RESTORE CHANNEL -/

theorem ChannelId.ofNum_num (c : ChannelId) : ChannelId.ofNum c.num = some c := by
  rcases c with c | b
  · cases c <;> rfl
  · cases b <;> rfl

theorem ChannelId.ofNum_above {n : Nat} (h : 8 < n) : ChannelId.ofNum n = none := by
  unfold ChannelId.ofNum
  split <;> first | omega | rfl

section
variable {s : State} {c : Byte} {k : ChannelId}

theorem decideRestore_failed (hk : c.toNat = k.num) (hf : s.health k = .failed) :
    decideRestore [c] s = (s.beginRestore k).accept [.u8 c.toNat, .u8 0] := by
  simp only [decideRestore, byteAt_zero, hk, ChannelId.ofNum_num, if_pos hf]

theorem decideRestore_refused (hk : c.toNat = k.num) (hf : s.health k ≠ .failed) :
    decideRestore [c] s = s.refuse .wrongState := by
  simp only [decideRestore, byteAt_zero, hk, ChannelId.ofNum_num, if_neg hf]

end

theorem Head.sampled_counting {x : Head} (h : x.count ≤ 255) (good : Bool) :
    x.sampled good = { x with count := countAfter x.count good, hasGood := x.hasGood || good } := by
  have hf : x.health ≠ .failed := by rw [ne_eq, Head.health, Health.ofCount_failed]; omega
  rw [Head.sampled, if_neg hf]

theorem Head.sampled_failed {x : Head} (h : 255 < x.count) (good : Bool) :
    x.sampled good =
      if x.restore = some 127 ∧ good = true then { x with count := 0, restore := none, hasGood := true }
      else { x with restore := restoreAfter x.restore good, hasGood := x.hasGood || good } := by
  have hf : x.health = .failed := (Health.ofCount_failed _).2 h
  rw [Head.sampled, if_pos hf]
  simp only [restoreAfter_done]

/-- Settles O34. -/
theorem restoreChannelCounts : Obligations.RestoreChannelCounts := by
  unfold Obligations.RestoreChannelCounts
  refine ⟨fun q c s h => ?_, fun x good => ?_⟩
  · intro i
    have hrefused {k : ChannelId} (hk : c.toNat = k.num) (hf : s.frameTaken.health k ≠ .failed) :
        exec i s = .next (answered s q 0x1D (.refused .wrongState 0)) :=
      exec_of_refuse h rfl rfl (by decide) (decideRestore_refused hk hf)
    refine ⟨fun hc => ?_, fun a hk => ⟨fun hn => ?_, fun hf => ?_⟩, fun b hk => ⟨fun hn => ?_, fun hf => ?_⟩⟩
    · refine exec_of_refuse h rfl rfl (by decide) ?_
      simp only [decideRestore, byteAt_zero, ChannelId.ofNum_above hc]
      rfl
    · refine hrefused (k := .analog a) hk ?_
      simp only [State.health, State.frameTaken_analog, ne_eq, Analog.health_failed]
      omega
    · refine exec_of_decides h rfl rfl (by decide) ((decideRestore_failed (k := .analog a) hk ?_).trans ?_) (by cases a <;> rfl)
      · simpa only [State.health, State.frameTaken_analog, Analog.health_failed] using hf
      · cases a <;> rfl
    · refine hrefused (k := .head b) (by cases b <;> exact hk) ?_
      simp only [State.health, State.frameTaken_head, ne_eq, Head.health, Health.ofCount_failed]
      omega
    · refine exec_of_decides h rfl rfl (by decide) ((decideRestore_failed (k := .head b) (by cases b <;> exact hk) ?_).trans ?_)
        (by cases b <;> rfl)
      · simpa only [State.health, State.frameTaken_head, Head.health, Health.ofCount_failed] using hf
      · cases b <;> rfl
  · rcases Nat.lt_or_ge 255 x.count with hc | hc
    · rw [Head.sampled_failed hc]
      split
      · next hd => exact ⟨fun h => by omega, fun _ => ⟨fun _ _ => ⟨rfl, rfl⟩, fun hn => by simp [hd] at hn⟩, rfl, rfl, rfl⟩
      · next hd => exact ⟨fun h => by omega, fun _ => ⟨fun hr hg => absurd ⟨hr, hg⟩ hd, fun _ => ⟨rfl, rfl⟩⟩, rfl, rfl, rfl⟩
    · rw [Head.sampled_counting hc]
      exact ⟨fun _ => ⟨rfl, rfl⟩, fun h => by omega, rfl, rfl, rfl⟩

end Sys2Proof.Machine
end

section
/-! PROOF. The pairs (chapter 6): what one decision makes of a pair, what the requests to a boom's three pairs and the deciding of
several pairs make of each, and that nothing but pairs is touched; with the switch and pickup lines. -/
namespace Sys2Proof.Machine

/-! ## One decision -/

/-- R107: the dead time of a pair once it is decided: a coil that stops loads it. -/
def Pair.loaded (p : Pair) (gate : Bool) (deadTime : Nat) : Nat := if p.stops gate then deadTime else p.dead

section
variable {p : Pair} {gate : Bool} {deadTime period : Nat} {d : Dir}

theorem Pair.settle_off (h : p.dir = none ∨ gate = false) :
    p.settle gate deadTime period = { p with coil := .off, dead := p.loaded gate deadTime } := by
  unfold Pair.settle Pair.loaded
  rcases h with h | rfl
  · rw [h]
  · cases p.dir <;> rfl

theorem Pair.settle_drives (hd : p.dir = some d) (h : p.loaded true deadTime = 0 ∨ p.last = some d) :
    p.settle true deadTime period =
      { p with
        coil := .driving d, last := some d, dead := 0
        pulse := if p.coil = .driving d then p.pulse else { duty := p.applied, period := period, elapsed := 0 } } := by
  unfold Pair.loaded at h
  simp only [Pair.settle, hd, if_true, if_pos h]

theorem Pair.settle_waits (hd : p.dir = some d) (h0 : p.loaded true deadTime ≠ 0) (hl : p.last ≠ some d) :
    p.settle true deadTime period = { p with coil := .dead, dead := p.loaded true deadTime } := by
  unfold Pair.loaded at h0 ⊢
  simp only [Pair.settle, hd, if_true, if_neg (not_or.2 ⟨h0, hl⟩)]

end

/-! ## Nothing but pairs -/

/-- Nothing but pairs has changed. -/
def PairsOnly (s t : State) : Prop :=
  t = { s with
    boomA := { s.boomA with pairs := t.boomA.pairs }
    boomB := { s.boomB with pairs := t.boomB.pairs }
    canopyPair := t.canopyPair }

namespace PairsOnly
variable {s t u : State}

theorem refl (s : State) : PairsOnly s s := rfl

theorem trans (h : PairsOnly s t) (k : PairsOnly t u) : PairsOnly s u := by
  unfold PairsOnly at *
  rw [h] at k
  exact k

theorem of_setPair (s : State) (p : PairId) (x : Pair) : PairsOnly s (s.setPair p x) := by
  rcases p with ⟨b, f⟩ | _
  · cases b <;> cases f <;> rfl
  · rfl

theorem of_request (s : State) (p : PairId) (r : PairRequest) : PairsOnly s (s.request p r) := of_setPair s p _
theorem of_settlePair (s : State) (p : PairId) : PairsOnly s (s.settlePair p) := of_setPair s p _

theorem of_settleBoom (s : State) (b : BoomId) : PairsOnly s (s.settleBoom b) :=
  ((of_settlePair _ _).trans (of_settlePair _ _)).trans (of_settlePair _ _)

theorem of_settleAll (s : State) : PairsOnly s s.settleAll :=
  ((of_settleBoom _ _).trans (of_settleBoom _ _)).trans (of_settlePair _ _)

theorem boom (h : PairsOnly s t) (b : BoomId) : t.boom b = { s.boom b with pairs := (t.boom b).pairs } := by
  cases b
  · exact congrArg State.boomA h
  · exact congrArg State.boomB h

theorem engine (h : PairsOnly s t) (b : BoomId) : t.engine b = s.engine b := (congrArg BoomState.engine (h.boom b)).trans rfl
theorem cal (h : PairsOnly s t) : t.cal = s.cal := by rw [h]
theorem arb (h : PairsOnly s t) : t.arb = s.arb := by rw [h]
theorem trip (h : PairsOnly s t) : t.trip = s.trip := by rw [h]
theorem link (h : PairsOnly s t) : t.link = s.link := by rw [h]
theorem switch (h : PairsOnly s t) (i : SwitchId) : t.switch i = s.switch i := by
  rcases i with _ | c | c | c | c | _
  · exact (congrArg State.estop h).trans rfl
  · exact (congrArg (·.switches.prs) (h.boom c)).trans rfl
  · exact (congrArg (·.switches.home) (h.boom c)).trans rfl
  · exact (congrArg (·.switches.iend) (h.boom c)).trans rfl
  · exact (congrArg (·.switches.ihome) (h.boom c)).trans rfl
  · exact (congrArg State.clow h).trans rfl
theorem closed (h : PairsOnly s t) (i : SwitchId) : t.closed i = s.closed i := by rw [State.closed, h.switch]; rfl
theorem gateOpen (h : PairsOnly s t) (p : PairId) : t.gateOpen p = s.gateOpen p := by
  cases p <;> simp only [State.gateOpen, h.trip, h.closed]
theorem analog (h : PairsOnly s t) (c : AnalogId) : t.analog c = s.analog c := by
  rw [h]
  cases c <;> rfl
theorem armRef (h : PairsOnly s t) (p : PairId) : t.armRef p = s.armRef p := by
  cases p <;> simp only [State.armRef, h.analog]

end PairsOnly

/-! ## Requests to pairs -/

@[simp] theorem State.request_pair (s : State) (p q : PairId) (r : PairRequest) :
    (s.request p r).pair q =
      if q = p then
        ((s.pair p).record r (s.cal.minDuty p) (s.cal.response p) (s.armRef p)).settle (s.gateOpen p) (s.cal.deadTime p)
          (s.cal.period p)
      else s.pair q := s.setPair_pair p q _

@[simp] theorem State.settlePair_pair (s : State) (p q : PairId) :
    (s.settlePair p).pair q =
      if q = p then (s.pair p).settle (s.gateOpen p) (s.cal.deadTime p) (s.cal.period p) else s.pair q := s.setPair_pair p q _

/-- A pair asked after others were: what it makes of the request is what it would have made of it before. -/
theorem PairsOnly.request_pair {s t : State} (h : PairsOnly s t) {p : PairId} (hp : t.pair p = s.pair p) (r : PairRequest) :
    (t.request p r).pair p = (s.request p r).pair p := by
  rw [State.request_pair, State.request_pair, if_pos rfl, if_pos rfl, hp, h.cal, h.armRef, h.gateOpen]

theorem PairsOnly.settlePair_pair {s t : State} (h : PairsOnly s t) {p : PairId} (hp : t.pair p = s.pair p) :
    (t.settlePair p).pair p = (s.settlePair p).pair p := by
  rw [State.settlePair_pair, State.settlePair_pair, if_pos rfl, if_pos rfl, hp, h.cal, h.gateOpen]

/-- R22: the three pairs of a boom are handed one request each. -/
def State.requestBoom (s : State) (b : BoomId) (r : PairFn → PairRequest) : State :=
  ((s.request (.boom b .rot) (r .rot)).request (.boom b .feed) (r .feed)).request (.boom b .ins) (r .ins)

theorem State.boomOff_eq (s : State) (b : BoomId) (hold : Bool) : s.boomOff b hold = s.requestBoom b (fun _ => .off hold) := rfl
theorem State.issueStep_eq (s : State) (b : BoomId) (m : Arming) :
    s.issueStep b m = s.requestBoom b (fun f => (s.stepDrive b).toRequest f m) := rfl
theorem State.issueJog_eq (s : State) (b : BoomId) (j : Jog) :
    s.issueJog b j = s.requestBoom b (fun f => (j.drive (s.engine b).restricted).toRequest f .none) := rfl

theorem PairsOnly.of_requestBoom (s : State) (b : BoomId) (r : PairFn → PairRequest) : PairsOnly s (s.requestBoom b r) :=
  ((of_request _ _ _).trans (of_request _ _ _)).trans (of_request _ _ _)

/-- Each pair of the boom takes its own request. -/
theorem State.requestBoom_pair (s : State) (b : BoomId) (r : PairFn → PairRequest) (f : PairFn) :
    (s.requestBoom b r).pair (.boom b f) = (s.request (.boom b f) (r f)).pair (.boom b f) := by
  unfold State.requestBoom
  cases f
  · simp
  · rw [State.request_pair, if_neg (by simp)]
    exact (PairsOnly.of_request s _ _).request_pair (by simp) _
  · exact ((PairsOnly.of_request s _ _).trans (.of_request _ _ _)).request_pair (by simp) _

theorem State.requestBoom_other (s : State) (b : BoomId) (r : PairFn → PairRequest) {p : PairId} (h : ∀ f, p ≠ .boom b f) :
    (s.requestBoom b r).pair p = s.pair p := by simp [State.requestBoom, h]

/-- The requests to one boom's pairs leave the other boom as it was. -/
theorem State.requestBoom_boom (s : State) (b c : BoomId) (r : PairFn → PairRequest) (h : c ≠ b) :
    (s.requestBoom b r).boom c = s.boom c := by
  cases b <;> cases c <;> first | exact absurd rfl h | rfl

/-! ## Several pairs decided afresh -/

theorem State.settleBoom_pair (s : State) (b : BoomId) (f : PairFn) :
    (s.settleBoom b).pair (.boom b f) = (s.settlePair (.boom b f)).pair (.boom b f) := by
  unfold State.settleBoom
  cases f
  · simp
  · rw [State.settlePair_pair, if_neg (by simp)]
    exact (PairsOnly.of_settlePair s _).settlePair_pair (by simp)
  · exact ((PairsOnly.of_settlePair s _).trans (.of_settlePair _ _)).settlePair_pair (by simp)

theorem State.settleBoom_other (s : State) (b : BoomId) {p : PairId} (h : ∀ f, p ≠ .boom b f) :
    (s.settleBoom b).pair p = s.pair p := by simp [State.settleBoom, h]

theorem State.settleAll_pair (s : State) (p : PairId) : s.settleAll.pair p = (s.settlePair p).pair p := by
  unfold State.settleAll
  rcases p with ⟨_ | _, f⟩ | _
  · rw [State.settlePair_pair, if_neg (by simp), State.settleBoom_other _ _ (by simp), State.settleBoom_pair]
  · rw [State.settlePair_pair, if_neg (by simp), State.settleBoom_pair]
    exact (PairsOnly.of_settleBoom s .A).settlePair_pair (s.settleBoom_other _ (by simp))
  · exact ((PairsOnly.of_settleBoom s .A).trans (.of_settleBoom _ _)).settlePair_pair
      ((State.settleBoom_other _ _ (by simp)).trans (State.settleBoom_other _ _ (by simp)))

end Sys2Proof.Machine
end

section
/-! PROOF. The requests and rig events that decide pairs (R106 to R113), and the switch and pickup lines (R114, R116, R118). -/
namespace Sys2Proof.Machine

/-- R205: an event that a running block takes. -/
theorem State.whenRunning_of_running {s : State} (h : s.phase = .running) (f : State → State) : s.whenRunning f = f s := by
  simp [State.whenRunning, State.running, h]

theorem State.clearTrip_of_trip {s : State} (h : s.trip = true) : s.clearTrip = ({ s with trip := false } : State).settleAll := by
  rw [State.clearTrip, if_pos h]

/-- Deciding a pair that has just been set. -/
theorem State.settlePair_setPair (s : State) (p : PairId) (x : Pair) :
    (s.setPair p x).settlePair p = s.setPair p (x.settle (s.gateOpen p) (s.cal.deadTime p) (s.cal.period p)) := by
  rw [State.settlePair, State.setPair_pair, if_pos rfl, State.setPair_gateOpen, State.setPair_cal]
  rcases p with ⟨_ | _, _ | _⟩ | _ <;> rfl

/-- Settles O41. -/
theorem pairsDecidedAfresh : Obligations.PairsDecidedAfresh := by
  unfold Obligations.PairsDecidedAfresh
  refine ⟨fun i s => ?request, fun q s h => ?clear, fun i s h => ?expiry⟩
  case request =>
    intro x dead
    have hdead (z : Pair) (hc : z.coil = x.coil) (hz : z.dead = x.dead) :
        z.loaded (s.gateOpen i) (s.cal.deadTime i) = dead z.dir := by
      simp only [Pair.loaded, Pair.stops, hc, hz, dead]
      cases x.coil with
      | driving e => cases s.gateOpen i <;> by_cases he : z.dir = some e <;> simp [he]
      | _ => rfl
    refine ⟨fun d c m => ?_, fun hold => ?_⟩
    · intro t y
      let z := x.record (.drive d c m) (s.cal.minDuty i) (s.cal.response i) (s.armRef i)
      have hy : y = z.settle (s.gateOpen i) (s.cal.deadTime i) (s.cal.period i) := by simp [y, t, z, x]
      have ht : t = s.setPair i y := by rw [hy]; rfl
      obtain ⟨hdir, hduty, happ, hmon⟩ := z.settle_frame (s.gateOpen i) (s.cal.deadTime i) (s.cal.period i)
      have hload : z.loaded (s.gateOpen i) (s.cal.deadTime i) = dead (some d) := hdead z rfl rfl
      rw [← hy] at hdir hduty happ hmon
      refine ⟨ht, hdir, hduty, happ, fun hm => ?_, fun hm => ⟨fun n r k hx => ?_, fun hx => ?_⟩, fun hm => ?_, fun hg => ?_,
        fun hg h0 => ?_, fun hg h0 hl => ?_⟩
      · rw [hmon]
        subst hm
        cases i <;> rfl
      · rw [hmon]
        subst hm
        show x.monitor.onDrive .continue _ _ = _
        rw [hx]
        rfl
      · rw [hmon]
        subst hm
        show x.monitor.onDrive .continue _ _ = _
        rw [hx]
        rfl
      · rw [hmon]
        subst hm
        rfl
      · rw [hy, Pair.settle_off (.inr hg)]
        exact ⟨rfl, hload, rfl⟩
      · rw [hg] at hload hy
        rw [hy, Pair.settle_drives (d := d) rfl (by rw [hload]; exact h0)]
        exact ⟨rfl, rfl, rfl, rfl⟩
      · rw [hg] at hload hy
        rw [hy, Pair.settle_waits (p := z) (d := d) rfl (by rw [hload]; exact h0) hl]
        exact ⟨rfl, hload, rfl⟩
    · intro t y
      let z := x.record (.off hold) (s.cal.minDuty i) (s.cal.response i) (s.armRef i)
      have hy : y = z.settle (s.gateOpen i) (s.cal.deadTime i) (s.cal.period i) := by simp [y, t, z, x]
      have ht : t = s.setPair i y := by rw [hy]; rfl
      rw [Pair.settle_off (p := z) (.inl rfl)] at hy
      refine ⟨ht, ?_⟩
      rw [hy]
      refine ⟨rfl, rfl, rfl, rfl, hdead z rfl rfl, rfl, fun n r k hh hx => ?_, fun hh => ?_⟩
      · show x.monitor.onOff hold = _
        rw [hx, hh]
        rfl
      · show x.monitor.onOff hold = _
        rcases hh with rfl | hx
        · rfl
        · rw [hx]
          cases hold <;> rfl
  case clear =>
    refine ⟨fun he => ?_, fun he ht => ?_, fun he ht => ?_⟩
    · refine exec_of_refuse h rfl rfl (by decide) ?_
      rw [decideClearTrip, State.frameTaken_closed, if_pos he]
      rfl
    · refine exec_of_accept h rfl rfl (by decide) ?_
      have ht' : s.frameTaken.trip = false := ht
      rw [decideClearTrip, State.frameTaken_closed, if_neg (by simp [he]), State.clearTrip, if_neg (by simp [ht']), ht']
    · let u : State := { s with trip := false }
      have hu := PairsOnly.of_settleAll u
      refine ⟨u.settleAll, ?_, hu, fun i => ?_⟩
      · refine exec_of_decides h rfl rfl (by decide) ?_ hu.link
        have ht' : s.frameTaken.trip = true := ht
        rw [decideClearTrip, State.frameTaken_closed, if_neg (by simp [he]), State.clearTrip_of_trip ht', ht']
        rfl
      · have hp : u.settleAll.pair i = (s.pair i).settle (u.gateOpen i) (s.cal.deadTime i) (s.cal.period i) := by
          rw [State.settleAll_pair, State.settlePair_pair, if_pos rfl]
          rfl
        have hframe := (s.pair i).settle_frame (u.gateOpen i) (s.cal.deadTime i) (s.cal.period i)
        rw [hp, hu.gateOpen]
        obtain ⟨hdir, hduty, -, hmon⟩ := hframe
        refine ⟨hdir, hduty, hmon, fun d hg hd hc => ?_, fun hg => ?_⟩
        · have hload : (s.pair i).loaded true (s.cal.deadTime i) = (s.pair i).dead := by simp [Pair.loaded, Pair.stops, hc]
          rw [hg]
          refine ⟨fun h0 => ?_, fun h0 hl => ?_⟩
          · rw [Pair.settle_drives hd (by rw [hload]; exact h0)]
            exact ⟨rfl, rfl, rfl⟩
          · rw [Pair.settle_waits hd (by rw [hload]; exact h0) hl]
            exact ⟨rfl, hload⟩
        · rw [Pair.settle_off (.inr hg)]
  case expiry =>
    refine ⟨fun h0 hc => ?_, fun d hc hd hg => ?_, fun h0 hc hd => ?_⟩
    · show Host.Outcome.next (s.whenRunning _) = _
      rw [State.whenRunning_of_running h, if_pos ⟨h0, hc⟩]
    · show Host.Outcome.next (s.whenRunning _) = _
      rw [State.whenRunning_of_running h, if_neg (by simp [hc]), State.settlePair_setPair, hg,
        Pair.settle_drives (p := { s.pair i with dead := 0 }) (d := d) hd (.inl (by simp [Pair.loaded, Pair.stops, hc])), if_neg (by simp [hc])]
    · show Host.Outcome.next (s.whenRunning _) = _
      rw [State.whenRunning_of_running h, if_neg (by simp [h0]), State.settlePair_setPair,
        Pair.settle_off (p := { s.pair i with dead := 0 }) (.inl hd)]
      simp [Pair.loaded, Pair.stops, hc]

end Sys2Proof.Machine
end

section
/-! PROOF. What the arbiter tells one requester (R80 to R87): where its request stands after a grant pass, and that a requester
that holds none is told nothing. -/
namespace Sys2Proof.Machine

/-! ## One requester's request -/

/-- R75: requester `who` holds the one request `r`, granted or waiting. -/
def Arbiter.Stands (a : Arbiter) (who : Requester) (r : FlowReq) : Bool → Prop
  | true => a.grants.filter (·.who = who) = [r] ∧ ∀ w ∈ a.waits, w.req.who ≠ who
  | false => (∀ x ∈ a.grants, x.who ≠ who) ∧ (a.waits.filter (·.req.who = who)).map (·.req) = [r]

/-- R73: requester `who` holds no request. -/
def Arbiter.Lacks (a : Arbiter) (who : Requester) : Prop := (∀ x ∈ a.grants, x.who ≠ who) ∧ ∀ w ∈ a.waits, w.req.who ≠ who

/-- R86, R87: whether `who` is granted after the notes `ns`, told in order. -/
def toldLast (who : Requester) (g : Bool) (ns : List FlowNote) : Bool :=
  ns.foldl (fun g n => if n.who = who then n.granted else g) g

theorem toldLast_append (who : Requester) (g : Bool) (xs ys : List FlowNote) :
    toldLast who g (xs ++ ys) = toldLast who (toldLast who g xs) ys := List.foldl_append ..

theorem toldLast_cons (who : Requester) (g : Bool) (n : FlowNote) (ns : List FlowNote) :
    toldLast who g (n :: ns) = toldLast who (if n.who = who then n.granted else g) ns := rfl

namespace Arbiter
variable {a : Arbiter} {q : Requester} {r : FlowReq} {g : Bool}

theorem Stands.who_eq (h : a.Stands q r g) : r.who = q := by
  cases g with
  | true =>
    have hr : r ∈ a.grants.filter (·.who = q) := by rw [h.1]; simp
    simpa using (List.mem_filter.1 hr).2
  | false =>
    have hr : r ∈ (a.waits.filter (·.req.who = q)).map (·.req) := by rw [h.2]; simp
    obtain ⟨w, hw, rfl⟩ := List.mem_map.1 hr
    simpa using (List.mem_filter.1 hw).2

theorem Stands.mem_held (h : a.Stands q r g) : r ∈ a.held := by
  cases g with
  | true =>
    have hr : r ∈ a.grants.filter (·.who = q) := by rw [h.1]; simp
    exact List.mem_append_left _ (List.mem_filter.1 hr).1
  | false =>
    have hr : r ∈ (a.waits.filter (·.req.who = q)).map (·.req) := by rw [h.2]; simp
    obtain ⟨w, hw, rfl⟩ := List.mem_map.1 hr
    exact List.mem_append_right _ (List.mem_map_of_mem (List.mem_filter.1 hw).1)

theorem Stands.granted (h : a.Stands q r g) : a.grants.any (fun x => x.who == q) = g := by
  cases g with
  | true =>
    have hr : r ∈ a.grants.filter (·.who = q) := by rw [h.1]; simp
    exact List.any_eq_true.2 ⟨r, (List.mem_filter.1 hr).1, by simpa using (List.mem_filter.1 hr).2⟩
  | false =>
    refine List.any_eq_false.2 fun x hx => ?_
    simpa using h.1 x hx

/-- R83: a preemption, with the note that it draws. -/
theorem Stands.preempt (h : a.Stands q r g) {v : FlowReq} (hv : v ∈ a.grants) :
    (a.preempt v).Stands q r (if v.who = q then false else g) := by
  have hperm := joinWaits_perm v.waiting a.waits
  by_cases hw : v.who = q
  · rw [if_pos hw]
    cases g with
    | false => exact absurd hw (h.1 v hv)
    | true =>
      have hvr : v ∈ a.grants.filter (·.who = q) := List.mem_filter.2 ⟨hv, by simpa using hw⟩
      rw [h.1, List.mem_singleton] at hvr
      subst hvr
      refine ⟨fun x hx => by simpa [hw] using (List.mem_filter.1 hx).2, ?_⟩
      have hnone : a.waits.filter (·.req.who = q) = [] := List.filter_eq_nil_iff.2 fun w hx => by simpa using h.2 w hx
      have hf := hperm.filter (·.req.who = q)
      have hcons : (v.waiting :: a.waits).filter (·.req.who = q) = [v.waiting] := by
        rw [List.filter_cons_of_pos (by exact decide_eq_true hw), hnone]
      rw [hcons, List.perm_singleton] at hf
      show ((joinWaits v.waiting a.waits).filter _).map _ = _
      rw [hf]
      rfl
  · rw [if_neg hw]
    have hgrants : (a.grants.filter (fun x => x.who != v.who)).filter (·.who = q) = a.grants.filter (·.who = q) := by
      rw [List.filter_filter]
      refine List.filter_congr fun x _ => ?_
      by_cases hx : x.who = q <;> simp [hx, Ne.symm hw]
    have hwaits : (joinWaits v.waiting a.waits).filter (·.req.who = q) |>.Perm (a.waits.filter (·.req.who = q)) := by
      have hf := hperm.filter (·.req.who = q)
      rwa [List.filter_cons_of_neg (by exact fun h => hw (of_decide_eq_true h))] at hf
    cases g with
    | true =>
      refine ⟨hgrants.trans h.1, fun w hx => ?_⟩
      rcases List.mem_cons.1 (hperm.mem_iff.1 hx) with rfl | hx
      · exact hw
      · exact h.2 w hx
    | false =>
      refine ⟨fun x hx => h.1 x (List.mem_filter.1 hx).1, ?_⟩
      have hm := hwaits.map (·.req)
      rw [h.2, List.perm_singleton] at hm
      exact hm

theorem Lacks.preempt (h : a.Lacks q) {v : FlowReq} (hv : v ∈ a.grants) : (a.preempt v).Lacks q := by
  refine ⟨fun x hx => h.1 x (List.mem_filter.1 hx).1, fun w hw => ?_⟩
  rcases List.mem_cons.1 ((joinWaits_perm _ _).mem_iff.1 hw) with rfl | hw
  · exact h.1 v hv
  · exact h.2 w hw

theorem preemptFor_stands (need cls n : Nat) (h : a.Stands q r g) :
    (a.preemptFor need cls n).1.Stands q r (toldLast q g (a.preemptFor need cls n).2) := by
  induction n generalizing a g with
  | zero => exact h
  | succ n ih =>
    unfold Arbiter.preemptFor
    split
    · exact h
    · split
      · exact h
      · next v hv => exact ih (h.preempt (victim_mem hv).1)

theorem preemptFor_lacks (need cls n : Nat) (h : a.Lacks q) :
    (a.preemptFor need cls n).1.Lacks q ∧ ∀ x ∈ (a.preemptFor need cls n).2, x.who ≠ q := by
  induction n generalizing a with
  | zero => exact ⟨h, by simp [Arbiter.preemptFor]⟩
  | succ n ih =>
    unfold Arbiter.preemptFor
    split
    · exact ⟨h, by simp⟩
    · split
      · exact ⟨h, by simp⟩
      · next v hv =>
        obtain ⟨h1, h2⟩ := ih (h.preempt (victim_mem hv).1)
        exact ⟨h1, List.forall_mem_cons.2 ⟨h.1 v (victim_mem hv).1, h2⟩⟩

theorem toldLast_of_not_mem {ns : List FlowNote} (h : ∀ x ∈ ns, x.who ≠ q) (g : Bool) : toldLast q g ns = g := by
  induction ns with
  | nil => rfl
  | cons n ns ih =>
    rw [toldLast_cons, if_neg (h n (by simp)), ih fun x hx => h x (by simp [hx])]

/-- A request of another requester at the head of the wait list stands aside. -/
theorem Stands.tail (h : a.Stands q r g) {w : Waiting} {ws : List Waiting} (hw : a.waits = w :: ws) (hq : w.req.who ≠ q) :
    ({ a with waits := ws } : Arbiter).Stands q r g := by
  cases g with
  | true => exact ⟨h.1, fun x hx => h.2 x (by simp [hw, hx])⟩
  | false => exact ⟨h.1, by have := h.2; rwa [hw, List.filter_cons_of_neg (by simpa using hq)] at this⟩

/-- The head of the wait list is the request of `q`: with it aside, `q` holds none. -/
theorem Stands.head (h : a.Stands q r g) {w : Waiting} {ws : List Waiting} (hw : a.waits = w :: ws) (hq : w.req.who = q) :
    w.req = r ∧ ({ a with waits := ws } : Arbiter).Lacks q := by
  cases g with
  | true => exact absurd hq (h.2 w (by simp [hw]))
  | false =>
    have h2 := h.2
    rw [hw, List.filter_cons_of_pos (by simpa using hq), List.map_cons, List.cons.injEq, List.map_eq_nil_iff,
      List.filter_eq_nil_iff] at h2
    exact ⟨h2.1, h.1, fun x hx => by simpa using h2.2 x hx⟩

theorem Lacks.tail (h : a.Lacks q) {w : Waiting} {ws : List Waiting} (hw : a.waits = w :: ws) :
    ({ a with waits := ws } : Arbiter).Lacks q ∧ w.req.who ≠ q :=
  ⟨⟨h.1, fun x hx => h.2 x (by simp [hw, hx])⟩, h.2 w (by simp [hw])⟩

/-- R81: a head is granted. -/
theorem Stands.grantHead_other (h : a.Stands q r g) {w : Waiting} (hq : w.req.who ≠ q) : (a.grantHead w).Stands q r g := by
  cases g with
  | true => exact ⟨by simp [Arbiter.grantHead, List.filter_append, h.1, hq], h.2⟩
  | false => exact ⟨by simpa [Arbiter.grantHead, or_imp, forall_and, hq] using h.1, h.2⟩

theorem Lacks.grantHead_self (h : a.Lacks q) {w : Waiting} (hq : w.req.who = q) : (a.grantHead w).Stands q w.req true := by
  refine ⟨?_, h.2⟩
  have hnone : a.grants.filter (·.who = q) = [] := List.filter_eq_nil_iff.2 fun x hx => by simpa using h.1 x hx
  simp [Arbiter.grantHead, List.filter_append, hnone, hq]

theorem Lacks.grantHead_other (h : a.Lacks q) {w : Waiting} (hq : w.req.who ≠ q) : (a.grantHead w).Lacks q :=
  ⟨by simpa [Arbiter.grantHead, or_imp, forall_and, hq] using h.1, h.2⟩

/-- R81, R82: after the grant pass the request stands as the last note about it says. -/
theorem passFuel_stands (n : Nat) (h : a.Stands q r g) :
    (a.passFuel n).1.Stands q r (toldLast q g (a.passFuel n).2) := by
  induction n generalizing a g with
  | zero => exact h
  | succ n ih =>
    unfold Arbiter.passFuel
    split
    · exact h
    · next w ws hw =>
      split
      · dsimp only
        rw [toldLast_cons]
        by_cases hq : w.req.who = q
        · obtain ⟨rfl, hl⟩ := h.head hw hq
          rw [if_pos hq]
          exact ih (hl.grantHead_self hq)
        · rw [if_neg hq]
          exact ih ((h.tail hw hq).grantHead_other hq)
      · split
        · exact h
        · split
          · exact h
          · dsimp only
            rw [toldLast_append, toldLast_cons]
            by_cases hq : w.req.who = q
            · obtain ⟨rfl, hl⟩ := h.head hw hq
              obtain ⟨hl', -⟩ := preemptFor_lacks w.req.demand w.req.cls a.grants.length hl
              rw [if_pos hq]
              exact ih (hl'.grantHead_self hq)
            · rw [if_neg hq]
              exact ih ((preemptFor_stands _ _ _ (h.tail hw hq)).grantHead_other hq)

/-- R73, R80: a requester that holds no request is told nothing and gets none. -/
theorem passFuel_lacks (n : Nat) (h : a.Lacks q) : (a.passFuel n).1.Lacks q ∧ ∀ x ∈ (a.passFuel n).2, x.who ≠ q := by
  induction n generalizing a with
  | zero => exact ⟨h, by simp [Arbiter.passFuel]⟩
  | succ n ih =>
    unfold Arbiter.passFuel
    split
    · exact ⟨h, by simp⟩
    · next w ws hw =>
      obtain ⟨hl, hq⟩ := h.tail hw
      split
      · obtain ⟨h1, h2⟩ := ih (hl.grantHead_other hq)
        exact ⟨h1, List.forall_mem_cons.2 ⟨hq, h2⟩⟩
      · split
        · exact ⟨h, by simp⟩
        · split
          · exact ⟨h, by simp⟩
          · obtain ⟨p1, p2⟩ := preemptFor_lacks w.req.demand w.req.cls a.grants.length hl
            obtain ⟨h1, h2⟩ := ih (p1.grantHead_other hq)
            exact ⟨h1, List.forall_mem_append.2 ⟨p2, List.forall_mem_cons.2 ⟨hq, h2⟩⟩⟩

theorem pass_stands (h : a.Stands q r g) : a.pass.1.Stands q r (toldLast q g a.pass.2) := passFuel_stands 8 h
theorem pass_lacks (h : a.Lacks q) : a.pass.1.Lacks q ∧ ∀ x ∈ a.pass.2, x.who ≠ q := passFuel_lacks 8 h

theorem remove_lacks (a : Arbiter) (q : Requester) : (a.remove q).Lacks q :=
  ⟨fun x hx => by simpa using (List.mem_filter.1 hx).2, fun w hw => by simpa using (List.mem_filter.1 hw).2⟩

theorem lacks_iff : a.Lacks q ↔ ∀ r ∈ a.held, r.who ≠ q := by
  simp only [Arbiter.Lacks, Arbiter.held, List.forall_mem_append, List.forall_mem_map]

/-- R75, R78: a request submitted waits with the next stamp, the only one of its requester. -/
theorem submit_stands (a : Arbiter) (q : Requester) (p : Purpose) (d : Nat) :
    (a.submit q p d).Stands q { who := q, purpose := p, cls := p.cls, demand := d, stamp := a.renumber.counter + 1 } false := by
  obtain ⟨h1, h2⟩ := remove_lacks a.renumber q
  refine ⟨h1, ?_⟩
  let r : FlowReq := { who := q, purpose := p, cls := p.cls, demand := d, stamp := a.renumber.counter + 1 }
  have hnone : (a.renumber.remove q).waits.filter (·.req.who = q) = [] := List.filter_eq_nil_iff.2 fun w hw => by simpa using h2 w hw
  have hf := (joinWaits_perm r.waiting (a.renumber.remove q).waits).filter (·.req.who = q)
  rw [List.filter_cons_of_pos (by exact decide_eq_true rfl), hnone, List.perm_singleton] at hf
  show ((joinWaits r.waiting (a.renumber.remove q).waits).filter _).map _ = _
  rw [hf]
  rfl

end Arbiter
end Sys2Proof.Machine
end

section
/-! PROOF. Rest and drive (R21, R22, R80, R86, R87): what a withdrawal, a placement and a change of drive leave of a boom's request
and of its pairs. -/
namespace Sys2Proof.Machine

/-! ## Telling one requester leaves the others alone -/

theorem State.tell_boom_ne (s : State) {n : FlowNote} {b : BoomId} (h : n.who ≠ .boom b) : (s.tell n).boom b = s.boom b := by
  obtain ⟨c | _, g⟩ := n
  · have hc : b ≠ c := fun e => h (e ▸ rfl)
    cases g
    · show (s.onBoomPreempt c).boom b = _
      unfold State.onBoomPreempt
      split
      · rw [State.flagRecord, State.modRecord, State.setEngine_boom, if_neg hc, State.boomOff_eq, State.requestBoom_boom _ _ _ _ hc]
      · rw [State.boomOff_eq, State.requestBoom_boom _ _ _ _ hc]
    · show (s.onBoomGrant c).boom b = _
      unfold State.onBoomGrant
      split
      · rw [State.issueJog_eq, State.requestBoom_boom _ _ _ _ hc]
      · rw [State.setEngine_boom, if_neg hc, State.issueStep_eq, State.requestBoom_boom _ _ _ _ hc]
  · cases g
    · rfl
    · show s.onCanopyGrant.boom b = _
      unfold State.onCanopyGrant
      split <;> rfl

theorem State.tells_boom_ne (ns : List FlowNote) (s : State) {b : BoomId} (h : ∀ n ∈ ns, n.who ≠ .boom b) :
    (ns.foldl State.tell s).boom b = s.boom b := by
  induction ns generalizing s with
  | nil => rfl
  | cons n ns ih =>
    rw [List.foldl_cons, ih _ fun x hx => h x (by simp [hx]), s.tell_boom_ne (h n (by simp))]

/-- R80: a withdrawal leaves the requester without a request. -/
theorem State.withdraw_lacks (s : State) (who : Requester) : HoldsNone (s.withdraw who) who := by
  unfold State.withdraw
  split
  · exact Arbiter.lacks_iff.1 (by rw [State.runPass_arb]; exact (Arbiter.pass_lacks (Arbiter.remove_lacks s.arb who)).1)
  · next h =>
    refine Arbiter.lacks_iff.1 ⟨fun x hx e => h ?_, fun w hw e => h ?_⟩
    · rw [Bool.or_eq_true]
      exact .inl (List.any_eq_true.2 ⟨x, hx, by simpa using e⟩)
    · rw [Bool.or_eq_true]
      exact .inr (List.any_eq_true.2 ⟨w, hw, by simpa using e⟩)

/-- R80: the boom that withdraws its request is told nothing. -/
theorem State.withdraw_boom (s : State) (b : BoomId) : (s.withdraw (.boom b)).boom b = s.boom b := by
  unfold State.withdraw
  split
  · unfold State.runPass
    rw [State.tells_boom_ne _ _ (Arbiter.pass_lacks (Arbiter.remove_lacks s.arb (.boom b))).2]
    cases b <;> rfl
  · rfl

theorem State.pair_of_boom {s t : State} {b : BoomId} (h : t.boom b = s.boom b) (f : PairFn) :
    t.pair (.boom b f) = s.pair (.boom b f) := by cases f <;> simp only [State.pair, h]

/-! ## Rest -/

/-- R106: what an off request makes of a pair. -/
theorem State.request_off (s : State) (p : PairId) (hold : Bool) :
    ((s.request p (.off hold)).pair p).dir = none ∧ ((s.request p (.off hold)).pair p).coil = .off ∧
      ((s.request p (.off hold)).pair p).monitor = (s.pair p).monitor.onOff hold := by
  rw [State.request_pair, if_pos rfl, Pair.settle_off (.inl rfl)]
  exact ⟨rfl, rfl, rfl⟩

/-- The boom's pairs are off with their monitors disarmed. -/
def PairsAtRest (s : State) (b : BoomId) : Prop :=
  ∀ f, (s.pair (.boom b f)).dir = none ∧ (s.pair (.boom b f)).coil = .off ∧ (s.pair (.boom b f)).monitor = .disarmed

theorem State.boomOff_atRest (s : State) (b : BoomId) : PairsAtRest (s.boomOff b false) b := fun f => by
  rw [State.boomOff_eq, State.requestBoom_pair]
  exact s.request_off _ false

/-- R21: a boom that enters a state without flow is at rest. -/
theorem State.noFlow_atRest (s : State) (b : BoomId) : AtRest (s.noFlow b) b := by
  refine ⟨State.withdraw_lacks _ _, fun f => ?_⟩
  rw [State.noFlow, State.pair_of_boom (State.withdraw_boom _ b)]
  exact s.boomOff_atRest b f

/-- Rest is a matter of the requests held and of the boom's pairs. -/
theorem AtRest.congr {s t : State} {b : BoomId} (h : AtRest s b) (ha : t.arb = s.arb)
    (hp : ∀ f, t.pair (.boom b f) = s.pair (.boom b f)) : AtRest t b := by
  refine ⟨fun r hr => h.1 r (by rwa [ha] at hr), fun f => ?_⟩
  rw [hp]
  exact h.2 f

/-! ## The drive of a step -/

theorem FlowEffect.activePlan {s t : State} (h : FlowEffect s t) (b : BoomId) : t.activePlan b = s.activePlan b := by
  rw [State.activePlan, State.activeJob, h.plans, h.active]
  rfl

/-- The row of the table of 2.1 depends on nothing that a grant or a preemption moves. -/
theorem FlowEffect.stepDrive {s t : State} (h : FlowEffect s t) (b : BoomId) : t.stepDrive b = s.stepDrive b := by
  unfold State.stepDrive
  rw [h.activePlan, h.logger, h.cal, h.engine]

/-- The row of the table of 2.1 marks a monitor only of a pair that it drives. -/
theorem State.stepDrive_monitored {s : State} {b : BoomId} {f : PairFn} (h : (s.stepDrive b).monitored = some f) :
    (s.stepDrive b).of f ≠ none := by
  unfold State.stepDrive at *
  cases hs : (s.engine b).state <;> cases hu : (s.engine b).sub <;> cases hl : (s.engine b).leg <;>
    simp only [hs, hu, hl] at h ⊢ <;> cases h <;> simp [StepDrive.of]

theorem StepDrive.toRequest_of_none {d : StepDrive} {f : PairFn} (h : d.of f = none) (m : Arming) :
    d.toRequest f m = .off false := by
  cases f <;> simp only [StepDrive.of] at h <;> simp [StepDrive.toRequest, h]

theorem StepDrive.toRequest_of_some {d : StepDrive} {f : PairFn} {x : Dir × Nat} (h : d.of f = some x) (m : Arming) :
    d.toRequest f m = .drive x.1 x.2 (if d.monitored = some f then m else .none) := by
  cases f <;> simp only [StepDrive.of] at h <;> simp [StepDrive.toRequest, h]

/-- R22: a pair that is handed its part of a row: the row's drive, with the monitor instruction where the row marks it, or off. -/
theorem State.request_toRequest (s : State) (b : BoomId) (f : PairFn) (d : StepDrive) (m : Arming) :
    ((s.request (.boom b f) (d.toRequest f m)).pair (.boom b f)).dir = (d.of f).map Prod.fst ∧
      ((s.request (.boom b f) (d.toRequest f m)).pair (.boom b f)).duty = ((d.of f).map Prod.snd).getD 0 ∧
      ((s.request (.boom b f) (d.toRequest f m)).pair (.boom b f)).monitor =
        if d.monitored = some f ∧ d.of f ≠ none then
          (s.pair (.boom b f)).monitor.onDrive m (s.cal.response (.boom b f)) 0
        else .disarmed := by
  rw [State.request_pair, if_pos rfl]
  obtain ⟨h1, h2, -, h4⟩ := ((s.pair (.boom b f)).record (d.toRequest f m) (s.cal.minDuty (.boom b f)) (s.cal.response (.boom b f))
    (s.armRef (.boom b f))).settle_frame (s.gateOpen (.boom b f)) (s.cal.deadTime (.boom b f)) (s.cal.period (.boom b f))
  rw [h1, h2, h4]
  cases ho : d.of f with
  | none =>
    rw [StepDrive.toRequest_of_none ho, if_neg (by simp)]
    exact ⟨rfl, rfl, rfl⟩
  | some x =>
    rw [StepDrive.toRequest_of_some ho]
    refine ⟨rfl, rfl, ?_⟩
    by_cases hm : d.monitored = some f
    · simp only [hm, if_true, ne_eq, reduceCtorEq, not_false_eq_true, and_true]
      rfl
    · simp only [hm, if_false, false_and]
      cases (s.pair (.boom b f)).monitor <;> rfl

/-- R22, R119: the boom's pairs carry the drives of the row `d`, with the marked monitor armed at its full response time. -/
def RowDriven (s : State) (b : BoomId) (d : StepDrive) : Prop :=
  ∀ f, (s.pair (.boom b f)).dir = (d.of f).map Prod.fst ∧ (s.pair (.boom b f)).duty = ((d.of f).map Prod.snd).getD 0 ∧
    (s.pair (.boom b f)).monitor = if d.monitored = some f then .armed (s.cal.response (.boom b f)) 0 false else .disarmed

/-- R87, R119: the marked monitor of row `d` holds its full response time, counting on or frozen. -/
def RowMonitored (s : State) (b : BoomId) (d : StepDrive) : Prop :=
  ∀ f, if d.monitored = some f then ∃ z, (s.pair (.boom b f)).monitor = .armed (s.cal.response (.boom b f)) 0 z
    else (s.pair (.boom b f)).monitor = .disarmed

theorem RowDriven.monitored {s : State} {b : BoomId} {d : StepDrive} (h : RowDriven s b d) : RowMonitored s b d := fun f => by
  split
  · exact ⟨false, by rw [(h f).2.2, if_pos ‹_›]⟩
  · rw [(h f).2.2, if_neg ‹_›]

section
variable {s : State} {b : BoomId} {d : StepDrive}

/-- R22: a row handed out with ARM. -/
theorem State.requestBoom_arm (s : State) (b : BoomId) (hd : ∀ f, d.monitored = some f → d.of f ≠ none) :
    RowDriven (s.requestBoom b (fun f => d.toRequest f .arm)) b d := fun f => by
  rw [State.requestBoom_pair, (PairsOnly.of_requestBoom s b _).cal]
  obtain ⟨h1, h2, h3⟩ := s.request_toRequest b f d .arm
  refine ⟨h1, h2, h3.trans ?_⟩
  by_cases hm : d.monitored = some f
  · rw [if_pos ⟨hm, hd f hm⟩, if_pos hm]
    rfl
  · rw [if_neg (fun k => hm k.1), if_neg hm]

/-- R22: a row handed out again with CONTINUE, once its monitor has been armed. -/
theorem State.requestBoom_continue (h : RowMonitored s b d) (hd : ∀ f, d.monitored = some f → d.of f ≠ none) :
    RowDriven (s.requestBoom b (fun f => d.toRequest f .continue)) b d := fun f => by
  rw [State.requestBoom_pair, (PairsOnly.of_requestBoom s b _).cal]
  obtain ⟨h1, h2, h3⟩ := s.request_toRequest b f d .continue
  refine ⟨h1, h2, h3.trans ?_⟩
  have hf := h f
  by_cases hm : d.monitored = some f
  · rw [if_pos hm] at hf
    obtain ⟨z, hz⟩ := hf
    rw [if_pos ⟨hm, hd f hm⟩, if_pos hm, hz]
    rfl
  · rw [if_neg (fun k => hm k.1), if_neg hm]

/-- R87: a preemption puts the pairs off under HOLD, which freezes the monitor. -/
theorem State.boomOff_monitored (h : RowMonitored s b d) : RowMonitored (s.boomOff b true) b d := fun f => by
  rw [State.boomOff_eq, State.requestBoom_pair, (PairsOnly.of_requestBoom s b _).cal]
  obtain ⟨-, -, h3⟩ := s.request_off (.boom b f) true
  rw [h3]
  have hf := h f
  split
  · rw [if_pos ‹_›] at hf
    obtain ⟨z, hz⟩ := hf
    exact ⟨true, by rw [hz]; rfl⟩
  · rw [if_neg ‹_›] at hf
    rw [hf]
    rfl

end

/-! ## A step that begins -/

/-- R86, R87: boom `b`, told of its request since it stood in state `s` with a first drive to come: granted, it drives the row
of its step; its first drive is to come, or the row's monitor has been armed. -/
def StepTold (s t : State) (b : BoomId) (g : Bool) : Prop :=
  FlowEffect s t ∧ ((t.engine b).armOnGrant = true ∧ g = false ∨
    (t.engine b).armOnGrant = false ∧ RowMonitored t b (s.stepDrive b) ∧ (g = true → RowDriven t b (s.stepDrive b)))

theorem State.onBoomGrant_of_step {t : State} {b : BoomId} (h : (t.engine b).jog = none) :
    t.onBoomGrant b =
      let u := t.issueStep b (if (t.engine b).armOnGrant = true then .arm else .continue)
      u.setEngine b { u.engine b with armOnGrant := false } := by
  unfold State.onBoomGrant
  rw [h]

theorem State.onBoomPreempt_pair (t : State) (b : BoomId) (p : PairId) :
    (t.onBoomPreempt b).pair p = (t.boomOff b true).pair p := by
  unfold State.onBoomPreempt
  split
  · rw [State.flagRecord, State.modRecord, State.setEngine_pair]
  · rfl

theorem State.onBoomPreempt_armOnGrant (t : State) (b : BoomId) :
    ((t.onBoomPreempt b).engine b).armOnGrant = (t.engine b).armOnGrant := by
  have h := (PairsOnly.of_requestBoom t b (fun _ => .off true)).engine b
  unfold State.onBoomPreempt
  rw [State.boomOff_eq]
  split
  · rw [State.flagRecord, State.modRecord, State.setEngine_engine, if_pos rfl, h]
  · rw [h]

theorem RowDriven.congr {s t : State} {b : BoomId} {d : StepDrive} (h : RowDriven s b d) (hc : t.cal = s.cal)
    (hp : ∀ f, t.pair (.boom b f) = s.pair (.boom b f)) : RowDriven t b d := fun f => by
  rw [hp, hc]
  exact h f

theorem RowMonitored.congr {s t : State} {b : BoomId} {d : StepDrive} (h : RowMonitored s b d) (hc : t.cal = s.cal)
    (hp : ∀ f, t.pair (.boom b f) = s.pair (.boom b f)) : RowMonitored t b d := fun f => by
  rw [hp, hc]
  exact h f

theorem StepTold.tell {s t : State} {b : BoomId} {g : Bool} (h : StepTold s t b g) (hj : (s.engine b).jog = none) (n : FlowNote) :
    StepTold s (t.tell n) b (if n.who = .boom b then n.granted else g) := by
  obtain ⟨hf, h⟩ := h
  refine ⟨hf.trans (.of_tell t n), ?_⟩
  by_cases hn : n.who = .boom b
  · rw [if_pos hn]
    obtain ⟨who, x⟩ := n
    subst hn
    have hd : ∀ f, (s.stepDrive b).monitored = some f → (s.stepDrive b).of f ≠ none := fun f => State.stepDrive_monitored
    cases x with
    | true =>
      have hdrive : RowDriven (t.issueStep b (if (t.engine b).armOnGrant = true then .arm else .continue)) b (s.stepDrive b) := by
        rw [State.issueStep_eq, hf.stepDrive]
        rcases h with ⟨ha, -⟩ | ⟨ha, hm, -⟩
        · rw [if_pos ha]
          exact t.requestBoom_arm b hd
        · rw [if_neg (by simp [ha])]
          exact State.requestBoom_continue hm hd
      have hall : RowDriven (t.onBoomGrant b) b (s.stepDrive b) := by
        rw [State.onBoomGrant_of_step ((hf.engine_jog b).trans hj)]
        exact hdrive.congr (by simp) (by simp)
      refine .inr ⟨?_, hall.monitored, fun _ => hall⟩
      show ((t.onBoomGrant b).engine b).armOnGrant = false
      rw [State.onBoomGrant_of_step ((hf.engine_jog b).trans hj)]
      simp
    | false =>
      show ((t.onBoomPreempt b).engine b).armOnGrant = true ∧ _ ∨ ((t.onBoomPreempt b).engine b).armOnGrant = false ∧ _
      rw [State.onBoomPreempt_armOnGrant]
      rcases h with ⟨ha, -⟩ | ⟨ha, hm, -⟩
      · exact .inl ⟨ha, rfl⟩
      · refine .inr ⟨ha, (State.boomOff_monitored hm).congr ?_ (fun f => t.onBoomPreempt_pair b (.boom b f)), fun h => by cases h⟩
        exact (FlowEffect.of_onBoomPreempt t b).cal.trans (FlowEffect.of_boomOff t b true).cal.symm
  · rw [if_neg hn]
    have hb := t.tell_boom_ne hn
    have hp := State.pair_of_boom hb
    have he : (t.tell n).engine b = t.engine b := congrArg BoomState.engine hb
    have hc := (FlowEffect.of_tell t n).cal
    rw [he]
    exact h.imp id fun ⟨h1, h2, h3⟩ => ⟨h1, h2.congr hc hp, fun hg => (h3 hg).congr hc hp⟩

theorem StepTold.tells {s : State} {b : BoomId} (hj : (s.engine b).jog = none) (ns : List FlowNote) {t : State} {g : Bool}
    (h : StepTold s t b g) : StepTold s (ns.foldl State.tell t) b (toldLast (.boom b) g ns) := by
  induction ns generalizing t g with
  | nil => exact h
  | cons n ns ih => exact ih (h.tell hj n)

/-- R78, R81: after a placement the requester's request stands as it has last been told. -/
theorem State.place_stands (s : State) (who : Requester) (p : Purpose) :
    (s.place who p).arb.Stands who
      { who := who, purpose := p, cls := p.cls, demand := s.cal.demand who p, stamp := s.arb.renumber.counter + 1 }
      (toldLast who false (s.arb.submit who p (s.cal.demand who p)).pass.2) := by
  rw [State.place, State.runPass_arb]
  exact Arbiter.pass_stands (Arbiter.submit_stands s.arb who p (s.cal.demand who p))

theorem HoldsRequest.of_stands {s : State} {who : Requester} {r : FlowReq} {g : Bool} (h : s.arb.Stands who r g) :
    HoldsRequest s who r.purpose r.cls r.demand := ⟨r, h.mem_held, h.who_eq, rfl, rfl, rfl⟩

/-- The boom's pairs are off and its request waits: the row is handed out when it is granted. -/
theorem DrivenAfresh.of_off {s : State} {b : BoomId} (h : PairsAtRest s b) (hd : ∀ f, (s.pair (.boom b f)).duty = 0)
    (hg : s.granted (.boom b) = false) : DrivenAfresh s b :=
  ⟨fun f => ⟨by rw [(h f).1, hg]; rfl, by rw [hd, hg]; rfl⟩, fun f => by rw [(h f).2.2, hg]; simp⟩

theorem DrivenAfresh.of_row {s : State} {b : BoomId} (h : RowDriven s b (s.stepDrive b)) (hg : s.granted (.boom b) = true) :
    DrivenAfresh s b :=
  ⟨fun f => ⟨by rw [(h f).1, hg]; rfl, by rw [(h f).2.1, hg]; rfl⟩, fun f => by rw [(h f).2.2, hg]; simp⟩

theorem State.boomOff_duty (s : State) (b : BoomId) (hold : Bool) (f : PairFn) : ((s.boomOff b hold).pair (.boom b f)).duty = 0 := by
  rw [State.boomOff_eq, State.requestBoom_pair, State.request_pair, if_pos rfl, Pair.settle_off (.inl rfl)]
  rfl

/-- R21, R22: the step of the state that the engine has taken begins. -/
theorem State.beginFlow_begun {s : State} {b : BoomId} {e : EngineState} (he : (s.engine b).state = e) (hj : (s.engine b).jog = none) :
    StepBegun (s.beginFlow b (.step e)) b e (Purpose.step e).cls := by
  have hflow := FlowEffect.of_beginFlow s b (.step e)
  refine ⟨(hflow.engine_state b).trans he, ?_⟩
  let u := s.setEngine b { s.engine b with armOnGrant := true }
  let a := u.arb.submit (.boom b) (.step e) (u.cal.demand (.boom b) (.step e))
  have hstands := State.place_stands u (.boom b) (.step e)
  have hcal : u.cal = s.cal := by simp [u]
  have htold : StepTold u (u.place (.boom b) (.step e)) b (toldLast (.boom b) false a.pass.2) := by
    refine StepTold.tells (by simp [u, hj]) _ (t := { u with arb := a.pass.1 }) ⟨.of_arb u _ ?_, .inl ⟨?_, rfl⟩⟩
    · exact (Arbiter.pass_budget a).trans (Arbiter.submit_budget _ _ _ _)
    · show (u.engine b).armOnGrant = true
      simp [u]
  have hgrant : (u.place (.boom b) (.step e)).granted (.boom b) = toldLast (.boom b) false a.pass.2 := hstands.granted
  have hreq := HoldsRequest.of_stands hstands
  unfold State.beginFlow at hflow ⊢
  dsimp only at hflow ⊢
  have hdemand := congrArg (fun c => CalStore.demand c (.boom b) (.step e)) hflow.cal
  rw [hdemand]
  have hplaced : HoldsRequest (u.place (.boom b) (.step e)) (.boom b) (.step e) (Purpose.step e).cls
      (s.cal.demand (.boom b) (.step e)) := by
    rw [← hcal]
    exact hreq
  split
  · next hg =>
    refine ⟨hplaced, .of_row ?_ hg⟩
    rw [if_pos hg] at hflow
    rw [hgrant] at hg
    obtain ⟨hf, h⟩ := htold
    rw [hg] at h
    rw [hf.stepDrive]
    exact (h.resolve_left fun h => by cases h.2).2.2 rfl
  · next hg =>
    have harb := (PairsOnly.of_requestBoom (u.place (.boom b) (.step e)) b (fun _ => .off false)).arb
    refine ⟨?_, .of_off (State.boomOff_atRest _ _) (State.boomOff_duty _ _ _) ?_⟩
    · rw [State.boomOff_eq, HoldsRequest, harb]
      exact hplaced
    · rw [State.boomOff_eq, State.granted, harb]
      exact Bool.eq_false_iff.2 hg

/-- R22, R29, R168: the drive of a step changes within it. -/
theorem State.changeDrive_afresh (s : State) (b : BoomId) : DrivenAfresh (s.changeDrive b) b := by
  have hcase : (s.granted (.boom b) = true ∧ s.changeDrive b = s.issueStep b .arm) ∨ (s.granted (.boom b) = false ∧
      s.changeDrive b = (s.setEngine b { s.engine b with armOnGrant := true }).boomOff b false) := by
    unfold State.changeDrive
    split <;> simp_all
  rcases hcase with ⟨hg, h⟩ | ⟨hg, h⟩
  · have hp := PairsOnly.of_requestBoom s b (fun f => (s.stepDrive b).toRequest f .arm)
    rw [h, State.issueStep_eq]
    refine .of_row ?_ ?_
    · have hd : (s.issueStep b .arm).stepDrive b = s.stepDrive b := (FlowEffect.of_issueStep s b .arm).stepDrive b
      rw [State.issueStep_eq] at hd
      rw [hd]
      exact s.requestBoom_arm b fun f => State.stepDrive_monitored
    · rw [State.granted, hp.arb]
      exact hg
  · rw [h]
    refine .of_off (State.boomOff_atRest _ _) (State.boomOff_duty _ _ _) ?_
    rw [State.granted, State.boomOff_eq, (PairsOnly.of_requestBoom _ _ _).arb, State.setEngine_arb]
    exact hg

end Sys2Proof.Machine
end

section
/-! PROOF. The port's own figures stand apart from the blocks: every relation that a request's block keeps holds of the states with
the link exchanged, so that what a block makes of the frame taken is what it makes of the state itself. -/
namespace Sys2Proof.Machine

/-- The state with another link. -/
def State.relink (s : State) (l : Link) : State := { s with link := l }

section
variable (s : State) (l : Link)

theorem State.frameTaken_relink : s.frameTaken = s.relink s.frameTaken.link := rfl
@[simp] theorem State.relink_relink (k : Link) : (s.relink l).relink k = s.relink k := rfl
@[simp] theorem State.relink_self : s.relink s.link = s := rfl
@[simp] theorem State.frameTaken_relink_link : s.frameTaken.relink s.link = s := rfl
@[simp] theorem State.relink_boom (b : BoomId) : (s.relink l).boom b = s.boom b := by cases b <;> rfl
@[simp] theorem State.relink_engine (b : BoomId) : (s.relink l).engine b = s.engine b := by cases b <;> rfl
@[simp] theorem State.relink_logger (b : BoomId) : (s.relink l).logger b = s.logger b := by cases b <;> rfl
@[simp] theorem State.relink_sensing (b : BoomId) : (s.relink l).sensing b = s.sensing b := by cases b <;> rfl
@[simp] theorem State.relink_head (b : BoomId) : (s.relink l).head b = s.head b := by cases b <;> rfl
@[simp] theorem State.relink_motion (b : BoomId) : (s.relink l).motion b = s.motion b := by cases b <;> rfl
@[simp] theorem State.relink_pair (p : PairId) : (s.relink l).pair p = s.pair p := by
  rcases p with ⟨_ | _, _ | _ | _⟩ | _ <;> rfl
@[simp] theorem State.relink_switch (i : SwitchId) : (s.relink l).switch i = s.switch i := by
  rcases i with _ | c | c | c | c | _ <;> (try cases c) <;> rfl
@[simp] theorem State.relink_closed (i : SwitchId) : (s.relink l).closed i = s.closed i := by simp [State.closed]
@[simp] theorem State.relink_analog (c : AnalogId) : (s.relink l).analog c = s.analog c := by cases c <;> rfl
@[simp] theorem State.relink_granted (w : Requester) : (s.relink l).granted w = s.granted w := rfl
@[simp] theorem State.relink_raised (e : Event) : (s.relink l).raised e = s.raised e := rfl
@[simp] theorem State.relink_activePlan (b : BoomId) : (s.relink l).activePlan b = s.activePlan b := by cases b <;> rfl
@[simp] theorem State.relink_activeValues (b : BoomId) : (s.relink l).activeValues b = s.activeValues b := by cases b <;> rfl
@[simp] theorem State.relink_stepDrive (b : BoomId) : (s.relink l).stepDrive b = s.stepDrive b := by cases b <;> rfl
@[simp] theorem State.relink_scanValues (b : BoomId) : (s.relink l).scanValues b = s.scanValues b := by cases b <;> rfl
theorem State.relink_setBoom (b : BoomId) (x : BoomState) : (s.relink l).setBoom b x = (s.setBoom b x).relink l := by cases b <;> rfl
theorem State.relink_setEngine (b : BoomId) (x : Engine) : (s.relink l).setEngine b x = (s.setEngine b x).relink l := by
  cases b <;> rfl
@[simp] theorem State.relink_cal : (s.relink l).cal = s.cal := rfl
@[simp] theorem State.relink_arb : (s.relink l).arb = s.arb := rfl
@[simp] theorem State.relink_store : (s.relink l).store = s.store := rfl

end

section
variable {s t : State} {b : BoomId}

theorem HoldsRequest.relink {who : Requester} {p : Purpose} {c d : Nat} (h : HoldsRequest s who p c d) (l : Link) :
    HoldsRequest (s.relink l) who p c d := h

theorem HoldsNone.relink {who : Requester} (h : HoldsNone s who) (l : Link) : HoldsNone (s.relink l) who := h

theorem DrivenAfresh.relink (h : DrivenAfresh s b) (l : Link) : DrivenAfresh (s.relink l) b := by
  simpa only [DrivenAfresh, StepDriven, State.relink_pair, State.relink_granted, State.relink_stepDrive, State.relink_cal] using h

theorem StepBegun.relink {e : EngineState} {c : Nat} (h : StepBegun s b e c) (l : Link) : StepBegun (s.relink l) b e c := by
  obtain ⟨h1, h2, h3⟩ := h
  exact ⟨by rwa [State.relink_engine], h2, h3.relink l⟩

theorem AtRest.relink (h : AtRest s b) (l : Link) : AtRest (s.relink l) b := h.congr rfl (by simp)

theorem FlowTouches.relink (h : FlowTouches s t b) (l : Link) : FlowTouches (s.relink l) (t.relink l) b := by
  simpa only [FlowTouches, State.relink_boom, State.relink_engine] using h

theorem FlowEffect.relink (h : FlowEffect s t) (l : Link) : FlowEffect (s.relink l) (t.relink l) := by
  obtain ⟨h1, h2, h3, h4⟩ := h
  refine ⟨?_, h2, h3.relink l, h4.relink l⟩
  rw [h1]
  rfl

theorem EngineMoves.relink (h : EngineMoves b s t) (l : Link) : EngineMoves b (s.relink l) (t.relink l) := by
  obtain ⟨h1, h2, h3, h4, h5, h6⟩ := h
  refine ⟨?_, h2, h3.relink l, ?_⟩
  · rw [h1]
    rfl
  · simpa only [State.relink_boom, State.relink_engine, State.relink_logger] using ⟨h4, h5, h6⟩

theorem EngineEffect.relink (h : EngineEffect b s t) (l : Link) : EngineEffect b (s.relink l) (t.relink l) :=
  ⟨h.1.relink l, by simpa only [State.relink_engine] using h.2⟩

theorem StrokesBegun.relink (h : StrokesBegun s b) (l : Link) : StrokesBegun (s.relink l) b := by
  obtain ⟨h1, h2, h3⟩ := h
  exact ⟨h1.relink l, by rwa [State.relink_engine], by simpa only [State.relink_engine, State.relink_closed] using h3⟩

theorem Offered.relink {r : InstRecord} (h : Offered s t b r) (l : Link) : Offered (s.relink l) (t.relink l) b r := by
  simpa only [Offered, State.relink_store, State.relink_boom, State.relink_engine, State.relink_raised] using h

theorem closesLog_relink (l : Link) : closesLog (s.relink l) b ↔ closesLog s b := by
  simp only [closesLog, State.relink_engine]

theorem loggerClosed_relink (l : Link) : loggerClosed (s.relink l) b = loggerClosed s b := by
  simp only [loggerClosed, State.relink_logger, State.relink_activePlan, State.relink_activeValues, State.relink_scanValues]

theorem closingFindsVoid_relink (l : Link) : closingFindsVoid (s.relink l) b ↔ closingFindsVoid s b := by
  simp only [closingFindsVoid, closesLog_relink, loggerClosed_relink, State.relink_logger]

theorem FaultedRecord.relink {r x : InstRecord} {c : FaultCause} (h : FaultedRecord s b r c x) (l : Link) :
    FaultedRecord (s.relink l) b r c x := by
  have hnow : (s.relink l).now = s.now := rfl
  simpa only [FaultedRecord, closesLog_relink, loggerClosed_relink, closingFindsVoid_relink, State.relink_engine, hnow] using h

theorem FaultEntered.relink {r : InstRecord} {c : FaultCause} (h : FaultEntered s t b r c) (l : Link) :
    FaultEntered (s.relink l) (t.relink l) b r c := by
  obtain ⟨h1, h2, h3, h4, h5, h6, h7, x, h8, h9⟩ := h
  refine ⟨h1.relink l, by simpa using h2, by simpa using h3, by simpa using h4, h5, fun hj => (h6 (by simpa using hj)).relink l,
    fun hv => h7 ((closingFindsVoid_relink l).1 hv), x, h8.relink l, h9.relink l⟩

theorem FilingEntered.relink {r : InstRecord} (h : FilingEntered s t b r) (l : Link) :
    FilingEntered (s.relink l) (t.relink l) b r := by
  obtain ⟨h1, h2, h3, h4, h5⟩ := h
  refine ⟨h1.relink l, h2.relink l, ?_, ?_, ?_⟩
  · have := h3.relink l
    rwa [State.relink_engine]
  · simpa using h4
  · simpa using h5

theorem JudgedAtOnce.relink {r : InstRecord} (h : JudgedAtOnce s t b r) (l : Link) :
    JudgedAtOnce (s.relink l) (t.relink l) b r := by
  obtain ⟨h1, h2⟩ := h
  refine ⟨fun hl => ?_, fun hl => ?_⟩
  · rw [State.relink_engine] at hl ⊢
    obtain ⟨k1, k2, k3, k4, k5⟩ := h1 hl
    exact ⟨k1.relink l, by simpa using k2, fun hj => (k3 hj).relink l, k4, by simpa using k5⟩
  · rw [State.relink_engine] at hl ⊢
    exact (h2 hl).relink l

end

section
variable {i : Instr} {s : State} {payload : List Byte} {n : Nat} {seq code : Byte} {decide : State → Decision}

/-- A request of fixed length whose block leaves the link alone is answered with what the block decides of the frame taken. -/
theorem exec_relinked (h : s.takesFrames = true) (hi : exec i s = .next (s.serveFixed seq code n payload decide))
    (hn : payload.length = n) (hl : n ≤ 250) {w : State} {a : Answer} (hd : decide s.frameTaken = ⟨w, a⟩)
    (hk : w.link = s.frameTaken.link) : exec i s = .next (answered (w.relink s.link) seq code a) := by
  refine exec_of_decides h hi hn hl ?_ rfl
  rw [hd, ← hk]
  rfl

end

/-- A request that names its boom. -/
theorem exec_serveBoom {i : Instr} {s : State} {seq code : Byte} {decide : BoomId → State → Decision} (b : BoomId)
    (hi : exec i s = .next (s.serveBoom seq code [BitVec.ofNat 8 b.num] decide)) :
    exec i s = .next (s.serveFixed seq code 1 [BitVec.ofNat 8 b.num] (decide b)) := by
  rw [hi, State.serveBoom, byteAt_zero, BoomId.num_byte, show withBoom b.num decide = decide b from funext fun t => withBoom_num b _ t]

end Sys2Proof.Machine
end

section
/-! PROOF. The requests that begin, hold and jog (R19, R20, R32, R41 to R43, R52, R53) and the hold causes of presence and link. -/
namespace Sys2Proof.Machine

/-! ## Events raised -/

section
variable {s t : State} {b : BoomId}

theorem FlowTouches.raise (h : FlowTouches s t b) (e : Event) : FlowTouches (s.raise e) (t.raise e) b := by
  cases b <;> exact h

theorem FlowEffect.raise (h : FlowEffect s t) (e : Event) : FlowEffect (s.raise e) (t.raise e) := by
  obtain ⟨h1, h2, h3, h4⟩ := h
  refine ⟨?_, h2, h3.raise e, h4.raise e⟩
  rw [h1]
  rfl

theorem AtRest.raise (h : AtRest s b) (e : Event) : AtRest (s.raise e) b :=
  h.congr rfl fun f => by cases b <;> cases f <;> rfl

end

/-- R199: raising an event sets its flag and no other. -/
theorem State.raise_raised (s : State) (e f : Event) :
    (s.raise e).raised f = (s.raised f || decide (f.bit = e.bit ∧ e.bit < 96)) := by
  unfold State.raised State.raise
  rw [BitVec.getLsbD_or]
  congr 1
  rw [BitVec.getLsbD_shiftLeft, Bool.eq_iff_iff]
  simp
  omega

theorem State.raised_raise (s : State) {e : Event} (h : e.bit < 96) : (s.raise e).raised e = true := by
  simp [State.raise_raised, h]

theorem State.raised_of_raised {s : State} {e : Event} (h : s.raised e = true) (f : Event) : (s.raise f).raised e = true := by
  simp [State.raise_raised, h]

theorem FlowEffect.raised {s t : State} (h : FlowEffect s t) (e : Event) : t.raised e = s.raised e := by
  unfold State.raised
  rw [h.events]

theorem State.setEngine_self (s : State) (b : BoomId) : s.setEngine b (s.engine b) = s := by cases b <;> rfl

/-! ## Holds (R41, R42) -/

/-- R41: the engine of a boom that has entered HOLD. -/
def Engine.heldBy (e : Engine) (c : HoldCause) : Engine :=
  { e with
    state := .hold
    resume := some e.state
    causes := HoldCauses.add {} c
    record :=
      if e.state = .mix then e.record.map (fun r => { r with flags := { r.flags with mixInterrupted := true } }) else e.record }

theorem State.enterHold_eq (s : State) (b : BoomId) (c : HoldCause) :
    s.enterHold b c = ((s.setEngine b ((s.engine b).heldBy c)).noFlow b).raise (.holdEntered b) := by
  unfold State.enterHold Engine.heldBy
  dsimp only
  split
  · next h =>
    simp only [State.flagRecord, State.modRecord, State.setEngine_engine, if_true, State.setEngine_setEngine]
    rfl
  · next h => rfl

theorem holdEntered_bit (b : BoomId) : (Event.holdEntered b).bit < 96 := by cases b <;> decide

/-- R41: what HOLD leaves of the boom. -/
theorem State.enterHold_spec (s : State) (b : BoomId) (c : HoldCause) :
    FlowEffect ((s.setEngine b ((s.engine b).heldBy c)).raise (.holdEntered b)) (s.enterHold b c) ∧ AtRest (s.enterHold b c) b ∧
      (s.enterHold b c).raised (.holdEntered b) = true := by
  rw [State.enterHold_eq]
  exact ⟨(FlowEffect.of_noFlow _ b).raise _, (State.noFlow_atRest _ b).raise _, State.raised_raise _ (holdEntered_bit b)⟩

/-- R41, R42: the hold cause `c` has reached boom `b`, whose jog still stands where it was not engaged. -/
def CauseTaken (s t : State) (b : BoomId) (c : HoldCause) : Prop :=
  ((s.engine b).state.engaged = true →
    (t.engine b).state = .hold ∧ (t.engine b).resume = some (s.engine b).state ∧
      (t.engine b).causes = HoldCauses.add {} c ∧ t.raised (.holdEntered b) = true ∧ AtRest t b) ∧
  ((s.engine b).state = .hold →
    (t.engine b).state = .hold ∧ (t.engine b).resume = (s.engine b).resume ∧
      (t.engine b).causes = (s.engine b).causes.add c) ∧
  ((s.engine b).state.engaged = false →
    (t.engine b).state = (s.engine b).state ∧
      FlowTouches
        (s.setEngine b
          { s.engine b with causes := if (s.engine b).state = .hold then (s.engine b).causes.add c else (s.engine b).causes })
        t b)

/-- R41, R42: a hold cause that reaches its boom. -/
theorem State.holdCause_taken (s : State) (b : BoomId) (c : HoldCause) : CauseTaken s (s.holdCause b c) b c := by
  refine ⟨fun he => ?_, fun hh => ?_, fun he => ?_⟩
  · obtain ⟨h1, h2, h3⟩ := s.enterHold_spec b c
    have hs : s.holdCause b c = s.enterHold b c := by simp [State.holdCause, he]
    rw [hs]
    have e1 := h1.engine b
    refine ⟨?_, ?_, ?_, h3, h2⟩ <;> rw [e1] <;> cases b <;> rfl
  · have hs : s.holdCause b c = s.setEngine b { s.engine b with causes := (s.engine b).causes.add c } := by
      simp [State.holdCause, hh, EngineState.engaged]
    rw [hs]
    simp [hh]
  · have hs : s.holdCause b c =
        s.setEngine b
          { s.engine b with causes := if (s.engine b).state = .hold then (s.engine b).causes.add c else (s.engine b).causes } := by
      unfold State.holdCause
      rw [if_neg (by simp [he])]
      split
      · rfl
      · exact (s.setEngine_self b).symm
    rw [hs]
    exact ⟨by simp, .refl _ b⟩

/-- R41, R42: every hold cause but TRIP leaves a jog alone. -/
theorem State.holdCause_reached (s : State) (b : BoomId) {c : HoldCause} (hc : c ≠ .trip) :
    HoldReached s (s.holdCause b c) b c := by
  have h := s.holdCause_taken b c
  unfold HoldReached
  rw [if_neg hc]
  exact h

/-! ## HOLD -/

/-- Settles O19. -/
theorem holdFreezesBoom : Obligations.HoldFreezesBoom := by
  unfold Obligations.HoldFreezesBoom
  intro q b s h i e
  have hexec := exec_serveBoom b (show exec i s = .next (s.serveBoom q 0x0D [BitVec.ofNat 8 b.num] decideHold) from rfl)
  refine ⟨fun he => ?_, fun hh => ?_, fun he hh => ?_⟩
  · let w := s.frameTaken.enterHold b .host
    obtain ⟨h1, h2, h3⟩ := s.frameTaken.enterHold_spec b .host
    have hd : decideHold b s.frameTaken = ⟨w, .accepted []⟩ := by
      have he' : (s.frameTaken.engine b).state.engaged = true := by simpa using he
      rw [decideHold, if_pos (.inl he'), State.holdCause, if_pos he']
      rfl
    refine ⟨w.relink s.link, exec_relinked h hexec rfl (by decide) hd (h1.link.trans (by cases b <;> rfl)), h2.relink s.link, h3, ?_⟩
    have := h1.relink s.link
    cases b <;> exact this
  · have hd : decideHold b s.frameTaken = ⟨s.frameTaken.setEngine b { e with causes := { e.causes with host := true } }, .accepted []⟩ := by
      have hh' : (s.frameTaken.engine b).state = .hold := by simpa using hh
      rw [decideHold, if_pos (.inr hh'), State.holdCause, if_neg (by rw [hh']; decide), if_pos hh']
      simp only [State.frameTaken_engine]
      rfl
    rw [exec_relinked h hexec rfl (by decide) hd (by simp)]
    cases b <;> rfl
  · refine exec_of_refuse h hexec rfl (by decide) ?_
    rw [decideHold, State.frameTaken_engine, if_neg (by simp [e] at he hh; simp [he, hh])]
    rfl

/-! ## Interlocks -/

/-- The detail of the first condition of a list that fails. -/
theorem firstFailing_cons (c : Bool) (n : Nat) (l : List (Bool × Nat)) :
    (((c, n) :: l).find? (·.1)).map (·.2) = if c = true then some n else (l.find? (·.1)).map (·.2) := by
  cases c <;> rfl

theorem firstFailing_nil : ((([] : List (Bool × Nat)).find? (·.1)).map (·.2)) = none := rfl

theorem State.startInterlock_eq (s : State) (b : BoomId) :
    s.startInterlock b =
      ([(s.cal.absent, 1), (s.trip, 2), (s.canopy.state != .set, 3), (!s.closed (.prs b), 4), ((s.engine b).restricted, 5),
        (!(s.head b).data.any (·.contact), 6), ((s.engine b).park, 7)].find? (·.1)).map (·.2) := by
  simp only [firstFailing_cons, firstFailing_nil, bne_iff_ne]
  rfl

theorem State.resumeInterlock_eq (s : State) (b : BoomId) {st : EngineState} (hst : (s.engine b).resume = some st) :
    s.resumeInterlock b =
      ([(s.trip, 2), (!s.closed (.prs b), 4), (s.canopy.state != .set, 3),
        (s.monitors.any (fun m => m.status == .trip && m.cfg.scope.has b &&
          (m.cfg.tripActs.holdAny || m.cfg.tripActs.holdDrill && (st == .collar || st == .drill))), 9)].find? (·.1)).map
        (·.2) := by
  simp only [firstFailing_cons, firstFailing_nil, bne_iff_ne, State.resumeInterlock, hst]
  rfl

/-- Settles O18. -/
theorem startAndResumeInterlocks : Obligations.StartAndResumeInterlocks := by
  unfold Obligations.StartAndResumeInterlocks
  intro q b s n h start resume
  have hstart := exec_serveBoom b (show exec start s = .next (s.serveBoom q 0x0C [BitVec.ofNat 8 b.num] decideStart) from rfl)
  have hresume := exec_serveBoom b (show exec resume s = .next (s.serveBoom q 0x0E [BitVec.ofNat 8 b.num] decideResume) from rfl)
  refine ⟨fun h1 h2 => ?_, fun hs hf => ?_, fun hh => ?_, fun st hh hst hf => ?_⟩
  · refine exec_of_refuse h hstart rfl (by decide) ?_
    rw [decideStart, State.frameTaken_engine, if_neg (by simp [h1, h2])]
    rfl
  · refine exec_of_refuse h hstart rfl (by decide) ?_
    have hi : s.frameTaken.startInterlock b = some n := by
      rw [State.startInterlock_eq]
      simp only [State.frameTaken_engine, State.frameTaken_closed, State.frameTaken_head]
      exact congrArg (Option.map Prod.snd) hf
    rw [decideStart, State.frameTaken_engine, if_pos hs]
    simp only [hi]
    rfl
  · refine exec_of_refuse h hresume rfl (by decide) ?_
    rw [decideResume, State.frameTaken_engine, if_neg hh]
    rfl
  · refine exec_of_refuse h hresume rfl (by decide) ?_
    have hi : s.frameTaken.resumeInterlock b = some n := by
      rw [State.resumeInterlock_eq s.frameTaken b (st := st) (by simpa using hst)]
      simp only [State.frameTaken_closed]
      exact congrArg (Option.map Prod.snd) hf
    rw [decideResume, State.frameTaken_engine, if_pos hh]
    simp only [hi]
    rfl

/-! ## START -/

/-- The requests to a boom's pairs touch those pairs alone. -/
theorem State.requestBoom_eq (s : State) (b : BoomId) (r : PairFn → PairRequest) :
    s.requestBoom b r = s.setBoom b { s.boom b with pairs := ((s.requestBoom b r).boom b).pairs } := by
  have h := PairsOnly.of_requestBoom s b r
  have hc : (s.requestBoom b r).canopyPair = s.canopyPair := s.requestBoom_other b r (p := .canopy) (by simp)
  have ho := s.requestBoom_boom b (otherBoom b) r (otherBoom_ne b)
  generalize s.requestBoom b r = t at h hc ho ⊢
  refine Eq.trans h ?_
  cases b
  · rw [show t.boomB = s.boomB from ho, hc]
    rfl
  · rw [show t.boomA = s.boomA from ho, hc]
    rfl

/-- R79, R53: ending a jog in the event of a placement touches the jog and the boom's pairs. -/
theorem State.dropJog_eq (s : State) (b : BoomId) :
    s.dropJog b =
      s.setBoom b { s.boom b with engine := { s.engine b with jog := none }, pairs := ((s.dropJog b).boom b).pairs } := by
  unfold State.dropJog
  split
  · rw [State.boomOff_eq]
    refine (State.requestBoom_eq _ _ _).trans ?_
    generalize (((s.setEngine b _).requestBoom b _).boom b).pairs = x
    cases b <;> rfl
  · next h =>
    have hj : (s.engine b).jog = none := by simpa using h
    have he : { s.engine b with jog := none } = s.engine b := by rw [← hj]
    rw [he]
    cases b <;> rfl

/-- R20: the boom as job `j` starts on plan `p`, before its request is placed. -/
def BoomState.startedOn (x : BoomState) (b : BoomId) (j : Job) (rest : List Job) (p : HolePlan) (now : Timestamp) : BoomState :=
  { x with
    queue := rest
    active := some j
    engine :=
      { x.engine with
        state := .collar, sub := .approach, leg := none, resume := none, jog := none, retries := 0, drillTimer := 0
        torqueTimer := 0, resinClock := 0, resinRunning := false, boltLoaded := false
        record := some { boom := b, tag := j.tag, planId := j.planId, start := now } }
    logger := { feedChoice := p.drillFeed } }

theorem State.startJob_eq {s : State} {b : BoomId} {j : Job} {rest : List Job} {p : HolePlan}
    (hp : findPlan s.plans j.planId = some p) :
    s.startJob b j rest =
      (s.setBoom b { (s.boom b).startedOn b j rest p s.now with pairs := ((s.dropJog b).boom b).pairs }).beginFlow b
        (.step .collar) := by
  have hdrop := s.dropJog_eq b
  generalize ((s.dropJog b).boom b).pairs = x at hdrop ⊢
  have hset (t : State) (ht : t = ((s.dropJog b).setQueue b rest).setActive b (some j)) :
      t.setEngine b ((t.engine b).started b j s.now) =
        s.setBoom b { (s.boom b).startedOn b j rest p s.now with pairs := x, logger := s.logger b } := by
    rw [ht, hdrop]
    cases b <;> rfl
  have hplan (x : BoomState) (hx : x.active = some j) : (s.setBoom b x).activePlan b = p := by
    have h : (s.setBoom b x).activePlan b = (findPlan s.plans (x.active.getD default).planId).getD default := by
      cases b <;> rfl
    rw [h, hx, Option.getD_some, hp, Option.getD_some]
  unfold State.startJob
  simp only
  rw [hset _ rfl, hplan _ rfl]
  congr 1
  cases b <;> rfl

theorem State.startJob_spec {s : State} {b : BoomId} {j : Job} {rest : List Job} {p : HolePlan}
    (hp : findPlan s.plans j.planId = some p) :
    FlowEffect (s.setBoom b ((s.boom b).startedOn b j rest p s.now)) (s.startJob b j rest) ∧
      StepBegun (s.startJob b j rest) b .collar 3 := by
  rw [State.startJob_eq hp]
  let u := s.setBoom b { (s.boom b).startedOn b j rest p s.now with pairs := ((s.dropJog b).boom b).pairs }
  have hpairs : FlowEffect (s.setBoom b ((s.boom b).startedOn b j rest p s.now)) u := by
    have := FlowEffect.of_setBoom (s := s.setBoom b ((s.boom b).startedOn b j rest p s.now)) (b := b)
      (x := { (s.boom b).startedOn b j rest p s.now with pairs := ((s.dropJog b).boom b).pairs }) (by cases b <;> rfl)
      (.inl (by cases b <;> rfl))
    cases b <;> exact this
  exact ⟨hpairs.trans (.of_beginFlow u b _), State.beginFlow_begun (by cases b <;> rfl) (by cases b <;> rfl)⟩

/-- Settles O17. -/
theorem startBeginsJob : Obligations.StartBeginsJob := by
  unfold Obligations.StartBeginsJob
  intro q b s j rest p d h hs habs htrip hcan hprs hres hdata hcon hpark hq hp
  have hexec := exec_serveBoom b
    (show exec (.start q [BitVec.ofNat 8 b.num]) s = .next (s.serveBoom q 0x0C [BitVec.ofNat 8 b.num] decideStart) from rfl)
  obtain ⟨h1, h2⟩ := State.startJob_spec (s := s.frameTaken) (b := b) (j := j) (rest := rest) hp
  have hi : s.frameTaken.startInterlock b = none := by
    have h1 : s.frameTaken.cal.absent = false := habs
    have h2 : s.frameTaken.trip = false := htrip
    have h3 : s.frameTaken.canopy.state = .set := hcan
    simp [State.startInterlock, State.roofContact, h1, h2, h3, hprs, hres, hdata, hcon, hpark]
  have hd : decideStart b s.frameTaken =
      ⟨s.frameTaken.startJob b j rest, .accepted [.u8 b.num, .u16 j.tag, .u8 j.planId]⟩ := by
    have hq' : (s.frameTaken.boom b).queue = j :: rest := by simpa using hq
    rw [decideStart, State.frameTaken_engine, if_pos (.inl hs)]
    simp only [hi, hq']
    rfl
  refine ⟨_, exec_relinked h hexec rfl (by decide) hd (h1.link.trans (by cases b <;> rfl)), ?_, h2.relink s.link⟩
  have := h1.relink s.link
  cases b <;> exact this

end Sys2Proof.Machine
end

section
/-! PROOF. Filing and faults (R40, R45, R187, R188): what the offer of a record leaves, and the entry to FILING and to FAULTED. -/
namespace Sys2Proof.Machine

/-! ## The offer -/

/-- R187 step 4: the boom whose record has been filed. -/
def BoomState.cleared (x : BoomState) : BoomState :=
  { x with engine := { x.engine with resinRunning := false, n := none, record := none }, active := none, logger := {} }

/-- R40, R18: the boom that makes its choice at the end of its job. -/
def BoomState.jobDone (x : BoomState) (o : Option JobOutcome) : BoomState :=
  { x.cleared with
    engine :=
      { x.cleared.engine with
        lastFault := if o = some .good then none else x.engine.lastFault
        state := chosen x, sub := .none, leg := none, resume := none } }

theorem State.filed_elsewhere {s : State} {b : BoomId} (o : Option JobOutcome) (h : (s.engine b).state ≠ .filing) :
    s.filed b o = s.setBoom b (s.boom b).cleared := by
  unfold State.filed
  dsimp only
  rw [if_neg h]
  cases b <;> rfl

theorem State.choose_eq (s : State) (b : BoomId) : s.choose b = s.goto b (chosen (s.boom b)) .none := by
  unfold State.choose chosen
  simp only [List.isEmpty_iff]
  rfl

theorem State.choose_setBoom (s : State) (b : BoomId) (x : BoomState) :
    (s.setBoom b x).choose b =
      s.setBoom b { x with engine := { x.engine with state := chosen x, sub := .none, leg := none, resume := none } } := by
  have hx : (s.setBoom b x).boom b = x := by cases b <;> rfl
  rw [State.choose_eq, hx]
  generalize chosen x = st
  cases b <;> rfl

theorem State.filed_filing {s : State} {b : BoomId} (o : Option JobOutcome) (h : (s.engine b).state = .filing) :
    s.filed b o = (s.raise (.jobDone b)).setBoom b ((s.boom b).jobDone o) := by
  let x := (s.boom b).cleared
  have hlast (f : Option FaultCause) : chosen { x with engine := { x.engine with lastFault := f } } = chosen (s.boom b) := rfl
  unfold State.filed
  dsimp only
  rw [if_pos h, BoomState.jobDone]
  split
  · refine (congrArg (State.choose · b) (a₂ := (s.raise (.jobDone b)).setBoom b { x with engine := { x.engine with lastFault := none } })
      (by cases b <;> rfl)).trans ?_
    rw [State.choose_setBoom, hlast]
  · refine (congrArg (State.choose · b) (a₂ := (s.raise (.jobDone b)).setBoom b x) (by cases b <;> rfl)).trans ?_
    rw [State.choose_setBoom, hlast x.engine.lastFault]
    rfl

theorem State.setBoom_raised (s : State) (b : BoomId) (x : BoomState) (e : Event) : (s.setBoom b x).raised e = s.raised e := by
  cases b <;> rfl

/-- The store that has taken record `r`. -/
def RecordStore.filed (x : RecordStore) (r : InstRecord) : RecordStore :=
  { x with records := x.records ++ [{ r with number := some x.next }], next := x.next + 1 }

/-- R184: the engine as it offers record `r`. -/
def Engine.offering (e : Engine) (r : InstRecord) : Engine := { e with record := some { r with retries := e.retries } }

section
variable {s : State} {b : BoomId} {r : InstRecord}

theorem State.offer_room (hr : (s.engine b).record = some r) (hn : 8 ≤ s.store.records.length) :
    s.offer b =
      ({ s.setEngine b ((s.engine b).offering r) with store := { s.store with room := s.store.room ++ [b] } } : State).raise
        .storeFull := by
  unfold State.offer
  dsimp only
  rw [State.modRecord, hr, if_neg (by rw [State.setEngine_store]; omega), State.setEngine_store]
  rfl

theorem State.offer_filed (hr : (s.engine b).record = some r) (hn : s.store.records.length < 8) :
    s.offer b =
      ((({ s.setEngine b ((s.engine b).offering r) with
          store := s.store.filed { r with retries := (s.engine b).retries } } : State).raise .recordReady).filed b r.outcome) := by
  unfold State.offer
  dsimp only
  rw [State.modRecord, hr, if_pos (by rw [State.setEngine_store]; exact hn), State.file, State.setEngine_engine, if_pos rfl]
  rw [State.setEngine_store]
  rfl


/-- What an offer leaves alone: the arbiter, the boom's pairs and every event that stands. -/
theorem State.offer_frame (hr : (s.engine b).record = some r) :
    (s.offer b).arb = s.arb ∧ (∀ f, (s.offer b).pair (.boom b f) = s.pair (.boom b f)) ∧
      ∀ e, s.raised e = true → (s.offer b).raised e = true := by
  rcases Nat.lt_or_ge s.store.records.length 8 with hn | hn
  · rw [State.offer_filed hr hn]
    by_cases hs : (s.engine b).state = .filing
    · rw [State.filed_filing _ (by cases b <;> exact hs)]
      refine ⟨by cases b <;> rfl, fun f => by cases b <;> cases f <;> rfl, fun e he => ?_⟩
      rw [State.setBoom_raised]
      refine State.raised_of_raised (State.raised_of_raised ?_ _) _
      cases b <;> exact he
    · rw [State.filed_elsewhere _ (by cases b <;> exact hs)]
      refine ⟨by cases b <;> rfl, fun f => by cases b <;> cases f <;> rfl, fun e he => ?_⟩
      rw [State.setBoom_raised]
      refine State.raised_of_raised ?_ _
      cases b <;> exact he
  · rw [State.offer_room hr hn]
    refine ⟨by cases b <;> rfl, fun f => by cases b <;> cases f <;> rfl, fun e he => State.raised_of_raised ?_ _⟩
    cases b <;> exact he

/-- R45, R187: the offer of a boom that does not stand in FILING. -/
theorem State.offer_elsewhere (hr : (s.engine b).record = some r) (hs : (s.engine b).state ≠ .filing) :
    Offered s (s.offer b) b { r with retries := (s.engine b).retries } ∧
      ∃ rec run n, (s.offer b).engine b = { s.engine b with record := rec, resinRunning := run, n := n } := by
  rcases Nat.lt_or_ge s.store.records.length 8 with hn | hn
  · rw [State.offer_filed hr hn, State.filed_elsewhere _ (by cases b <;> exact hs)]
    refine ⟨⟨fun _ => ⟨by cases b <;> rfl, by cases b <;> rfl, by cases b <;> rfl, by cases b <;> rfl, ?_⟩, fun h => by omega⟩,
      none, false, none, by cases b <;> rfl⟩
    rw [State.setBoom_raised]
    exact State.raised_raise _ (by decide)
  · rw [State.offer_room hr hn]
    refine ⟨⟨fun h => by omega, fun _ => ⟨by cases b <;> rfl, by cases b <;> rfl, by cases b <;> rfl, by cases b <;> rfl, ?_⟩⟩,
      some { r with retries := (s.engine b).retries }, (s.engine b).resinRunning, (s.engine b).n, by cases b <;> rfl⟩
    exact State.raised_raise _ (by decide)

/-- R40, R187: the offer of a boom in FILING. -/
theorem State.offer_filing (hr : (s.engine b).record = some r) (hs : (s.engine b).state = .filing) :
    Offered s (s.offer b) b { r with retries := (s.engine b).retries } ∧
      (s.store.records.length < 8 →
        ((s.offer b).engine b).state = chosen (s.boom b) ∧ (s.offer b).raised (.jobDone b) = true ∧
          ((s.offer b).engine b).lastFault = if r.outcome = some .good then none else (s.engine b).lastFault) ∧
      (8 ≤ s.store.records.length →
        ((s.offer b).engine b).state = .filing ∧ ((s.offer b).engine b).lastFault = (s.engine b).lastFault) := by
  rcases Nat.lt_or_ge s.store.records.length 8 with hn | hn
  · rw [State.offer_filed hr hn, State.filed_filing _ (by cases b <;> exact hs)]
    refine ⟨⟨fun _ => ⟨by cases b <;> rfl, by cases b <;> rfl, by cases b <;> rfl, by cases b <;> rfl, ?_⟩, fun h => by omega⟩,
      fun _ => ⟨?_, ?_, ?_⟩, fun h => by omega⟩
    · rw [State.setBoom_raised]
      exact State.raised_of_raised (State.raised_raise _ (by decide)) _
    · cases b <;> rfl
    · rw [State.setBoom_raised]
      exact State.raised_raise _ (by cases b <;> decide)
    · cases b <;> rfl
  · rw [State.offer_room hr hn]
    refine ⟨⟨fun h => by omega, fun _ => ⟨by cases b <;> rfl, by cases b <;> rfl, by cases b <;> rfl, by cases b <;> rfl, ?_⟩⟩,
      fun h => by omega, fun _ => ⟨by cases b <;> exact hs, by cases b <;> rfl⟩⟩
    exact State.raised_raise _ (by decide)

end

/-! ## FILING -/

/-- R21: the boom that enters a state without flow is told nothing; its pairs go off. -/
theorem State.noFlow_boom (s : State) (b : BoomId) : (s.noFlow b).boom b = { s.boom b with pairs := ((s.noFlow b).boom b).pairs } := by
  have h : (s.noFlow b).boom b = (s.boomOff b false).boom b := State.withdraw_boom _ b
  rw [h, State.boomOff_eq, State.requestBoom_eq]
  generalize ((s.requestBoom b _).boom b).pairs = x
  cases b <;> rfl

theorem State.noFlow_engine (s : State) (b : BoomId) : (s.noFlow b).engine b = s.engine b :=
  (congrArg BoomState.engine (s.noFlow_boom b)).trans rfl

theorem chosen_congr {x y : BoomState} (hp : y.engine.park = x.engine.park) (hq : y.queue = x.queue) : chosen y = chosen x := by
  unfold chosen
  rw [hp, hq]

theorem chosen_not_engaged (x : BoomState) : (chosen x).engaged = false := by
  unfold chosen
  split
  · rfl
  · split <;> rfl

theorem Offered.congr {s t u : State} {b : BoomId} {r : InstRecord} (h : Offered s u b r) (hs : s.store = t.store)
    (ha : (s.boom b).active = (t.boom b).active) (hc : (s.engine b).resinRunning = (t.engine b).resinRunning) : Offered t u b r := by
  unfold Offered at h ⊢
  rwa [hs, ha, hc] at h

/-- R40, R187. -/
theorem State.enterFiling_spec {s : State} {b : BoomId} {r : InstRecord} (hr : (s.engine b).record = some r) :
    FilingEntered s (s.enterFiling b) b r := by
  let u := (s.goto b .filing .none).noFlow b
  let v := u.modRecord b (fun r => { r with endTime := some s.now })
  have hflow := FlowEffect.of_noFlow (s.goto b .filing .none) b
  have hu : u.engine b = { s.engine b with state := .filing, sub := .none, leg := none, resume := none } := by
    rw [State.noFlow_engine]
    simp [State.goto]
  have hv : v.engine b = { u.engine b with record := some { r with endTime := some s.now } } := by
    simp [v, State.modRecord, hu, hr]
  have hstore : v.store = s.store := (State.setEngine_store _ _ _).trans (hflow.store.trans (by simp [State.goto]))
  have hactive : (v.boom b).active = (s.boom b).active :=
    (show (v.boom b).active = (u.boom b).active by cases b <;> rfl).trans ((hflow.active b).trans (by cases b <;> rfl))
  have hqueue : (v.boom b).queue = (s.boom b).queue :=
    (show (v.boom b).queue = (u.boom b).queue by cases b <;> rfl).trans ((hflow.queue b).trans (by cases b <;> rfl))
  have hrec : (v.engine b).record = some { r with endTime := some s.now } := by rw [hv]
  have hrest : AtRest v b := (State.noFlow_atRest _ b).congr (by simp [v, State.modRecord]; rfl) fun f => State.setEngine_pair _ _ _ _
  obtain ⟨harb, hpairs, -⟩ := State.offer_frame hrec
  obtain ⟨hoff, hfiled, hroom⟩ := State.offer_filing hrec (by rw [hv, hu])
  have hchosen : chosen (v.boom b) = chosen (s.boom b) := chosen_congr (by show (v.engine b).park = _; rw [hv, hu]; rfl) hqueue
  have hlast : (v.engine b).lastFault = (s.engine b).lastFault := by rw [hv, hu]
  have hret : (v.engine b).retries = (s.engine b).retries := by rw [hv, hu]
  have hrun : (v.engine b).resinRunning = (s.engine b).resinRunning := by rw [hv, hu]
  rw [hstore, hchosen, hlast] at hfiled
  rw [hstore, hlast] at hroom
  rw [hret] at hoff
  refine ⟨(EngineMoves.of_enterFiling s b).effect (.inr ?_), hrest.congr harb hpairs, hoff.congr hstore hactive hrun, hfiled, hroom⟩
  rcases Nat.lt_or_ge s.store.records.length 8 with hn | hn
  · rw [show s.enterFiling b = v.offer b from rfl, (hfiled hn).1]
    exact chosen_not_engaged _
  · rw [show s.enterFiling b = v.offer b from rfl, (hroom hn).1]
    rfl

/-! ## FAULTED -/

/-- R61, R72: the boom whose log is closed with logger `l`, its record `r` marked where that finds a void. -/
def BoomState.logClosed (x : BoomState) (l : Logger) (r : InstRecord) (found : Bool) : BoomState :=
  { x with
    logger := l
    engine :=
      { x.engine with
        record :=
          some
            { r with
              flags := if found = true then { r.flags with voidInBond := true } else r.flags
              finalDepth := l.h, hard := l.hard, log := l.log } } }

section
variable {s : State} {b : BoomId} {r : InstRecord}

theorem State.closeLog_found (hr : (s.engine b).record = some r) (h0 : (s.logger b).voidFound = false)
    (h1 : (loggerClosed s b).voidFound = true) :
    s.closeLog b = (s.setBoom b ((s.boom b).logClosed (loggerClosed s b) r true)).raise (.voidFound b) := by
  unfold State.closeLog State.putLogger
  rw [show Logger.closeOpen _ _ _ _ = loggerClosed s b from rfl]
  generalize loggerClosed s b = l at h1 ⊢
  rw [if_pos (by simp [h0, h1])]
  have he : ((s.setLogger b l).raise (.voidFound b)).engine b = s.engine b := by simp
  simp only [State.flagRecord, State.modRecord, he, hr, Option.map_some, State.setEngine_engine, if_true, State.setEngine_logger]
  cases b <;> rfl

theorem State.closeLog_unfound (hr : (s.engine b).record = some r)
    (h : ¬((s.logger b).voidFound = false ∧ (loggerClosed s b).voidFound = true)) :
    s.closeLog b = s.setBoom b ((s.boom b).logClosed (loggerClosed s b) r false) := by
  unfold State.closeLog State.putLogger
  rw [show Logger.closeOpen _ _ _ _ = loggerClosed s b from rfl]
  generalize loggerClosed s b = l at h ⊢
  rw [if_neg (by simpa [and_comm] using h)]
  have he : (s.setLogger b l).engine b = s.engine b := by simp
  simp only [State.modRecord, he, hr, Option.map_some]
  cases b <;> rfl

/-- R61, R68, R72: what the closing of the log writes and raises. -/
theorem State.closeLog_spec (hr : (s.engine b).record = some r) :
    let l := loggerClosed s b
    (s.closeLog b).engine b =
        { s.engine b with
          record :=
            some
              { r with
                flags :=
                  if (s.logger b).voidFound = false ∧ l.voidFound = true then { r.flags with voidInBond := true } else r.flags
                finalDepth := l.h, hard := l.hard, log := l.log } } ∧
      (s.closeLog b).store = s.store ∧ ((s.closeLog b).boom b).active = (s.boom b).active ∧
      (∀ e, s.raised e = true → (s.closeLog b).raised e = true) ∧
      ((s.logger b).voidFound = false ∧ l.voidFound = true → (s.closeLog b).raised (.voidFound b) = true) ∧
      (s.closeLog b).arb = s.arb ∧ ∀ f, (s.closeLog b).pair (.boom b f) = s.pair (.boom b f) := by
  intro l
  by_cases hf : (s.logger b).voidFound = false ∧ l.voidFound = true
  · rw [State.closeLog_found hr hf.1 hf.2, if_pos hf]
    refine ⟨by cases b <;> rfl, by cases b <;> rfl, by cases b <;> rfl, fun e he => ?_,
      fun _ => State.raised_raise _ (by cases b <;> decide), by cases b <;> rfl, fun f => by cases b <;> cases f <;> rfl⟩
    refine State.raised_of_raised ?_ _
    rwa [State.setBoom_raised]
  · rw [State.closeLog_unfound hr hf, if_neg hf]
    refine ⟨by cases b <;> rfl, by cases b <;> rfl, by cases b <;> rfl, fun e he => ?_, fun h => absurd h hf, by cases b <;> rfl,
      fun f => by cases b <;> cases f <;> rfl⟩
    rwa [State.setBoom_raised]

theorem loggerClosed_congr {t : State} (hl : t.logger b = s.logger b) (hp : t.activePlan b = s.activePlan b)
    (hv : t.activeValues b = s.activeValues b) (ha : t.analogs = s.analogs) (hn : t.now = s.now) :
    loggerClosed t b = loggerClosed s b := by
  have hv' : t.scanValues b = s.scanValues b := by
    unfold State.scanValues State.analog
    rw [ha, hn]
  rw [loggerClosed, loggerClosed, hl, hp, hv, hv']

/-- R45: the engine as it enters FAULTED with cause `c`. -/
def Engine.faulted (e : Engine) (c : FaultCause) : Engine :=
  { e with state := .faulted, sub := .none, leg := none, resume := none, lastFault := some c, causes := {}, armOnGrant := false }

/-- R45: the engine is put to rest, unless it jogs. -/
def State.faultRest (s : State) (b : BoomId) (c : FaultCause) : State :=
  if (s.engine b).jog.isSome then s.setEngine b ((s.engine b).faulted c) else (s.setEngine b ((s.engine b).faulted c)).noFlow b

/-- R45, R184: the record is written. -/
def State.faultWritten (s : State) (b : BoomId) (c : FaultCause) : State :=
  ((s.faultRest b c).modRecord b (faultRecord (s.engine b) (stepLeft (s.engine b)) c s.now)).raise (.jobFault b)

theorem State.enterFaulted_eq (s : State) (b : BoomId) (c : FaultCause) :
    s.enterFaulted b c =
      (if stepLeft (s.engine b) = .collar ∨ stepLeft (s.engine b) = .drill then (s.faultWritten b c).closeLog b
        else s.faultWritten b c).offer b := by
  have h : (s.goto b .faulted .none).setEngine b
      { (s.goto b .faulted .none).engine b with lastFault := some c, causes := {}, armOnGrant := false } =
        s.setEngine b ((s.engine b).faulted c) := by cases b <;> rfl
  unfold State.enterFaulted State.faultWritten State.faultRest stepLeft
  dsimp only
  rw [h]

theorem State.faultRest_boom (s : State) (b : BoomId) (c : FaultCause) :
    (s.faultRest b c).boom b =
      { s.boom b with engine := (s.engine b).faulted c, pairs := ((s.faultRest b c).boom b).pairs } := by
  unfold State.faultRest
  split
  · cases b <;> rfl
  · rw [State.noFlow_boom]
    cases b <;> rfl

theorem State.faultRest_flow (s : State) (b : BoomId) (c : FaultCause) :
    FlowEffect (s.setEngine b ((s.engine b).faulted c)) (s.faultRest b c) := by
  unfold State.faultRest
  split
  · exact .refl _
  · exact .of_noFlow _ b

theorem State.faultRest_atRest {c : FaultCause} (h : (s.engine b).jog = none) : AtRest (s.faultRest b c) b := by
  rw [State.faultRest, if_neg (by simp [h])]
  exact State.noFlow_atRest _ b

/-- R45, R184: the engine once its record is written. -/
theorem State.faultWritten_engine (c : FaultCause) (hr : (s.engine b).record = some r) :
    (s.faultWritten b c).engine b =
      { (s.engine b).faulted c with record := some (faultRecord (s.engine b) (stepLeft (s.engine b)) c s.now r) } := by
  have h : (s.faultRest b c).engine b = (s.engine b).faulted c := (congrArg BoomState.engine (s.faultRest_boom b c)).trans rfl
  have hrec : ((s.engine b).faulted c).record = some r := hr
  rw [State.faultWritten, State.raise_engine, State.modRecord, State.setEngine_engine, if_pos rfl, h, hrec]
  rfl

theorem State.faultWritten_boom (s : State) (b : BoomId) (c : FaultCause) :
    (s.faultWritten b c).boom b =
      { s.boom b with engine := (s.faultWritten b c).engine b, pairs := ((s.faultRest b c).boom b).pairs } := by
  have h := s.faultRest_boom b c
  unfold State.faultWritten State.modRecord
  generalize s.faultRest b c = u at h ⊢
  have h2 (e : Engine) : ((u.setEngine b e).raise (.jobFault b)).boom b = { u.boom b with engine := e } := by cases b <;> rfl
  simp only [State.engine, h2]
  generalize u.boom b = y at h ⊢
  rw [h]

theorem State.faultWritten_loggerClosed (s : State) (b : BoomId) (c : FaultCause) :
    loggerClosed (s.faultWritten b c) b = loggerClosed s b := by
  have hflow := s.faultRest_flow b c
  have hboom := s.faultWritten_boom b c
  have hactive : (s.faultWritten b c).activeJob b = s.activeJob b := by rw [State.activeJob, hboom]; rfl
  have hplans : (s.faultWritten b c).plans = s.plans := by
    rw [State.faultWritten]
    simp [State.modRecord, hflow.plans]
  have hplan : (s.faultWritten b c).activePlan b = s.activePlan b := by rw [State.activePlan, hactive, hplans]; rfl
  refine loggerClosed_congr ?_ hplan ?_ ?_ ?_
  · rw [State.logger, hboom]
    rfl
  · rw [State.activeValues, hactive, hplan]
    rfl
  · rw [State.faultWritten]
    simp [State.modRecord, hflow.analogs]
  · rw [State.faultWritten]
    simp [State.modRecord, hflow.now]

/-- R45, R61, R184: the record that the entry to FAULTED offers, but for the retries that the offer writes. -/
def faultOffer (s : State) (b : BoomId) (r : InstRecord) (c : FaultCause) : InstRecord :=
  let w := faultRecord (s.engine b) (stepLeft (s.engine b)) c s.now r
  let l := loggerClosed s b
  if stepLeft (s.engine b) = .collar ∨ stepLeft (s.engine b) = .drill then
    { w with
      flags := if (s.logger b).voidFound = false ∧ l.voidFound = true then { w.flags with voidInBond := true } else w.flags
      finalDepth := l.h, hard := l.hard, log := l.log }
  else w

/-- R45, R184, R187: the state in which the entry to FAULTED offers its record. -/
theorem State.enterFaulted_offers (c : FaultCause) (hr : (s.engine b).record = some r) :
    ∃ v : State, s.enterFaulted b c = v.offer b ∧
      v.engine b = { (s.engine b).faulted c with record := some (faultOffer s b r c) } ∧ v.store = s.store ∧
      (v.boom b).active = (s.boom b).active ∧ v.raised (.jobFault b) = true ∧
      (closingFindsVoid s b → v.raised (.voidFound b) = true) ∧ ((s.engine b).jog = none → AtRest v b) := by
  rw [State.enterFaulted_eq]
  let w := s.faultWritten b c
  have he := State.faultWritten_engine c hr
  have hrec : (w.engine b).record = some (faultRecord (s.engine b) (stepLeft (s.engine b)) c s.now r) := by rw [he]
  have hstore : w.store = s.store := by
    have h := (s.faultRest_flow b c).store
    simp only [w, State.faultWritten, State.modRecord, State.raise_store, State.setEngine_store, h]
  have hactive : (w.boom b).active = (s.boom b).active := by rw [s.faultWritten_boom b c]
  have hraised : w.raised (.jobFault b) = true := State.raised_raise _ (by cases b <;> decide)
  have hrest (h : (s.engine b).jog = none) : AtRest w b :=
    (State.faultRest_atRest (c := c) h).congr (by simp [w, State.faultWritten, State.modRecord]) fun f => by
      simp [w, State.faultWritten, State.modRecord]
  have hl := s.faultWritten_loggerClosed b c
  have hlog : w.logger b = s.logger b := by rw [State.logger, s.faultWritten_boom b c]; rfl
  by_cases hc : stepLeft (s.engine b) = .collar ∨ stepLeft (s.engine b) = .drill
  · rw [if_pos hc]
    obtain ⟨h1, h2, h3, h4, h5, h6, h7⟩ := State.closeLog_spec hrec
    rw [hl, hlog] at h1 h5
    refine ⟨_, rfl, ?_, h2.trans hstore, h3.trans hactive, h4 _ hraised, fun h => h5 h.2, fun h => (hrest h).congr h6 h7⟩
    rw [h1, he]
    unfold faultOffer
    rw [if_pos hc]
  · rw [if_neg hc]
    refine ⟨w, rfl, ?_, hstore, hactive, hraised, fun h => absurd h.1 hc, hrest⟩
    unfold faultOffer
    rw [if_neg hc]
    exact he

/-- R45, R61, R184, R187. -/
theorem State.enterFaulted_spec (c : FaultCause) (hr : (s.engine b).record = some r) : FaultEntered s (s.enterFaulted b c) b r c := by
  obtain ⟨v, hv, he, hstore, hactive, hfault, hvoid, hrest⟩ := State.enterFaulted_offers c hr
  have hrec : (v.engine b).record = some (faultOffer s b r c) := by rw [he]
  obtain ⟨harb, hpairs, hraised⟩ := State.offer_frame hrec
  obtain ⟨hoff, rec, run, n, heng⟩ := State.offer_elsewhere hrec (by rw [he]; exact fun h => by cases h)
  have hstate : ((v.offer b).engine b).state = .faulted := by rw [heng, he]; rfl
  have hret : (v.engine b).retries = (s.engine b).retries := by rw [he]; rfl
  refine ⟨(EngineMoves.of_enterFaulted s b c).effect (.inr ?_), ?_⟩
  · rw [hv, hstate]
    rfl
  rw [hv]
  refine ⟨hstate, by rw [heng, he]; rfl, by rw [heng, he]; rfl, hraised _ hfault, fun hj => (hrest hj).congr harb hpairs,
    fun h => hraised _ (hvoid h), { faultOffer s b r c with retries := (s.engine b).retries }, ?_,
    hret ▸ hoff.congr hstore hactive (by rw [he]; rfl)⟩
  unfold FaultedRecord faultOffer closingFindsVoid closesLog
  by_cases hl : stepLeft (s.engine b) = .collar ∨ stepLeft (s.engine b) = .drill <;> by_cases hf : (s.logger b).voidFound = false ∧ (loggerClosed s b).voidFound = true <;>
    simp [hl, hf, faultRecord]

end

end Sys2Proof.Machine
end

section
/-! PROOF. ABORT, CLEAR FAULT, PARK and UNPARK (R46 to R51), and the park request of a silent link (R200). -/
namespace Sys2Proof.Machine

/-! ## A boom that asks for nothing -/

/-- R80, R86: boom `b`, where it holds no request, is told nothing between `s` and `t`, and asks for none. -/
def Unasked (b : BoomId) (s t : State) : Prop := HoldsNone s (.boom b) → HoldsNone t (.boom b) ∧ t.boom b = s.boom b

namespace Unasked
variable {b c : BoomId} {s t u : State}

theorem trans (h : Unasked b s t) (k : Unasked b t u) : Unasked b s u := fun hs => by
  obtain ⟨ht, hb⟩ := h hs
  exact ⟨(k ht).1, (k ht).2.trans hb⟩

theorem of_eq (ha : t.arb = s.arb) (hb : t.boom b = s.boom b) : Unasked b s t := fun h => ⟨fun r hr => h r (by rwa [ha] at hr), hb⟩

theorem of_setEngine (h : b ≠ c) (s : State) (e : Engine) : Unasked b s (s.setEngine c e) :=
  .of_eq (by simp) (by simp [h])

theorem of_raise (s : State) (e : Event) : Unasked b s (s.raise e) := .of_eq rfl (by simp)

theorem of_requestBoom (h : b ≠ c) (s : State) (r : PairFn → PairRequest) : Unasked b s (s.requestBoom c r) :=
  .of_eq (PairsOnly.of_requestBoom s c r).arb (State.requestBoom_boom s c b r h)

theorem of_withdraw_other {who : Requester} (h : who ≠ .boom b) (s : State) : Unasked b s (s.withdraw who) := fun hs => by
  unfold State.withdraw
  split
  · have hl : (s.arb.remove who).Lacks (.boom b) := by
      obtain ⟨h1, h2⟩ := Arbiter.lacks_iff.2 hs
      exact ⟨fun x hx => h1 x (List.mem_of_mem_filter hx), fun w hw => h2 w (List.mem_of_mem_filter hw)⟩
    obtain ⟨k1, k2⟩ := Arbiter.pass_lacks hl
    refine ⟨Arbiter.lacks_iff.1 (by rw [State.runPass_arb]; exact k1), ?_⟩
    unfold State.runPass
    rw [State.tells_boom_ne _ _ k2]
    cases b <;> rfl
  · exact ⟨hs, rfl⟩

theorem of_withdraw (h : b ≠ c) (s : State) : Unasked b s (s.withdraw (.boom c)) :=
  of_withdraw_other (fun k => h (by cases k; rfl)) s

theorem of_noFlow (h : b ≠ c) (s : State) : Unasked b s (s.noFlow c) := by
  rw [State.noFlow, State.boomOff_eq]
  exact (of_requestBoom h s _).trans (of_withdraw h _)

theorem of_enterHold (h : b ≠ c) (s : State) (k : HoldCause) : Unasked b s (s.enterHold c k) := by
  rw [State.enterHold_eq]
  exact ((of_setEngine h s _).trans (of_noFlow h _)).trans (of_raise _ _)

theorem of_parkBoom (h : b ≠ c) (s : State) (k : HoldCause) : Unasked b s (s.parkBoom c k) := by
  have h1 := of_setEngine h s { s.engine c with park := true }
  unfold State.parkBoom
  split
  case h_1 | h_2 => exact h1.trans (of_setEngine h _ _)
  case h_9 => exact h1
  all_goals exact h1.trans (of_enterHold h _ k)

theorem atRest (h : Unasked b s t) (k : AtRest s b) : AtRest t b := by
  obtain ⟨h1, h2⟩ := h k.1
  refine ⟨h1, fun f => ?_⟩
  rw [State.pair_of_boom h2]
  exact k.2 f

end Unasked

/-! ## The park request -/

/-- R50: the three ways in which an engine acts on a park request. -/
theorem State.parkBoom_cases (s : State) (b : BoomId) (c : HoldCause) :
    let u := s.setEngine b { s.engine b with park := true }
    (((s.engine b).state = .idle ∨ (s.engine b).state = .ready) ∧ s.parkBoom b c = u.goto b .parked .none) ∨
      ((s.engine b).state.engaged = true ∧ parkedTo (s.engine b).state = .hold ∧ s.parkBoom b c = u.enterHold b c) ∨
        (parkedTo (s.engine b).state = (s.engine b).state ∧ s.parkBoom b c = u) := by
  intro u
  unfold State.parkBoom
  cases hst : (s.engine b).state <;> simp [parkedTo, EngineState.engaged, u]

/-- R50, R51: what a park request with hold cause `c` makes of boom `b`. -/
theorem State.parkBoom_spec (s : State) (b : BoomId) (c : HoldCause) :
    let t := s.parkBoom b c
    EngineEffect b s t ∧ (t.engine b).park = true ∧ (t.engine b).state = parkedTo (s.engine b).state ∧
      (parkedTo (s.engine b).state = .hold → (s.engine b).state ≠ .hold →
        (t.engine b).resume = some (s.engine b).state ∧ (t.engine b).causes = HoldCauses.add {} c ∧
          t.raised (.holdEntered b) = true ∧ AtRest t b) ∧
      ((s.engine b).state = .hold → t = s.setEngine b { s.engine b with park := true }) := by
  intro t
  have hmoves : EngineMoves b s t := EngineMoves.of_parkBoom s b c
  let u := s.setEngine b { s.engine b with park := true }
  have hu : u.engine b = { s.engine b with park := true } := by simp [u]
  rcases s.parkBoom_cases b c with ⟨hs, ht⟩ | ⟨hs, hp, ht⟩ | ⟨hp, ht⟩ <;> simp only [t] at hmoves ⊢ <;> rw [ht] at hmoves ⊢
  · have hst : ((u.goto b .parked .none).engine b).state = .parked := by simp [State.goto]
    have hp : parkedTo (s.engine b).state = .parked ∧ (s.engine b).state ≠ .hold := by
      rcases hs with hs | hs <;> rw [hs] <;> exact ⟨rfl, by decide⟩
    refine ⟨hmoves.effect (.inr (by rw [hst]; rfl)), by simp [State.goto], hst.trans hp.1.symm, fun h _ => ?_,
      fun h => absurd h hp.2⟩
    rw [hp.1] at h
    cases h
  · obtain ⟨h1, h2, h3⟩ := u.enterHold_spec b c
    have he := h1.engine b
    have hst : ((u.enterHold b c).engine b).state = .hold := by rw [he]; simp [Engine.heldBy]
    refine ⟨hmoves.effect (.inr (by rw [hst]; rfl)), ?_, hst.trans hp.symm, fun _ _ => ⟨?_, ?_, h3, h2⟩, fun h => ?_⟩
    · rw [he]
      simp [Engine.heldBy, hu]
    · rw [he]
      simp [Engine.heldBy, hu]
    · rw [he]
      simp [Engine.heldBy, hu]
    · rw [h] at hs
      cases hs
  · refine ⟨hmoves.effect ?_, by rw [hu], by rw [hu]; exact hp.symm, fun h h' => absurd (hp.symm.trans h) h', fun _ => rfl⟩
    rw [hu]
    cases (s.engine b).state.engaged <;> simp

theorem State.parkBoom_raised {s : State} {e : Event} (h : s.raised e = true) (b : BoomId) (c : HoldCause) :
    (s.parkBoom b c).raised e = true := by
  have hset (x : Engine) (s : State) : (s.setEngine b x).raised e = s.raised e := by cases b <;> rfl
  rcases s.parkBoom_cases b c with ⟨-, ht⟩ | ⟨-, -, ht⟩ | ⟨-, ht⟩
  · rwa [ht, State.goto, hset, hset]
  · rw [ht, State.enterHold_eq]
    refine State.raised_of_raised ?_ _
    rwa [(FlowEffect.of_noFlow _ b).raised, hset, hset]
  · rwa [ht, hset]

/-- R50: what one boom's engine does on a park request leaves of the other. -/
theorem FlowTouches.parked {s t : State} {b : BoomId} (h : FlowTouches s t b) :
    (t.engine b).park = (s.engine b).park ∧ (t.engine b).resume = (s.engine b).resume ∧
      (t.engine b).causes = (s.engine b).causes :=
  ⟨congrArg (·.park) h.engine, congrArg (·.resume) h.engine, congrArg (·.causes) h.engine⟩

/-! ## The requests -/

/-- Settles O22. -/
theorem abortClearFaultAndPark : Obligations.AbortClearFaultAndPark := by
  unfold Obligations.AbortClearFaultAndPark
  refine ⟨?_, ?_⟩
  · intro q b s h abort clear e
    have habort := exec_serveBoom b (show exec abort s = .next (s.serveBoom q 0x0F [BitVec.ofNat 8 b.num] decideAbort) from rfl)
    have hclear := exec_serveBoom b (show exec clear s = .next (s.serveBoom q 0x13 [BitVec.ofNat 8 b.num] decideClearFault) from rfl)
    refine ⟨fun r he hr => ?_, fun he hh => ?_, fun he hr => ?_, fun he => ?_⟩
    · have hf := State.enterFaulted_spec (s := s.frameTaken) (b := b) (r := r) .aborted (by simpa using hr)
      have hd : decideAbort b s.frameTaken = ⟨s.frameTaken.enterFaulted b .aborted, .accepted []⟩ := by
        rw [decideAbort, if_pos (by simpa using he)]
        rfl
      exact ⟨_, exec_relinked h habort rfl (by decide) hd hf.1.1.link, hf.relink s.link⟩
    · refine exec_of_refuse h habort rfl (by decide) ?_
      rw [decideAbort, State.frameTaken_engine, if_neg (by simp [e] at he hh; simp [he, hh])]
      rfl
    · have hd : decideClearFault b s.frameTaken =
          ⟨s.frameTaken.setEngine b { e with state := chosen (s.boom b), sub := .none, leg := none, resume := none },
            .accepted []⟩ := by
        rw [decideClearFault, if_pos (by simpa [e] using ⟨he, hr⟩), State.choose_eq]
        cases b <;> rfl
      rw [exec_relinked h hclear rfl (by decide) hd (by simp)]
      cases b <;> rfl
    · refine exec_of_refuse h hclear rfl (by decide) ?_
      rw [decideClearFault, State.frameTaken_engine, if_neg (by rcases he with he | he <;> simp [e] at he <;> simp [he])]
      rfl
  · intro q b s h e
    have hpark := exec_serveBoom b
      (show exec (.park q [BitVec.ofNat 8 b.num]) s = .next (s.serveBoom q 0x10 [BitVec.ofNat 8 b.num] decidePark) from rfl)
    have hunpark := exec_serveBoom b
      (show exec (.unpark q [BitVec.ofNat 8 b.num]) s = .next (s.serveBoom q 0x11 [BitVec.ofNat 8 b.num] decideUnpark) from rfl)
    refine ⟨?_, fun hs => ?_, fun hs => ?_⟩
    · obtain ⟨h1, h2, h3, h4, h5⟩ := s.frameTaken.parkBoom_spec b .host
      have hd : decidePark b s.frameTaken = ⟨s.frameTaken.parkBoom b .host, .accepted []⟩ := rfl
      refine ⟨_, exec_relinked h hpark rfl (by decide) hd h1.1.link, ?_⟩
      rw [State.relink_engine]
      rw [State.frameTaken_engine] at h3 h4 h5
      refine ⟨h1.relink s.link, h2, h3, fun hp hs => ?_, fun hs => ?_⟩
      · obtain ⟨k1, k2, k3, k4⟩ := h4 hp hs
        exact ⟨k1, k2, k3, k4.relink s.link⟩
      · rw [h5 hs]
        cases b <;> rfl
    · have hd : decideUnpark b s.frameTaken = ⟨s.frameTaken.setEngine b { e with park := false }, .accepted []⟩ := by
        rw [decideUnpark, State.unpark, State.frameTaken_engine, if_neg hs]
        rfl
      rw [exec_relinked h hunpark rfl (by decide) hd (by simp)]
      cases b <;> rfl
    · have hd : decideUnpark b s.frameTaken =
          ⟨s.frameTaken.setEngine b
            { e with
              park := false
              state := if (s.boom b).queue = [] then .idle else .ready
              sub := .none, leg := none, resume := none }, .accepted []⟩ := by
        rw [decideUnpark, State.unpark, State.frameTaken_engine, if_pos hs, State.choose_eq]
        cases b <;> rfl
      rw [exec_relinked h hunpark rfl (by decide) hd (by simp)]
      cases b <;> rfl

/-- Settles O9. -/
theorem linkSilenceParksBooms : Obligations.LinkSilenceParksBooms := by
  unfold Obligations.LinkSilenceParksBooms
  intro s hrun hlive htime
  let v : State :=
    { s with
      link := { s.link with live := false, silence := s.link.timeout }
      events := s.events ||| (1#96 <<< Event.linkLost.bit) }
  let u := v.parkBoom .A .link
  let t := u.parkBoom .B .link
  have hexec : exec .linkSilent s = .next t := by
    show Host.Outcome.next (if _ then _ else _) = _
    rw [if_pos ⟨hrun, hlive, htime⟩]
    rfl
  obtain ⟨a1, a2, a3, a4, a5⟩ := v.parkBoom_spec .A .link
  obtain ⟨b1, b2, b3, b4, b5⟩ := u.parkBoom_spec .B .link
  have hA : FlowTouches u t .A := b1.1.2.2.1
  have hB : FlowTouches v u .B := a1.1.2.2.1
  obtain ⟨hpark, hresume, hcauses⟩ := hA.parked
  have hlost : v.raised .linkLost = true := State.raised_raise { s with link := v.link } (e := .linkLost) (by decide)
  refine ⟨u, t, hexec, a1, b1, State.parkBoom_raised (State.parkBoom_raised hlost .A .link) .B .link, fun b => ?_⟩
  cases b with
  | A =>
    refine ⟨hpark.trans a2, hA.state.trans a3, fun hp hs => ?_, fun hs => ?_⟩
    · obtain ⟨k1, k2, k3, k4⟩ := a4 hp hs
      exact ⟨hresume.trans k1, hcauses.trans k2, State.parkBoom_raised k3 .B .link,
        (Unasked.of_parkBoom (by decide) u .link).atRest k4⟩
    · have h := congrArg (fun t => (t.engine .A).causes) (a5 hs)
      exact hcauses.trans h
  | B =>
    rw [hB.state] at b3 b4 b5
    refine ⟨b2, b3, b4, fun hs => ?_⟩
    have h := congrArg (fun t => (t.engine .B).causes) (b5 hs)
    exact h.trans hB.parked.2.2

end Sys2Proof.Machine
end

section
/-! PROOF. The requests of the head module bus (R154 to R156, R159). -/
namespace Sys2Proof.Machine

theorem State.setHead_self (s : State) (b : BoomId) : s.setHead b (s.head b) = s := by cases b <;> rfl

theorem State.raiseHealth_self (s : State) (c : ChannelId) (h : Health) : s.raiseHealth c h h = s := by
  have hn : healthEvent h h = none := by cases h <;> rfl
  rw [State.raiseHealth, hn]

/-- R152: an ending that is no sample leaves the head record and all that follows it alone. -/
theorem State.classify_of_no_sample (s : State) (b : BoomId) {e : Ending} (h : e.sample = none) : s.classify b e = s := by
  have hafter : (s.head b).after e s.now = s.head b := by simp [Head.after, h]
  unfold State.classify
  simp [hafter, h, State.setHead_self, State.raiseHealth_self, State.headChanged]

/-- R159: a killed manual transaction. -/
theorem State.endTransaction_killed (s : State) {t : Transaction} (h : t.manual = true) :
    s.endTransaction t (.error .killed none) =
      { s with bus := { s.bus with txn := none, manual := { s.bus.manual with result := .error .killed none } } } := by
  unfold State.endTransaction
  cases hs : t.statusOf with
  | none => simp [h, Ending.manual]
  | some b => simp [h, Ending.manual, State.classify_of_no_sample _ b (e := .error .killed none) rfl]

section
variable {i : Instr} {s : State} {payload : List Byte} {seq code : Byte} {decide : State → Decision}

/-- A request of any length, taken and decided, is answered with its decision. -/
theorem exec_of_serve {u : State} {a : Answer} (h : s.takesFrames = true) (hi : exec i s = .next (s.serve seq code payload decide))
    (hl : payload.length ≤ 250) (hd : decide s.frameTaken = ⟨{ u with link := s.frameTaken.link }, a⟩) (hk : u.link = s.link) :
    exec i s = .next (answered u seq code a) := by
  rw [hi, State.serve_answered h hl seq code decide (congrArg Decision.state hd) hk, hd]

end

/-! ## TRANSACT (R156) -/

section
variable {p : List Byte} {s : State} {k : BusKind}

theorem busKindOf_none {n : Nat} (h : 2 < n) : busKindOf n = none := by
  rw [busKindOf, if_neg (by omega), if_neg (by omega), if_neg (by omega)]

/-- R156: the checks of a request of a known kind, in their order. -/
theorem decideTransact_of_kind (hl : 2 ≤ p.length) (hk : busKindOf (byteAt p 0) = some k) :
    decideTransact p s =
      if byteAt p 1 > 0x7F then s.badField 2
      else if k = .writeBlock ∧ p.length < 4 then s.refuse .badLength
      else if k = .writeBlock ∧ (byteAt p 3 < 1 ∨ byteAt p 3 > 16) then s.badField 4
      else if p.length ≠ transactLength k p then s.refuse .badLength
      else if s.bus.schedule ≠ .paused ∨ s.bus.txn.isSome then s.refuse .busy
      else (s.beginManual k p).accept [.u8 k.num, .u8 (byteAt p 1)] := by
  rw [decideTransact, if_neg (by omega), hk]

/-- R156: a request whose bytes are in order is decided by the bus. -/
theorem decideTransact_of_valid (hl : 2 ≤ p.length) (hk : busKindOf (byteAt p 0) = some k) (hx : byteAt p 1 ≤ 0x7F)
    (hw : k = .writeBlock → 1 ≤ byteAt p 3 ∧ byteAt p 3 ≤ 16) (hn : p.length = transactLength k p) :
    decideTransact p s =
      if s.bus.schedule ≠ .paused ∨ s.bus.txn.isSome then s.refuse .busy
      else (s.beginManual k p).accept [.u8 k.num, .u8 (byteAt p 1)] := by
  have hlen : k = .writeBlock → 4 ≤ p.length := fun h => by
    rw [hn, h, transactLength]
    omega
  rw [decideTransact_of_kind hl hk, if_neg (by omega), if_neg (fun h => by have := hlen h.1; omega),
    if_neg (fun h => by have := hw h.1; omega), if_neg (fun h => h hn)]

theorem byte_eq_of_toNat {x : Byte} {n : Nat} (h : x.toNat = n) : x = BitVec.ofNat 8 n := by
  rw [← h]
  simp

end

/-- Settles O44. -/
theorem headBusCommands : Obligations.HeadBusCommands := by
  unfold Obligations.HeadBusCommands
  intro q s h bus
  have hpause : exec (.headBusPause q []) s = .next (s.serveFixed q 0x21 0 [] decidePause) := rfl
  have hresume : exec (.headBusResume q []) s = .next (s.serveFixed q 0x22 0 [] decideBusResume) := rfl
  have hkill : exec (.headBusKill q []) s = .next (s.serveFixed q 0x25 0 [] decideKill) := rfl
  refine ⟨fun hs ht => ?_, fun hs ht => ?_, fun hs => ?_, fun hs ht => ?_, fun hs ht => ?_, fun hs => ?_, fun ht => ?_, fun t ht hm => ?_,
    fun kind addr cmd n data => ?_⟩
  · refine exec_of_decides h hpause rfl (by decide) ?_ rfl
    simp [decidePause, State.pauseBus, State.frameTaken, State.accept, bus] at hs ht ⊢
    simp [hs, ht]
  · refine exec_of_decides h hpause rfl (by decide) ?_ rfl
    simp [decidePause, State.pauseBus, State.frameTaken, State.accept, bus] at hs ht ⊢
    simp [hs, Option.isSome_iff_ne_none.2 ht]
    rfl
  · refine exec_of_decides h hpause rfl (by decide) ?_ rfl
    simp [decidePause, State.pauseBus, State.frameTaken, State.accept, bus] at hs ⊢
    simp [hs]
  · refine exec_of_refuse h hresume rfl (by decide) ?_
    rw [decideBusResume, if_pos ⟨hs, Option.isSome_iff_ne_none.2 ht⟩]
    rfl
  · refine exec_of_decides h hresume rfl (by decide) ?_ rfl
    rw [decideBusResume, if_neg (fun k => by have := Option.isSome_iff_ne_none.1 k.2; exact this ht)]
    have hs' : s.frameTaken.bus.schedule = .paused := hs
    simp only [State.resumeBus, if_pos hs']
    rfl
  · refine exec_of_decides h hresume rfl (by decide) ?_ rfl
    have hs' : s.frameTaken.bus.schedule ≠ .paused := hs
    rw [decideBusResume, if_neg (fun k => hs' k.1)]
    simp only [State.resumeBus, if_neg hs']
    rfl
  · refine exec_of_accept h hkill rfl (by decide) ?_
    have ht' : ∀ t, s.frameTaken.bus.txn = some t → t.manual = false := ht
    unfold decideKill
    split
    · next t htx => simp [ht' t htx]
    · rfl
  · refine exec_of_decides h hkill rfl (by decide) ?_ rfl
    have ht' : s.frameTaken.bus.txn = some t := ht
    rw [decideKill, ht']
    simp only [hm, if_true, State.endTransaction_killed _ hm]
    rfl
  · have hexec (p : List Byte) : exec (.headBusTransact q p) s = .next (s.serve q 0x23 p (decideTransact p)) := rfl
    have hrefuse (p : List Byte) (r : Reason) (d : Nat) (hp : p.length ≤ 250)
        (hd : decideTransact p s.frameTaken = ⟨s.frameTaken, .refused r d⟩) :
        exec (.headBusTransact q p) s = .next (answered s q 0x23 (.refused r d)) :=
      exec_of_serve h (hexec p) hp (u := s) hd rfl
    intro ping read write started
    refine ⟨fun p hp => ?_, fun hk ha hn hd => ?_, fun hk ha h1 h2 hn hd => ?_, fun ha hb => ?_, fun ha hs ht => ?_⟩
    · intro any k x length
      have hzero : k = 0 → busKindOf (byteAt p 0) = some .ping := fun h => by rw [byteAt, show p.getD 0 0 = 0 from h]; rfl
      have hone : k = 1 → busKindOf (byteAt p 0) = some .readBlock := fun h => by rw [byteAt, show p.getD 0 0 = 1 from h]; rfl
      have htwo : k = 2 → busKindOf (byteAt p 0) = some .writeBlock := fun h => by rw [byteAt, show p.getD 0 0 = 2 from h]; rfl
      have hkind (hk : k.toNat ≤ 2) : k = 0 ∨ k = 1 ∨ k = 2 := by
        have h3 : k.toNat = 0 ∨ k.toNat = 1 ∨ k.toNat = 2 := by omega
        exact h3.imp byte_eq_of_toNat (Or.imp byte_eq_of_toNat byte_eq_of_toNat)
      refine ⟨fun hl => hrefuse p _ _ hp ?_, fun hl hk => hrefuse p _ _ hp ?_, fun hl hk hx => hrefuse p _ _ hp ?_,
        fun hl hl4 hk hx => hrefuse p _ _ hp ?_, fun hl hk hx hlen => hrefuse p _ _ hp ?_⟩
      · rw [decideTransact, if_pos hl]
        rfl
      · rw [decideTransact, if_neg (by omega), busKindOf_none (n := byteAt p 0) hk]
        rfl
      · have hx' : byteAt p 1 > 0x7F := hx
        rcases hkind hk with hk | hk | hk
        · rw [decideTransact_of_kind hl (hzero hk), if_pos hx']
          rfl
        · rw [decideTransact_of_kind hl (hone hk), if_pos hx']
          rfl
        · rw [decideTransact_of_kind hl (htwo hk), if_pos hx']
          rfl
      · have hx' : ¬byteAt p 1 > 0x7F := Nat.not_lt.2 hx
        rw [decideTransact_of_kind hl (htwo hk), if_neg hx', if_pos ⟨rfl, hl4⟩]
        rfl
      · have hx' : ¬byteAt p 1 > 0x7F := Nat.not_lt.2 hx
        rcases hkind (by omega) with hk2 | hk2 | hk2
        · have hn : p.length ≠ transactLength .ping p := by rwa [show length = 2 from if_pos hk2] at hlen
          rw [decideTransact_of_kind hl (hzero hk2), if_neg hx', if_neg (fun h => by cases h.1), if_neg (fun h => by cases h.1),
            if_pos hn]
          rfl
        · have hn : p.length ≠ transactLength .readBlock p := by
            rwa [show length = 3 from (if_neg (by rw [hk2]; decide)).trans (if_pos hk2)] at hlen
          rw [decideTransact_of_kind hl (hone hk2), if_neg hx', if_neg (fun h => by cases h.1), if_neg (fun h => by cases h.1),
            if_pos hn]
          rfl
        · rw [hk2] at hk
          exact absurd hk (by decide)
    · subst hk
      have hx : ¬byteAt (2 :: addr :: cmd :: n :: data) 1 > 0x7F := Nat.not_lt.2 ha
      refine hrefuse _ _ _ (by simp; omega) ?_
      rw [decideTransact_of_kind (k := .writeBlock) (by simp) rfl, if_neg hx, if_neg (not_and_of_not_right _ (by simp)),
        if_pos ⟨rfl, by rcases hn with hn | hn; exacts [.inl (Nat.lt_one_iff.2 hn), .inr hn]⟩]
      rfl
    · subst hk
      have hx : ¬byteAt (2 :: addr :: cmd :: n :: data) 1 > 0x7F := Nat.not_lt.2 ha
      refine hrefuse _ _ _ (by simp; omega) ?_
      rw [decideTransact_of_kind (k := .writeBlock) (by simp) rfl, if_neg hx, if_neg (not_and_of_not_right _ (by simp)),
        if_neg (fun h => by have : n.toNat < 1 ∨ 16 < n.toNat := h.2; omega),
        if_pos (by show data.length + 4 ≠ 4 + n.toNat; omega)]
      rfl
    · have hbusy : s.frameTaken.bus.schedule ≠ .paused ∨ s.frameTaken.bus.txn.isSome = true :=
        hb.imp id Option.isSome_iff_ne_none.2
      refine ⟨fun hk => ?_, fun hk => ?_, fun hk h1 h2 hd => ?_⟩ <;> subst hk
      · refine hrefuse _ _ _ (by simp) ?_
        rw [decideTransact_of_valid (p := [0, addr]) (k := .ping) (by simp) rfl ha (fun h => by cases h) rfl, if_pos hbusy]
        rfl
      · refine hrefuse _ _ _ (by simp) ?_
        rw [decideTransact_of_valid (p := [1, addr, cmd]) (k := .readBlock) (by simp) rfl ha (fun h => by cases h) rfl, if_pos hbusy]
        rfl
      · refine hrefuse _ _ _ (by simp; omega) ?_
        rw [decideTransact_of_valid (p := 2 :: addr :: cmd :: n :: data) (k := .writeBlock) (by simp) rfl ha (fun _ => ⟨h1, h2⟩)
          (by show data.length + 4 = 4 + n.toNat; omega), if_pos hbusy]
        rfl
    · have hfree : ¬(s.frameTaken.bus.schedule ≠ .paused ∨ s.frameTaken.bus.txn.isSome = true) := by
        have h1 : s.frameTaken.bus.schedule = .paused := hs
        have h2 : s.frameTaken.bus.txn = none := ht
        simp [h1, h2]
      refine ⟨fun hk => ?_, fun hk => ?_, fun hk h1 h2 hd => ?_⟩ <;> subst hk
      · refine exec_of_serve h (hexec _) (by simp) ?_ rfl
        rw [decideTransact_of_valid (p := [0, addr]) (k := .ping) (by simp) rfl ha (fun h => by cases h) rfl, if_neg hfree]
        rfl
      · refine exec_of_serve h (hexec _) (by simp) ?_ rfl
        rw [decideTransact_of_valid (p := [1, addr, cmd]) (k := .readBlock) (by simp) rfl ha (fun h => by cases h) rfl, if_neg hfree]
        rfl
      · refine exec_of_serve h (hexec _) (by simp; omega) ?_ rfl
        rw [decideTransact_of_valid (p := 2 :: addr :: cmd :: n :: data) (k := .writeBlock) (by simp) rfl ha (fun _ => ⟨h1, h2⟩)
          (by show data.length + 4 = 4 + n.toNat; omega), if_neg hfree]
        rfl

end Sys2Proof.Machine
end

section
/-! PROOF. Lines, presence, pulses and edges (R111, R114, R116, R118, R134, R136). -/
namespace Sys2Proof.Machine

/-! ## Presence -/

theorem Pair.loaded_of_off {p : Pair} (h : p.coil = .off) (gate : Bool) (deadTime : Nat) : p.loaded gate deadTime = p.dead := by
  have hs : p.stops gate = false := by unfold Pair.stops; rw [h]
  rw [Pair.loaded, hs]
  rfl

/-- R111: behind a closed gate every pair of the boom is off. -/
theorem State.settleBoom_off {s : State} {b : BoomId} {f : PairFn} (h : s.gateOpen (.boom b f) = false) :
    ((s.settleBoom b).pair (.boom b f)).coil = .off := by
  rw [State.settleBoom_pair, State.settlePair_pair, if_pos rfl, Pair.settle_off (.inr h)]

theorem State.settleBoom_eq (s : State) (b : BoomId) : s.settleBoom b = s.setBoom b ((s.settleBoom b).boom b) := by cases b <;> rfl

/-- A hold cause drives no coil: a boom that has stopped stands. -/
theorem State.holdCause_coil_off {s : State} {b : BoomId} {f : PairFn} (h : (s.pair (.boom b f)).coil = .off) (c : HoldCause) :
    ((s.holdCause b c).pair (.boom b f)).coil = .off := by
  unfold State.holdCause
  dsimp only
  split
  · exact ((s.enterHold_spec b c).2.1.2 f).2.1
  · split
    · simpa using h
    · exact h

/-- A hold cause that reaches a boom whose pairs alone have changed reaches it as it was. -/
theorem HoldReached.of_pairsOnly {s u t : State} {b : BoomId} {c : HoldCause} (h : HoldReached u t b c) (k : PairsOnly s u) :
    HoldReached s t b c := by
  have he := k.engine b
  unfold HoldReached at h ⊢
  rw [he] at h
  obtain ⟨h1, h2, h3⟩ := h
  refine ⟨h1, h2, fun hs => ⟨(h3 hs).1, FlowTouches.trans ⟨?_, .inl ?_⟩ (h3 hs).2⟩⟩
  · rw [State.setEngine_boom, if_pos rfl, State.setEngine_boom, if_pos rfl, k.boom b]
    simp
  · simp

/-- Settles O42. -/
theorem linesAndPresence : Obligations.LinesAndPresence := by
  unfold Obligations.LinesAndPresence
  refine ⟨fun i x s => ?_, fun b x s => ?_, fun b s hrun => ?_, fun b s hrun => ?_⟩
  · show Host.Outcome.next (s.setSwitch i _) = _
    by_cases h : s.phase = .running
    · have hr : s.running = true := by simp [State.running, h]
      rw [if_pos hr, if_neg (not_not.2 h), SwitchInput.take]
      cases (s.switch i).run <;> rfl
    · have hr : ¬s.running = true := by simp [State.running, h]
      rw [if_neg hr, if_pos h]
  · show Host.Outcome.next (s.setMotion b _) = _
    by_cases h : s.phase = .running
    · have hr : s.running = true := by simp [State.running, h]
      rw [if_pos hr, if_neg (not_not.2 h), Pickup.take]
      cases (s.motion b).pickup.run <;> rfl
    · have hr : ¬s.running = true := by simp [State.running, h]
      rw [if_neg hr, if_pos h]
  · intro x
    have hexec : exec (.rotationPickupReturn b) s =
        .next (if x.runs false then s.setMotion b { s.motion b with pickup := {} } else s) := by
      show Host.Outcome.next (s.whenRunning _) = _
      rw [State.whenRunning_of_running hrun]
    refine ⟨fun h => ?_, fun h1 h2 h3 => ?_⟩
    · rw [hexec, if_neg]
      unfold Pickup.runs
      rcases h with h | h | h <;> simp [h]
    · have hx : x.runs false = true := by simp [Pickup.runs, h1, h2, Option.isSome_iff_ne_none.2 h3]
      rw [hexec, if_pos hx]
  · let held := !s.closed (.prs b)
    let u := s.setSwitch (.prs b) { line := held, level := held, run := none }
    let w := u.settleBoom b
    have hexec : exec (.switchQualifiedChange (.prs b)) s = .next (if held then w else w.holdCause b .presence) := by
      show Host.Outcome.next (s.whenRunning _) = _
      rw [State.whenRunning_of_running hrun]
      rfl
    have hpairs : PairsOnly u w := .of_settleBoom u b
    have hclosed : u.closed (.prs b) = held := by cases b <;> rfl
    have hpair (f : PairFn) : u.pair (.boom b f) = s.pair (.boom b f) := by cases b <;> cases f <;> rfl
    cases hh : s.closed (.prs b) with
    | false =>
      have hheld : held = true := by simp [held, hh]
      have hu : u = s.setSwitch (.prs b) { line := true, level := true, run := none } := by simp [u, hheld]
      rw [hexec, if_pos hheld]
      refine ⟨w, rfl, ?_, fun _ => ⟨?_, ?_, fun f d htrip hd h0 hoff => ?_⟩, (nomatch ·)⟩
      · rw [hpairs.closed, hclosed, hheld]
        rfl
      · rw [← hu]
        exact u.settleBoom_eq b
      · rw [hpairs.boom b, hpairs.switch]
        cases b <;> rfl
      · have hgate : u.gateOpen (.boom b f) = true := by
          rw [State.gateOpen, hclosed, hheld]
          cases b <;> simp [u, htrip]
        rw [State.settleBoom_pair, State.settlePair_pair, if_pos rfl, hgate, hpair, Pair.settle_drives hd]
        exact .inl ((Pair.loaded_of_off hoff _ _).trans h0)
    | true =>
      have hheld : held = false := by simp [held, hh]
      have hu : u = s.setSwitch (.prs b) { line := false, level := false, run := none } := by simp [u, hheld]
      have hgate (f : PairFn) : u.gateOpen (.boom b f) = false := by
        rw [State.gateOpen, hclosed, hheld]
        simp
      rw [hexec, if_neg (by simp [hheld])]
      refine ⟨w.holdCause b .presence, rfl, ?_, (nomatch ·), fun _ => ⟨fun f => ?_, ?_⟩⟩
      · have h : (w.holdCause b .presence).closed (.prs b) = w.closed (.prs b) :=
          congrArg (·.prs.level) ((EngineMoves.of_holdCause w b .presence).switches b)
        rw [h, hpairs.closed, hclosed, hheld]
        rfl
      · exact State.holdCause_coil_off (State.settleBoom_off (hgate f)) _
      · rw [← hu]
        exact (w.holdCause_reached b (by decide)).of_pairsOnly hpairs

end Sys2Proof.Machine
end

section
/-! PROOF. The steps of the cycle from MIX to FILING (R34 to R40), with the backoff (R28, R29): what each entry makes of the engine
and of the record. -/
namespace Sys2Proof.Machine

/-! ## A step that begins -/

section
variable {s t : State} {b : BoomId} {e : EngineState} {x : Engine}

/-- R87: outside MIX what the arbiter tells a boom leaves its record alone. -/
theorem FlowTouches.engine_eq (h : FlowTouches s t b) (hs : (s.engine b).state ≠ .mix) :
    t.engine b = { s.engine b with armOnGrant := (t.engine b).armOnGrant } := by
  have h1 := h.engine
  rwa [h.2.resolve_right fun k => hs k.1] at h1

theorem FlowEffect.engine_eq (h : FlowEffect s t) (hs : (s.engine b).state ≠ .mix) :
    t.engine b = { s.engine b with armOnGrant := (t.engine b).armOnGrant } := (h.boom b).engine_eq hs

/-- R21, R22: the step of an engine that has taken its state begins. -/
theorem State.beginStep_spec (s : State) (b : BoomId) (hx : x.state = e) (hj : x.jog = none) :
    FlowEffect (s.setEngine b x) ((s.setEngine b x).beginFlow b (.step e)) ∧
      StepBegun ((s.setEngine b x).beginFlow b (.step e)) b e (Purpose.step e).cls :=
  ⟨.of_beginFlow _ b _, State.beginFlow_begun (by simpa using hx) (by simpa using hj)⟩

end

/-! ## MIX and GEL_HOLD -/

/-- R35: the record at the end of MIX. -/
def mixRecord (q : Nat) (short : Bool) (r : InstRecord) : InstRecord :=
  { r with mixQ := some q, flags := { r.flags with mixShort := r.flags.mixShort || short } }

/-- R35, R36: the engine that goes from MIX to GEL_HOLD. -/
def Engine.gelling (e : Engine) (short : Bool) : Engine :=
  { e with state := .gelHold, sub := .none, leg := none, resume := none, record := e.record.map (mixRecord e.q short) }

theorem State.mixEnded_eq (s : State) (b : BoomId) (short : Bool) :
    s.mixEnded b short = s.setEngine b { s.engine b with record := (s.engine b).record.map (mixRecord (s.engine b).q short) } := by
  cases short
  · have h : mixRecord (s.engine b).q false = fun r => { r with mixQ := some (s.engine b).q } := funext fun r => by simp [mixRecord]
    rw [h]
    rfl
  · have h : mixRecord (s.engine b).q true = (fun r => { r with flags := r.flags.add .mixShort }) ∘ fun r =>
        { r with mixQ := some (s.engine b).q } := funext fun r => by simp [mixRecord, RecordFlags.add]
    rw [h, ← Option.map_map]
    simp only [State.mixEnded, State.flagRecord, State.modRecord, if_true, State.setEngine_engine, State.setEngine_setEngine]

theorem State.endMix_eq (s : State) (b : BoomId) (short : Bool) :
    s.endMix b short = (s.setEngine b ((s.engine b).gelling short)).beginFlow b (.step .gelHold) := by
  rw [State.endMix, State.mixEnded_eq, State.enterGelHold, State.goto, State.setEngine_engine, if_pos rfl, State.setEngine_setEngine]
  rfl

/-- R35, R36. -/
theorem State.endMix_spec (s : State) {b : BoomId} (short : Bool) (hj : (s.engine b).jog = none) :
    FlowEffect (s.setEngine b ((s.engine b).gelling short)) (s.endMix b short) ∧ StepBegun (s.endMix b short) b .gelHold 2 := by
  rw [State.endMix_eq]
  exact State.beginStep_spec s b rfl hj

/-! ## RELEASE and FILING -/

section
variable {s t u : State} {b : BoomId} {r : InstRecord}

/-- R18, R40, R187: what an entry to FILING reads of the state it comes from. -/
def SameFiling (b : BoomId) (s u : State) : Prop :=
  u.now = s.now ∧ u.store = s.store ∧ (u.boom b).active = (s.boom b).active ∧ (u.boom b).queue = (s.boom b).queue ∧
    (u.engine b).resinRunning = (s.engine b).resinRunning ∧ (u.engine b).retries = (s.engine b).retries ∧
    (u.engine b).park = (s.engine b).park ∧ (u.engine b).lastFault = (s.engine b).lastFault

theorem SameFiling.trans (h : SameFiling b s t) (k : SameFiling b t u) : SameFiling b s u := by
  obtain ⟨h1, h2, h3, h4, h5, h6, h7, h8⟩ := h
  obtain ⟨k1, k2, k3, k4, k5, k6, k7, k8⟩ := k
  exact ⟨k1.trans h1, k2.trans h2, k3.trans h3, k4.trans h4, k5.trans h5, k6.trans h6, k7.trans h7, k8.trans h8⟩

theorem SameFiling.of_flow (h : FlowEffect s u) : SameFiling b s u :=
  have e := h.engine b
  ⟨h.now, h.store, h.active b, h.queue b, congrArg (·.resinRunning) e, congrArg (·.retries) e, congrArg (·.park) e,
    congrArg (·.lastFault) e⟩

theorem SameFiling.of_setEngine {x : Engine} (h : x.resinRunning = (s.engine b).resinRunning) (h2 : x.retries = (s.engine b).retries)
    (h3 : x.park = (s.engine b).park) (h4 : x.lastFault = (s.engine b).lastFault) : SameFiling b s (s.setEngine b x) := by
  unfold SameFiling
  simp [h, h2, h3, h4]

theorem FilingEntered.congr (h : FilingEntered u t b r) (k : SameFiling b s u) (hm : EngineMoves b s t) : FilingEntered s t b r := by
  obtain ⟨h1, h2, h3, h4⟩ := h
  obtain ⟨k1, k2, k3, k4, k5, k6, k7, k8⟩ := k
  have hc : chosen (u.boom b) = chosen (s.boom b) := chosen_congr k7 k4
  rw [k1, k6] at h3
  rw [k2, hc, k8] at h4
  refine ⟨hm.effect (.inr ?_), h2, h3.congr k2 k3 k5, h4⟩
  rcases Nat.lt_or_ge s.store.records.length 8 with hn | hn
  · rw [(h4.1 hn).1]
    exact chosen_not_engaged _
  · rw [(h4.2 hn).1]
    rfl

/-- R39: RELEASE begins, and where the home switch stands closed already it ends in FILING at once. -/
theorem State.enterRelease_spec (hj : (s.engine b).jog = none) (hr : (s.engine b).record = some r) :
    (s.closed (.home b) = false → StepBegun (s.enterRelease b) b .release 4 ∧ ((s.enterRelease b).engine b).record = some r) ∧
      (s.closed (.home b) = true → FilingEntered s (s.enterRelease b) b r) := by
  let x : Engine := { s.engine b with state := .release, sub := .none, leg := none, resume := none }
  obtain ⟨hflow, hbegun⟩ := State.beginStep_spec s b (x := x) (e := .release) rfl hj
  let u := (s.setEngine b x).beginFlow b (.step .release)
  have hclosed : u.closed (.home b) = s.closed (.home b) := (hflow.closed _).trans (by simp [State.closed])
  have hrec : (u.engine b).record = some r := by
    rw [hflow.engine_eq (b := b) (by simp [x]), State.setEngine_engine, if_pos rfl]
    exact hr
  have hmoves := EngineMoves.of_enterRelease s b
  have hval : s.enterRelease b = if u.closed (.home b) then u.enterFiling b else u := rfl
  rw [hclosed] at hval
  refine ⟨fun hc => ?_, fun hc => ?_⟩
  · rw [hval, if_neg (by simp [hc])]
    exact ⟨hbegun, hrec⟩
  · rw [hval, if_pos hc] at hmoves ⊢
    exact (State.enterFiling_spec hrec).congr ((SameFiling.of_setEngine (x := x) (by rfl) (by rfl) (by rfl) (by rfl)).trans (.of_flow hflow)) hmoves

/-- R38, R39: a record with its outcome written before RELEASE begins. -/
theorem State.release_written {f : InstRecord → InstRecord} (hj : (s.engine b).jog = none) (hr : (s.engine b).record = some r) :
    let t := (s.modRecord b f).enterRelease b
    (s.closed (.home b) = false → StepBegun t b .release 4 ∧ (t.engine b).record = some (f r)) ∧
      (s.closed (.home b) = true → FilingEntered s t b (f r)) := by
  intro t
  let u := s.modRecord b f
  obtain ⟨h1, h2⟩ := State.enterRelease_spec (s := u) (b := b) (r := f r) (by simpa [u, State.modRecord] using hj)
    (by simp [u, State.modRecord, hr])
  have hclosed : u.closed (.home b) = s.closed (.home b) := by simp [u, State.modRecord, State.closed]
  rw [hclosed] at h1 h2
  exact ⟨h1, fun hc => (h2 hc).congr (SameFiling.of_setEngine (by rfl) (by rfl) (by rfl) (by rfl))
    ((EngineMoves.of_modRecord s b f).trans (.of_enterRelease u b))⟩

end

/-! ## TORQUE -/

/-- R37: the engine that enters TORQUE. -/
def Engine.torquing (e : Engine) : Engine :=
  { e with
    state := .torque, sub := .none, leg := none, resume := none, torqueTimer := 0, consecutive := 0, highest := 0, lastT := none }

theorem State.enterTorque_spec (s : State) {b : BoomId} (hj : (s.engine b).jog = none) :
    FlowEffect (s.setEngine b (s.engine b).torquing) (s.enterTorque b) ∧ StepBegun (s.enterTorque b) b .torque 2 := by
  have h : s.enterTorque b = (s.setEngine b (s.engine b).torquing).beginFlow b (.step .torque) := by
    unfold State.enterTorque State.goto
    dsimp only
    rw [State.setEngine_setEngine, State.setEngine_engine, if_pos rfl]
    rfl
  rw [h]
  exact State.beginStep_spec s b rfl hj

/-! ## Changes of drive within a step -/

theorem State.changeSub_spec (s : State) (b : BoomId) (x : Engine) :
    FlowEffect (s.setEngine b x) ((s.setEngine b x).changeDrive b) ∧ DrivenAfresh ((s.setEngine b x).changeDrive b) b :=
  ⟨.of_changeDrive _ b, State.changeDrive_afresh _ b⟩

/-- R28, R29: a stall, while the plan, the retries and the restricted flag allow a backoff, and otherwise. -/
theorem State.stall_spec (s : State) (b : BoomId) (pos : Nat) (r : InstRecord) :
    let e := s.engine b
    let p := s.activePlan b
    (p.autoRetry = 1 ∧ e.retries < p.retryLimit ∧ e.restricted = false →
      FlowEffect (s.setEngine b { e with sub := .backoff, backoffTarget := (pos : Int) - 20 }) (s.stall b pos) ∧
        DrivenAfresh (s.stall b pos) b) ∧
    (¬(p.autoRetry = 1 ∧ e.retries < p.retryLimit ∧ e.restricted = false) → e.record = some r →
      FaultEntered s (s.stall b pos) b r (if e.state = .collar then .stallCollar else .stallDrill)) := by
  intro e p
  unfold State.stall
  dsimp only
  refine ⟨fun h => ?_, fun h hr => ?_⟩
  · rw [if_pos (by simpa using h)]
    exact State.changeSub_spec s b _
  · rw [if_neg (by simpa using h)]
    exact State.enterFaulted_spec _ hr

end Sys2Proof.Machine
end

section
/-! PROOF. What a scan does to an engine in the approach, in the cut, in COLLAR's backoff, in PUSH and in TORQUE (R24, R25, R29,
R33 to R35, R37, R38). -/
namespace Sys2Proof.Machine

section
variable {s : State} {b : BoomId}

theorem State.engineScan_approach (h : (s.engine b).state = .collar) (hs : (s.engine b).sub = .approach) :
    s.engineScan b = s.scanApproach b := by
  unfold State.engineScan
  simp only [h, hs]

theorem State.engineScan_backoff (h : (s.engine b).state = .collar) (hs : (s.engine b).sub = .backoff) :
    s.engineScan b = s.scanBackoff b := by
  unfold State.engineScan
  simp only [h, hs]

theorem State.engineScan_cut (h : (s.engine b).state = .collar) (hs : (s.engine b).sub = .cut) :
    s.engineScan b = if s.scanDepth b ≥ ((s.activePlan b).collarDepth : Int) then s.enterDrill b else s := by
  unfold State.engineScan
  simp only [h, hs]

theorem State.engineScan_drill (h : (s.engine b).state = .drill) : s.engineScan b = s.scanDrill b := by
  unfold State.engineScan
  simp only [h]

theorem State.engineScan_push (h : (s.engine b).state = .push) :
    s.engineScan b =
      if (s.analog (feedChannel b)).filt ≥ ((s.activePlan b).pushContact : Int) then s.enterMix b else s := by
  unfold State.engineScan
  simp only [h]

theorem State.engineScan_torque (h : (s.engine b).state = .torque) :
    s.engineScan b = if s.granted (.boom b) then s.scanTorque b else s := by
  unfold State.engineScan
  simp only [h]

/-- R29: a scan in a backoff short of its target, and at it. -/
theorem State.scanBackoff_spec (s : State) (b : BoomId) :
    let e := s.engine b
    (e.backoffTarget < (s.motion b).scanPos → s.scanBackoff b = s) ∧
      (((s.motion b).scanPos : Int) ≤ e.backoffTarget →
        FlowEffect (s.setEngine b { e with sub := if e.state = .collar then .cut else .none, retries := e.retries + 1 })
            (s.scanBackoff b) ∧
          DrivenAfresh (s.scanBackoff b) b) := by
  intro e
  unfold State.scanBackoff
  refine ⟨fun h => if_neg (Int.not_le.2 h), fun h => ?_⟩
  rw [if_pos h]
  exact State.changeSub_spec s b _

end

/-- Settles O25. -/
theorem scanEndsApproachCutAndPush : Obligations.ScanEndsApproachCutAndPush := by
  unfold Obligations.ScanEndsApproachCutAndPush
  intro b s e p feed
  refine ⟨fun hs hsub => ?_, fun z d hs hsub hz hd => ?_, fun hs hsub => ?_, fun hs => ?_⟩
  · rw [State.engineScan_approach hs hsub, State.scanApproach]
    refine ⟨fun h => if_neg (Int.not_le.2 h), fun h => ?_⟩
    rw [if_pos h]
    have hset : (s.setLogger b ((s.logger b).takeCollarZero (s.motion b).scanPos (scanStamp s.now))).setEngine b
        { (s.setLogger b ((s.logger b).takeCollarZero (s.motion b).scanPos (scanStamp s.now))).engine b with sub := .cut } =
          s.setBoom b
            { s.boom b with
              engine := { e with sub := .cut }
              logger :=
                { s.logger b with
                  collarZero := some (s.motion b).scanPos, h := 0
                  slice := { (s.logger b).slice with openedAt := scanStamp s.now } } } := by cases b <;> rfl
    dsimp only
    rw [hset]
    exact ⟨.of_changeDrive _ b, State.changeDrive_afresh _ b⟩
  · have hdepth : s.scanDepth b = d := by simp only [State.scanDepth, hz, hd]
    rw [State.engineScan_cut hs hsub, hdepth]
    refine ⟨fun h => if_neg (Int.not_le.2 h), fun h hj => ?_⟩
    rw [if_pos h]
    exact State.beginStep_spec s b rfl hj
  · rw [State.engineScan_backoff hs hsub]
    obtain ⟨h1, h2⟩ := s.scanBackoff_spec b
    rw [if_pos hs] at h2
    exact ⟨h1, h2⟩
  · rw [State.engineScan_push hs]
    refine ⟨fun h => if_neg (Int.not_le.2 h), fun h hj => ?_⟩
    rw [if_pos h]
    have hmix : s.enterMix b =
        (s.setEngine b
          { e with
            state := .mix, sub := .none, leg := none, resume := none, resinClock := 0, resinRunning := true, q := 0
            record := e.record.map (fun r => { r with mixStart := some s.now }) }).beginFlow b (.step .mix) := by
      unfold State.enterMix State.goto State.modRecord
      simp only [State.setEngine_engine, if_true, State.setEngine_setEngine]
      rfl
    rw [hmix]
    exact State.beginStep_spec s b rfl hj

/-- Settles O27. -/
theorem torqueScanDecides : Obligations.TorqueScanDecides := by
  unfold Obligations.TorqueScanDecides
  intro b s r hs hr hj e x v t
  have hval : t = if s.granted (.boom b) then s.scanTorque b else s := State.engineScan_torque hs
  have hmoves : EngineMoves b s t := EngineMoves.of_engineScan s b
  refine ⟨fun hg => ?_, fun hg => ⟨fun o ho => ?_, fun h1 h2 => ?_⟩⟩
  · rw [hval, if_neg (by simp [hg])]
  · have hend : ∃ y : Engine, y.jog = none ∧ y.record = some r ∧ SameFiling b s (s.setEngine b y) ∧
        t = (s.setEngine b y).endTorque b o x := by
      rw [hval, if_pos hg, State.scanTorque]
      rcases ho with ⟨rfl, hl⟩ | ⟨rfl, hl, ht, hc⟩
      · refine ⟨{ e with lastT := some x, highest := max e.highest x }, hj, hr,
          SameFiling.of_setEngine (by rfl) (by rfl) (by rfl) (by rfl), ?_⟩
        rw [if_pos (show (s.motion b).torqueEst ≥ (s.activeValues b).limit from hl)]
      · refine ⟨{ e with lastT := some x, highest := max e.highest x, consecutive := if x ≥ v.target then e.consecutive + 1 else 0 },
          hj, hr, SameFiling.of_setEngine (by rfl) (by rfl) (by rfl) (by rfl), ?_⟩
        have hc3 : (s.engine b).consecutive + 1 ≥ 3 := Nat.add_le_add_right hc 1
        rw [if_neg (show ¬(s.motion b).torqueEst ≥ (s.activeValues b).limit from Nat.not_le.2 hl),
          if_pos (show (s.motion b).torqueEst ≥ (s.activeValues b).target ∧ _ from ⟨ht, hc3⟩)]
    obtain ⟨y, hyj, hyr, hsame, ht⟩ := hend
    have hspec := State.release_written (s := s.setEngine b y) (b := b) (r := r)
      (f := fun r => { r with outcome := some o, torque := some x }) (by simpa using hyj) (by simpa using hyr)
    have hclosed : (s.setEngine b y).closed (.home b) = s.closed (.home b) := by simp [State.closed]
    rw [hclosed] at hspec
    rw [ht] at hmoves ⊢
    exact ⟨hmoves.effect (.inl (by rw [hs]; rfl)), hspec.1, fun hc => (hspec.2 hc).congr hsame hmoves⟩
  · have hlim : ¬(s.motion b).torqueEst ≥ (s.activeValues b).limit := Nat.not_le.2 h1
    have hgood : ¬((s.motion b).torqueEst ≥ (s.activeValues b).target ∧ (s.engine b).consecutive + 1 ≥ 3) := fun h => by
      rcases h2 with h2 | h2
      · exact Nat.not_le.2 h2 h.1
      · have : (s.engine b).consecutive < 2 := h2
        omega
    rw [hval, if_pos hg, State.scanTorque, if_neg hlim, if_neg hgood]

end Sys2Proof.Machine
end

section
/-! PROOF. The canopy controller (chapter 5): its requests, its confirmations and losses, the lowered switch and the limit. -/
namespace Sys2Proof.Machine

/-! ## What the controller is told -/

/-- The controller is told nothing: its state and its pair stand as they were. -/
def CanopyKept (s t : State) : Prop := t.canopy = s.canopy ∧ t.canopyPair = s.canopyPair

namespace CanopyKept
variable {s t u : State}

theorem refl (s : State) : CanopyKept s s := ⟨rfl, rfl⟩

theorem trans (h : CanopyKept s t) (k : CanopyKept t u) : CanopyKept s u := ⟨k.1.trans h.1, k.2.trans h.2⟩

theorem of_requestBoom (s : State) (b : BoomId) (r : PairFn → PairRequest) : CanopyKept s (s.requestBoom b r) := by
  cases b <;> exact ⟨rfl, rfl⟩

theorem of_setEngine (s : State) (b : BoomId) (e : Engine) : CanopyKept s (s.setEngine b e) := by
  cases b <;> exact ⟨rfl, rfl⟩

theorem of_tell (s : State) {n : FlowNote} (h : n.who ≠ .canopy) : CanopyKept s (s.tell n) := by
  obtain ⟨b | _, g⟩ := n
  · cases g
    · show CanopyKept s (s.onBoomPreempt b)
      unfold State.onBoomPreempt
      rw [State.boomOff_eq]
      split
      · exact (of_requestBoom s b _).trans (of_setEngine _ b _)
      · exact of_requestBoom s b _
    · show CanopyKept s (s.onBoomGrant b)
      unfold State.onBoomGrant
      split
      · rw [State.issueJog_eq]
        exact of_requestBoom s b _
      · dsimp only
        rw [State.issueStep_eq]
        exact (of_requestBoom s b _).trans (of_setEngine _ b _)
  · exact absurd rfl h

theorem of_tells (ns : List FlowNote) (s : State) (h : ∀ n ∈ ns, n.who ≠ .canopy) : CanopyKept s (ns.foldl State.tell s) := by
  induction ns generalizing s with
  | nil => exact refl s
  | cons n ns ih => exact (of_tell s (h n (by simp))).trans (ih _ fun x hx => h x (by simp [hx]))

/-- R80: the controller that withdraws its request is told nothing. -/
theorem of_withdraw (s : State) : CanopyKept s (s.withdraw .canopy) := by
  unfold State.withdraw
  split
  · exact of_tells _ { s with arb := (s.arb.remove .canopy).pass.1 } (Arbiter.pass_lacks (Arbiter.remove_lacks s.arb .canopy)).2
  · exact refl s

end CanopyKept

/-! ## Drives of one pair -/

theorem State.request_drive (s : State) (p : PairId) (d : Dir) (duty : Nat) (m : Arming) :
    ((s.request p (.drive d duty m)).pair p).dir = some d ∧ ((s.request p (.drive d duty m)).pair p).duty = duty ∧
      ((s.request p (.drive d duty m)).pair p).monitor = (s.pair p).monitor.onDrive m (s.cal.response p) (s.armRef p) := by
  rw [State.request_pair, if_pos rfl]
  obtain ⟨h1, h2, -, h4⟩ := ((s.pair p).record (.drive d duty m) (s.cal.minDuty p) (s.cal.response p) (s.armRef p)).settle_frame
    (s.gateOpen p) (s.cal.deadTime p) (s.cal.period p)
  rw [h1, h2, h4]
  exact ⟨rfl, rfl, rfl⟩

/-- R94, R99: the controller stops: its pair is off, and it holds no request. -/
theorem State.canopyStop_spec (s : State) :
    FlowEffect s s.canopyStop ∧ HoldsNone s.canopyStop .canopy ∧ s.canopyStop.canopy = s.canopy ∧
      s.canopyStop.canopyPair.dir = none ∧ s.canopyStop.canopyPair.monitor = .disarmed := by
  let u := s.request .canopy (.off false)
  obtain ⟨hc, hp⟩ := CanopyKept.of_withdraw u
  obtain ⟨h1, h2, h3⟩ := s.request_off .canopy false
  refine ⟨.of_canopyStop s, u.withdraw_lacks .canopy, hc, ?_, ?_⟩
  · exact (congrArg Pair.dir hp).trans h1
  · exact (congrArg Pair.monitor hp).trans h3

/-- R96, R99: a motion ends in FAULT. -/
theorem State.canopyFail_spec (s : State) (f : CanopyFault) :
    (s.canopyFail f).canopy =
        { s.canopy with state := .fault, setRun := none, lossRun := none, fault := f, armOnGrant := false } ∧
      (s.canopyFail f).raised .canopyFault = true ∧ HoldsNone (s.canopyFail f) .canopy ∧
      (s.canopyFail f).canopyPair.dir = none ∧ ∀ b, ((s.canopyFail f).engine b).state = (s.engine b).state := by
  obtain ⟨h1, h2, h3, h4, h5⟩ := (s.canopyGoto .fault f).canopyStop_spec
  refine ⟨h3, State.raised_raise _ (by decide), h2, h4, fun b => ?_⟩
  exact (congrArg Engine.state (State.raise_engine _ _ b)).trans ((h1.engine_state b).trans (by cases b <;> rfl))

/-! ## Confirmations, losses, the lowered switch and the limit -/

/-- R124: the timestamp of the scan is the even number at or below the present one. -/
theorem scanStamp_eq (n : Timestamp) : scanStamp n = n - BitVec.ofNat 32 (n.toNat % 2) := by
  have hlow : BitVec.ofNat 32 (n.toNat % 2) = n &&& 1#32 := by
    apply BitVec.eq_of_toNat_eq
    rw [BitVec.toNat_and, BitVec.toNat_ofNat, BitVec.toNat_ofNat, Nat.one_mod, Nat.and_one_is_mod]
    omega
  have hand : n &&& ~~~1#32 &&& (n &&& 1#32) = 0#32 := by
    ext i hi
    simp
    grind
  have hsplit : (n &&& ~~~1#32) ||| (n &&& 1#32) = n := by
    rw [← BitVec.and_or_distrib_left, BitVec.not_or_self, BitVec.and_allOnes]
  have hsum : (n &&& ~~~1#32) + (n &&& 1#32) = n := (BitVec.add_eq_or_of_and_eq_zero _ _ hand).trans hsplit
  rw [hlow, scanStamp]
  exact eq_sub_of_add_eq hsum

/-! ## A hold cause sent to both booms -/

section
variable {s t u : State} {b : BoomId} {c : HoldCause}

/-- A hold cause that has reached a boom stands when another boom is served. -/
theorem HoldReached.followed (h : HoldReached s t b c) (ht : FlowTouches t u b) (hr : ∀ e, t.raised e = true → u.raised e = true)
    (hu : Unasked b t u) : HoldReached s u b c := by
  have hres : (u.engine b).resume = (t.engine b).resume := congrArg (·.resume) ht.engine
  have hcau : (u.engine b).causes = (t.engine b).causes := congrArg (·.causes) ht.engine
  obtain ⟨h1, h2, h3⟩ := h
  refine ⟨fun he => ?_, fun he => ?_, fun he => ?_⟩
  · obtain ⟨k1, k2, k3, k4, k5⟩ := h1 he
    exact ⟨ht.state.trans k1, hres.trans k2, hcau.trans k3, hr _ k4, hu.atRest k5⟩
  · obtain ⟨k1, k2, k3⟩ := h2 he
    exact ⟨ht.state.trans k1, hres.trans k2, hcau.trans k3⟩
  · obtain ⟨k1, k2⟩ := h3 he
    exact ⟨ht.state.trans k1, k2.trans ht⟩

theorem FlowTouches.setEngine (h : FlowTouches s t b) (f : Engine → Engine)
    (hf : ∀ e a r, f { e with armOnGrant := a, record := r } = { f e with armOnGrant := a, record := r })
    (hr : ∀ e, (f e).record = e.record) (hs : ∀ e, (f e).state = e.state) :
    FlowTouches (s.setEngine b (f (s.engine b))) (t.setEngine b (f (t.engine b))) b := by
  have he : f (t.engine b) = { f (s.engine b) with armOnGrant := (t.engine b).armOnGrant, record := (t.engine b).record } := by
    conv_lhs => rw [h.engine]
    exact hf _ _ _
  obtain ⟨h1, h2⟩ := h
  refine ⟨?_, ?_⟩
  · rw [State.setEngine_boom, if_pos rfl, State.setEngine_boom, if_pos rfl, State.setEngine_engine, if_pos rfl,
      State.setEngine_engine, if_pos rfl, he, h1]
  · rw [State.setEngine_engine, if_pos rfl, State.setEngine_engine, if_pos rfl, hr, hr, hs]
    exact h2

/-- R42, R53: an engine that is not engaged takes the hold cause `c`. -/
def Engine.takesCause (e : Engine) (c : HoldCause) : Engine :=
  { e with causes := if e.state = .hold then e.causes.add c else e.causes, jog := if c = .trip then none else e.jog }

/-- A boom that another's service has touched takes the cause as it would have before. -/
theorem HoldReached.of_touched (h : HoldReached t u b c) (k : FlowTouches s t b) : HoldReached s u b c := by
  have hres : (t.engine b).resume = (s.engine b).resume := congrArg (·.resume) k.engine
  have hcau : (t.engine b).causes = (s.engine b).causes := congrArg (·.causes) k.engine
  obtain ⟨h1, h2, h3⟩ := h
  rw [k.state] at h1 h2
  rw [hres, hcau] at h2
  refine ⟨h1, h2, fun he => ?_⟩
  obtain ⟨k1, k2⟩ := h3 (by rw [k.state]; exact he)
  have htakes := k.setEngine (·.takesCause c) (fun _ _ _ => rfl) (fun _ => rfl) (fun _ => rfl)
  exact ⟨k1.trans k.state, FlowTouches.trans htakes k2⟩

theorem State.holdCause_raised (s : State) (b : BoomId) (c : HoldCause) {e : Event} (h : s.raised e = true) :
    (s.holdCause b c).raised e = true := by
  have hset (x : Engine) : (s.setEngine b x).raised e = s.raised e := by cases b <;> rfl
  unfold State.holdCause
  dsimp only
  split
  · rw [State.enterHold_eq]
    refine State.raised_of_raised ?_ _
    rwa [(FlowEffect.of_noFlow _ b).raised, hset]
  · split
    · rwa [hset]
    · exact h

theorem Unasked.of_holdCause {x : BoomId} (h : b ≠ x) (s : State) (c : HoldCause) : Unasked b s (s.holdCause x c) := by
  unfold State.holdCause
  dsimp only
  split
  · exact of_enterHold h s c
  · split
    · exact of_setEngine h s _
    · exact .of_eq rfl rfl

end

/-- R97, R112, R176: a hold cause other than TRIP is sent to boom A and then to boom B. -/
theorem State.holdBooms_reached (s : State) {c : HoldCause} (hc : c ≠ .trip) :
    HoldReached s (s.holdBooms c) .A c ∧ HoldReached s (s.holdBooms c) .B c := by
  let v := s.holdCause .A c
  have hA : FlowTouches v (v.holdCause .B c) .A := (EngineMoves.of_holdCause v .B c).2.2.1
  have hB : FlowTouches s v .B := (EngineMoves.of_holdCause s .A c).2.2.1
  exact ⟨(s.holdCause_reached .A hc).followed hA (fun e he => v.holdCause_raised .B c he) (.of_holdCause (by decide) v c),
    (v.holdCause_reached .B hc).of_touched hB⟩

/-- R97: the loss of a SET canopy holds both booms. -/
theorem State.canopyLoss_spec (s : State) :
    s.canopyLoss.canopy =
        { s.canopy with
          state := .lost, setRun := none, lossRun := none, fault := .none, armOnGrant := s.canopyLoss.canopy.armOnGrant } ∧
      s.canopyLoss.raised .canopyLost = true ∧ HoldReached s s.canopyLoss .A .canopy ∧ HoldReached s s.canopyLoss .B .canopy := by
  let u := (s.canopyGoto .lost .none).raise .canopyLost
  have hm := (EngineMoves.of_holdCause u .A .canopy)
  have hn := (EngineMoves.of_holdCause (u.holdCause .A .canopy) .B .canopy)
  obtain ⟨hA, hB⟩ := u.holdBooms_reached (c := .canopy) (by decide)
  refine ⟨?_, State.holdCause_raised _ _ _ (State.holdCause_raised _ _ _ (State.raised_raise _ (by decide))), hA, hB⟩
  show ((u.holdCause .A .canopy).holdCause .B .canopy).canopy = _
  have h1 := congrArg State.canopy hm.1
  have h2 := congrArg State.canopy hn.1
  refine h2.trans ?_
  generalize (u.holdCause .A .canopy).canopy = x at h1 ⊢
  rw [h1]
  rfl

section
variable {s : State}

theorem State.loweredSwitch_opened (h : s.canopy.state = .lowered) :
    s.loweredSwitch false = (s.canopyGoto .lost .none).raise .canopyLost := by
  unfold State.loweredSwitch
  simp only [h]

theorem State.loweredSwitch_open_other (h : s.canopy.state ≠ .lowered) : s.loweredSwitch false = s := by
  unfold State.loweredSwitch
  cases hc : s.canopy.state <;> simp_all

theorem State.loweredSwitch_closed (h : s.canopy.state = .lost ∨ s.canopy.state = .fault ∨ s.canopy.state = .lowering) :
    s.loweredSwitch true = s.canopyLowered := by
  unfold State.loweredSwitch
  rcases h with h | h | h <;> simp only [h]

theorem State.loweredSwitch_close_other (h : s.canopy.state = .lowered ∨ s.canopy.state = .raising ∨ s.canopy.state = .set) :
    s.loweredSwitch true = s := by
  unfold State.loweredSwitch
  rcases h with h | h | h <;> simp only [h]

end

/-- Settles O39. -/
theorem canopyConfirmedLostLowered : Obligations.CanopyConfirmedLostLowered := by
  unfold Obligations.CanopyConfirmedLostLowered
  refine ⟨fun s hrun => ?_, fun s => ?_⟩
  · intro plain
    have hlower : exec .canopyLowerTimeout s = .next s.lowerLimitReached := by
      show Host.Outcome.next (s.whenRunning _) = _
      rw [State.whenRunning_of_running hrun]
    have hswitch : exec (.switchQualifiedChange .clow) s = .next (s.qualify .clow) := by
      show Host.Outcome.next (s.whenRunning _) = _
      rw [State.whenRunning_of_running hrun]
    refine ⟨fun h => ?_, fun h1 h2 => ?_, ?_⟩
    · rw [hlower, State.lowerLimitReached, if_neg (by simpa [State.lowerCounts] using h)]
    · rw [hlower, State.lowerLimitReached, if_pos (by simp [State.lowerCounts, h1, h2])]
      obtain ⟨k1, k2, k3, k4, -⟩ := State.canopyFail_spec
        { s with canopy := { s.canopy with lowerTimer := max s.canopy.lowerTimer s.cal.lowerLimit } } .lowerTimeout
      exact ⟨_, rfl, k1, k2, k3, k4⟩
    · intro lv
      have hval : s.qualify .clow = (lv (!s.clow.level)).loweredSwitch (!s.clow.level) := rfl
      have hopen (hl : s.clow.level = true) : s.qualify .clow = (lv false).loweredSwitch false := by rw [hval, hl]; rfl
      have hclose (hl : s.clow.level = false) : s.qualify .clow = (lv true).loweredSwitch true := by rw [hval, hl]; rfl
      refine ⟨fun hl => ⟨fun hs => ?_, fun hs => ?_⟩, fun hl => ⟨fun hs => ?_, fun hs => ?_, fun hs => ?_⟩⟩
      · rw [hswitch, hopen hl, State.loweredSwitch_opened (s := lv false) hs]
        rfl
      · rw [hswitch, hopen hl, State.loweredSwitch_open_other (s := lv false) hs]
      · rw [hswitch, hclose hl, State.loweredSwitch_closed (s := lv true) (hs.imp id .inl), State.canopyLowered,
          if_neg (by show s.canopy.state ≠ .lowering; rcases hs with hs | hs <;> rw [hs] <;> decide)]
        rfl
      · rw [hswitch, hclose hl, State.loweredSwitch_closed (s := lv true) (.inr (.inr hs)), State.canopyLowered, if_pos hs]
        obtain ⟨k1, k2, k3, k4, -⟩ := ((lv true).canopyGoto .lowered .none).canopyStop_spec
        exact ⟨_, rfl, k3, congrArg SwitchInput.level k1.clow, k2, k4, k1.events⟩
      · rw [hswitch, hclose hl, State.loweredSwitch_close_other (s := lv true) hs]
  · intro c now holds t plain
    have hstamp (x : Timestamp) : since (scanStamp s.now) x = (now - x).toNat := by rw [since, scanStamp_eq]
    have hcond : s.setCondition = decide holds := by
      rw [Bool.eq_iff_iff, decide_eq_true_iff]
      simp only [State.setCondition, holds, Bool.and_eq_true, decide_eq_true_eq, Bool.or_eq_true, beq_iff_eq, and_assoc]
      exact and_congr Iff.rfl (and_congr Iff.rfl (Health.ofCount_low _))
    have hraise (hs : s.canopy.state = .raising) :
        (holds → s.canopy.setRun = none → t = s.beginSetRun) ∧
        (∀ x, holds → s.canopy.setRun = some x → t = if since (scanStamp s.now) x ≥ 500 then s.canopyConfirm else s) ∧
        (¬holds → t = if s.canopy.setRun.isSome then s.breakSetRun else s) := by
      refine ⟨fun h hr => ?_, fun x h hr => ?_, fun h => ?_⟩ <;> simp only [t, State.canopyScan, hs, hcond, h]
      · simp only [hr, decide_true, if_true]
      · simp only [hr, decide_true, if_true]
      · simp only [decide_false, Bool.false_eq_true, if_false]
    refine ⟨fun hs => ⟨fun h hr => ?_, fun x h hr hx => ?_, fun x h hr hx => ?_, fun h hr => ?_, fun h hr => ?_⟩,
      fun hs => ⟨fun h => ?_, fun h => ⟨fun hr => ?_, fun x hr => ⟨fun hx => ?_, fun hx hc => ?_⟩⟩⟩, fun h1 h2 => ?_⟩
    · let u : State := { s with canopy := { s.canopy with setRun := some now } }
      have hval : t = if s.granted .canopy then u.request .canopy (.drive .first u.cal.raiseDuty .none)
          else u.request .canopy (.off false) := by
        rw [(hraise hs).1 h hr, State.beginSetRun, scanStamp_eq]
        rfl
      rw [hval]
      by_cases hg : s.granted .canopy = true
      · obtain ⟨k1, -, k3⟩ := u.request_drive .canopy .first u.cal.raiseDuty .none
        rw [if_pos hg, if_pos hg]
        refine ⟨rfl, k3.trans ?_, k1⟩
        cases (u.pair .canopy).monitor <;> rfl
      · obtain ⟨k1, -, k3⟩ := u.request_off .canopy false
        rw [if_neg hg, if_neg hg]
        exact ⟨rfl, k3, k1⟩
    · rw [(hraise hs).2.1 x h hr, hstamp, if_neg (Nat.not_le.2 hx)]
    · rw [(hraise hs).2.1 x h hr, hstamp, if_pos hx]
      obtain ⟨k1, k2, k3, k4, k5⟩ := (s.canopyGoto .set .none).canopyStop_spec
      refine ⟨k3, State.raised_raise _ (by decide), k2, k4, k5, fun b => ?_⟩
      exact (congrArg Engine.state (State.raise_engine _ _ b)).trans ((k1.engine_state b).trans (by cases b <;> rfl))
    · rw [(hraise hs).2.2 h, hr]
      rfl
    · rw [(hraise hs).2.2 h, if_pos (Option.isSome_iff_ne_none.2 hr), State.breakSetRun]
      by_cases hg : s.granted .canopy = true
      · have hg' : ({ s with canopy := { s.canopy with setRun := none } } : State).granted .canopy = true := hg
        obtain ⟨-, -, k3⟩ := ({ s with canopy := { s.canopy with setRun := none } } : State).request_drive .canopy .first
          s.cal.raiseDuty .arm
        rw [if_pos hg']
        exact ⟨hs, rfl, rfl, fun _ => k3, fun h => by rw [hg] at h; cases h⟩
      · have hg' : ¬({ s with canopy := { s.canopy with setRun := none } } : State).granted .canopy = true := hg
        rw [if_neg hg']
        exact ⟨hs, rfl, rfl, fun h => absurd h hg, fun _ => ⟨rfl, rfl⟩⟩
    · simp only [t, State.canopyScan, hs]
      rw [if_neg (Int.not_lt.2 h)]
    · simp only [t, State.canopyScan, hs, hr]
      rw [if_pos h, scanStamp_eq]
    · simp only [t, State.canopyScan, hs, hr]
      rw [if_pos h, if_neg]
      rintro ⟨h1, h2⟩
      rw [hstamp] at h1
      have hlow : c.count ≤ 127 := (Health.ofCount_low _).1 h2
      omega
    · have hval : t = s.canopyLoss := by
        simp only [t, State.canopyScan, hs, hr]
        rw [if_pos h, if_pos ⟨by rw [hstamp]; exact hx, (Health.ofCount_low _).2 hc⟩]
      rw [hval]
      exact s.canopyLoss_spec
    · show s.canopyScan = s
      unfold State.canopyScan
      cases hc : s.canopy.state <;> simp_all

end Sys2Proof.Machine
end

section
/-! PROOF. CANOPY RAISE and CANOPY LOWER (R93, R94, R98, R99). -/
namespace Sys2Proof.Machine

/-! ## A motion that begins -/

section
variable {s t : State} {g : Bool}

/-- R94: the controller, told of its raise request since it stood in `s` with a first drive to come: granted, it drives with
the monitor armed; its first drive is to come, or the monitor has been armed. -/
def RaiseTold (s t : State) (g : Bool) : Prop :=
  FlowEffect s t ∧ (t.canopy.armOnGrant = true ∧ g = false ∨ t.canopy.armOnGrant = false ∧
    (∃ z, t.canopyPair.monitor = .armed (s.cal.response .canopy) (s.analog .canopy).val z) ∧
    (g = true → t.canopyPair.dir = some .first ∧ t.canopyPair.duty = s.cal.raiseDuty ∧
      t.canopyPair.monitor = .armed (s.cal.response .canopy) (s.analog .canopy).val false))

/-- R99: the controller, told of its lower request: granted, it drives without a monitor. -/
def LowerTold (s t : State) (g : Bool) : Prop :=
  FlowEffect s t ∧ (g = true →
    t.canopyPair.dir = some .second ∧ t.canopyPair.duty = s.cal.lowerDuty ∧ t.canopyPair.monitor = .disarmed)

theorem FlowEffect.analog (h : FlowEffect s t) (c : AnalogId) : t.analog c = s.analog c := by
  unfold State.analog
  rw [h.analogs]

theorem FlowEffect.setRun (h : FlowEffect s t) : t.canopy.setRun = s.canopy.setRun := by rw [h.1]

theorem PairMonitor.onDrive_none (m : PairMonitor) (n : Nat) (r : Int) : m.onDrive .none n r = .disarmed := by cases m <;> rfl

theorem RaiseTold.tell (h : RaiseTold s t g) (hs : s.canopy.state = .raising) (hr : s.canopy.setRun = none) (n : FlowNote) :
    RaiseTold s (t.tell n) (if n.who = .canopy then n.granted else g) := by
  obtain ⟨hf, h⟩ := h
  refine ⟨hf.trans (.of_tell t n), ?_⟩
  by_cases hn : n.who = .canopy
  · rw [if_pos hn]
    obtain ⟨who, x⟩ := n
    subst hn
    cases x with
    | true =>
      let m : Arming := if t.canopy.armOnGrant then .arm else .continue
      obtain ⟨k1, k2, k3⟩ := t.request_drive .canopy .first t.cal.raiseDuty m
      have hval : t.onCanopyGrant =
          { t.request .canopy (.drive .first t.cal.raiseDuty m) with
            canopy := { (t.request .canopy (.drive .first t.cal.raiseDuty m)).canopy with armOnGrant := false } } := by
        unfold State.onCanopyGrant
        simp only [hf.canopy_state.trans hs, hf.setRun.trans hr]
        rfl
      have harm : (t.pair .canopy).monitor.onDrive m (t.cal.response .canopy) (t.armRef .canopy) =
          .armed (s.cal.response .canopy) (s.analog .canopy).val false := by
        rw [hf.cal, State.armRef, hf.analog]
        rcases h with ⟨ha, -⟩ | ⟨ha, ⟨z, hz⟩, -⟩
        · simp only [m, ha, if_true]
          rfl
        · have hz' : (t.pair .canopy).monitor = .armed (s.cal.response .canopy) (s.analog .canopy).val z := hz
          simp only [m, ha, Bool.false_eq_true, if_false, hz']
          rfl
      rw [hf.cal] at k2
      have hdriven := And.intro k1 (And.intro k2 (k3.trans harm))
      refine .inr ?_
      show t.onCanopyGrant.canopy.armOnGrant = false ∧ _
      rw [show t.tell ⟨.canopy, true⟩ = t.onCanopyGrant from rfl, hval]
      rw [hf.cal] at hdriven ⊢
      exact ⟨rfl, ⟨false, hdriven.2.2⟩, fun _ => hdriven⟩
    | false =>
      have hcan : (t.tell ⟨.canopy, false⟩).canopy = t.canopy := rfl
      rw [hcan]
      refine h.imp (fun h => ⟨h.1, rfl⟩) fun ⟨ha, ⟨z, hz⟩, _⟩ => ⟨ha, ⟨true, ?_⟩, fun h => by cases h⟩
      obtain ⟨-, -, k3⟩ := t.request_off .canopy true
      refine Eq.trans k3 ?_
      rw [show (t.pair .canopy).monitor = _ from hz]
      rfl
  · rw [if_neg hn]
    obtain ⟨k1, k2⟩ := CanopyKept.of_tell t hn
    rw [k1, k2]
    exact h

theorem LowerTold.tell (h : LowerTold s t g) (hs : s.canopy.state = .lowering) (n : FlowNote) :
    LowerTold s (t.tell n) (if n.who = .canopy then n.granted else g) := by
  obtain ⟨hf, h⟩ := h
  refine ⟨hf.trans (.of_tell t n), ?_⟩
  by_cases hn : n.who = .canopy
  · rw [if_pos hn]
    obtain ⟨who, x⟩ := n
    subst hn
    cases x with
    | true =>
      obtain ⟨k1, k2, k3⟩ := t.request_drive .canopy .second t.cal.lowerDuty .none
      have hval : t.tell ⟨.canopy, true⟩ = t.request .canopy (.drive .second t.cal.lowerDuty .none) := by
        show t.onCanopyGrant = _
        unfold State.onCanopyGrant
        simp only [hf.canopy_state.trans hs]
      rw [hval]
      rw [PairMonitor.onDrive_none] at k3
      exact fun _ => ⟨k1, k2.trans (by rw [hf.cal]), k3⟩
    | false => exact fun h => by cases h
  · rw [if_neg hn]
    obtain ⟨-, k2⟩ := CanopyKept.of_tell t hn
    rw [k2]
    exact h

theorem RaiseTold.tells (hs : s.canopy.state = .raising) (hr : s.canopy.setRun = none) (ns : List FlowNote) {t : State} {g : Bool}
    (h : RaiseTold s t g) : RaiseTold s (ns.foldl State.tell t) (toldLast .canopy g ns) := by
  induction ns generalizing t g with
  | nil => exact h
  | cons n ns ih => exact ih (h.tell hs hr n)

theorem LowerTold.tells (hs : s.canopy.state = .lowering) (ns : List FlowNote) {t : State} {g : Bool}
    (h : LowerTold s t g) : LowerTold s (ns.foldl State.tell t) (toldLast .canopy g ns) := by
  induction ns generalizing t g with
  | nil => exact h
  | cons n ns ih => exact ih (h.tell hs n)

/-- The canopy as a request begins to serve it (log 27). -/
def Canopy.plain (c : Canopy) (st : CanopyState) : Canopy :=
  { c with state := st, setRun := none, lossRun := none, fault := .none, armOnGrant := false }

/-- R93, R94. -/
theorem State.beginRaise_spec (s : State) :
    FlowEffect { s with canopy := s.canopy.plain .raising } s.beginRaise ∧
      HoldsRequest s.beginRaise .canopy .canopyRaise 1 (s.cal.demand .canopy .canopyRaise) ∧
      s.beginRaise.canopyPair.dir = (if s.beginRaise.granted .canopy = true then some .first else none) ∧
      s.beginRaise.canopyPair.duty = (if s.beginRaise.granted .canopy = true then s.cal.raiseDuty else 0) ∧
      s.beginRaise.canopyPair.monitor =
        if s.beginRaise.granted .canopy = true then .armed (s.cal.response .canopy) (s.analog .canopy).val false
        else .disarmed := by
  let u : State := { s with canopy := { s.canopy.plain .raising with armOnGrant := true } }
  let a := u.arb.submit .canopy .canopyRaise (u.cal.demand .canopy .canopyRaise)
  let w := u.place .canopy .canopyRaise
  have hbase : FlowEffect { s with canopy := s.canopy.plain .raising } u := ⟨rfl, rfl, .refl _ _, .refl _ _⟩
  have hstands := State.place_stands u .canopy .canopyRaise
  have htold : RaiseTold u w (toldLast .canopy false a.pass.2) := by
    refine RaiseTold.tells rfl rfl _ (t := { u with arb := a.pass.1 }) ⟨.of_arb u _ ?_, .inl ⟨rfl, rfl⟩⟩
    exact (Arbiter.pass_budget a).trans (Arbiter.submit_budget _ _ _ _)
  have hgrant : w.granted .canopy = toldLast .canopy false a.pass.2 := hstands.granted
  have hval : s.beginRaise = if w.granted .canopy then w else w.request .canopy (.off false) := rfl
  obtain ⟨hf, h⟩ := htold
  have hreq := HoldsRequest.of_stands hstands
  rw [hval]
  by_cases hg : w.granted .canopy = true
  · rw [if_pos hg, if_pos hg, if_pos hg, if_pos hg]
    rw [hgrant] at hg
    obtain ⟨-, -, k⟩ := h.resolve_left fun h => by rw [hg] at h; cases h.2
    obtain ⟨k1, k2, k3⟩ := k hg
    exact ⟨hbase.trans hf, hreq, k1, k2, k3⟩
  · obtain ⟨k1, k2, k3⟩ := w.request_off .canopy false
    have hg' : ¬(w.request .canopy (.off false)).granted .canopy = true := hg
    rw [if_neg hg, if_neg hg', if_neg hg', if_neg hg']
    refine ⟨(hbase.trans hf).trans (.of_request w .canopy _), hreq, k1, ?_, k3⟩
    show ((w.request .canopy (.off false)).pair .canopy).duty = 0
    rw [State.request_pair, if_pos rfl, Pair.settle_off (.inl rfl)]
    rfl

/-- R98, R99: the lower motion before a lowered switch that stands closed ends it. -/
def State.placeLower (s : State) : State :=
  let w := ({ s with canopy := { s.canopy.plain .lowering with lowerTimer := 0 } } : State).place .canopy .canopyLower
  if w.granted .canopy then w else w.request .canopy (.off false)

theorem State.placeLower_spec (s : State) :
    FlowEffect { s with canopy := { s.canopy.plain .lowering with lowerTimer := 0 } } s.placeLower ∧
      HoldsRequest s.placeLower .canopy .canopyLower 1 (s.cal.demand .canopy .canopyLower) ∧
      s.placeLower.canopyPair.dir = (if s.placeLower.granted .canopy = true then some .second else none) ∧
      s.placeLower.canopyPair.duty = (if s.placeLower.granted .canopy = true then s.cal.lowerDuty else 0) ∧
      s.placeLower.canopyPair.monitor = .disarmed := by
  let u : State := { s with canopy := { s.canopy.plain .lowering with lowerTimer := 0 } }
  let a := u.arb.submit .canopy .canopyLower (u.cal.demand .canopy .canopyLower)
  let w := u.place .canopy .canopyLower
  have hstands := State.place_stands u .canopy .canopyLower
  have htold : LowerTold u w (toldLast .canopy false a.pass.2) := by
    refine LowerTold.tells rfl _ (t := { u with arb := a.pass.1 }) ⟨.of_arb u _ ?_, fun h => by cases h⟩
    exact (Arbiter.pass_budget a).trans (Arbiter.submit_budget _ _ _ _)
  have hgrant : w.granted .canopy = toldLast .canopy false a.pass.2 := hstands.granted
  have hval : s.placeLower = if w.granted .canopy then w else w.request .canopy (.off false) := rfl
  obtain ⟨hf, h⟩ := htold
  have hreq := HoldsRequest.of_stands hstands
  rw [hval]
  by_cases hg : w.granted .canopy = true
  · rw [if_pos hg, if_pos hg, if_pos hg]
    obtain ⟨k1, k2, k3⟩ := h (hgrant ▸ hg)
    exact ⟨hf, hreq, k1, k2, k3⟩
  · obtain ⟨k1, k2, k3⟩ := w.request_off .canopy false
    have hg' : ¬(w.request .canopy (.off false)).granted .canopy = true := hg
    rw [if_neg hg, if_neg hg', if_neg hg']
    refine ⟨hf.trans (.of_request w .canopy _), hreq, k1, ?_, k3⟩
    show ((w.request .canopy (.off false)).pair .canopy).duty = 0
    rw [State.request_pair, if_pos rfl, Pair.settle_off (.inl rfl)]
    rfl

theorem State.beginLower_open {s : State} (h : s.closed .clow = false) : s.beginLower = s.placeLower := by
  have hc : s.placeLower.closed .clow = false := (s.placeLower_spec.1.closed .clow).trans h
  have hval : s.beginLower = if s.placeLower.closed .clow then s.placeLower.canopyLowered else s.placeLower := rfl
  rw [hval, hc]
  rfl

theorem State.beginLower_closed {s : State} (h : s.closed .clow = true) :
    s.beginLower.link = s.link ∧ s.beginLower.canopy = { s.canopy.plain .lowered with lowerTimer := 0 } ∧ HoldsNone s.beginLower .canopy ∧
      s.beginLower.canopyPair.dir = none ∧ s.beginLower.canopyPair.monitor = .disarmed := by
  obtain ⟨hf, -⟩ := s.placeLower_spec
  have hc : s.placeLower.closed .clow = true := (hf.closed .clow).trans h
  have hval : s.beginLower = if s.placeLower.closed .clow then s.placeLower.canopyLowered else s.placeLower := rfl
  obtain ⟨h1, h2, h3, h4, h5⟩ := (s.placeLower.canopyGoto .lowered .none).canopyStop_spec
  have hst : s.placeLower.canopy.state = .lowering := hf.canopy_state
  have hcan : (s.placeLower.canopyGoto .lowered .none).canopy = { s.canopy.plain .lowered with lowerTimer := 0 } := by
    have hx := congrArg State.canopy hf.1
    unfold State.canopyGoto
    generalize s.placeLower.canopy = x at hx
    dsimp only
    rw [hx]
    rfl
  rw [hval, if_pos hc, State.canopyLowered, if_pos hst]
  exact ⟨h1.link.trans hf.link, h3.trans hcan, h2, h4, h5⟩

end

/-! ## The requests -/

theorem Health.failed_iff {c : Analog} : c.health = .failed ↔ 255 < c.count := c.health_failed

/-- R98: some boom keeps the canopy from being lowered. -/
theorem State.keepsCanopy_iff (s : State) :
    (s.keepsCanopy .A || s.keepsCanopy .B) = true ↔ ∃ b, (s.engine b).state.engaged = true ∨
      ((s.engine b).state = .hold ∨ (s.engine b).state = .faulted) ∧ s.closed (.home b) = false := by
  have h (b : BoomId) : s.keepsCanopy b = true ↔ (s.engine b).state.engaged = true ∨
      ((s.engine b).state = .hold ∨ (s.engine b).state = .faulted) ∧ s.closed (.home b) = false := by
    simp [State.keepsCanopy]
  rw [Bool.or_eq_true, h, h]
  exact ⟨fun k => k.elim (⟨.A, ·⟩) (⟨.B, ·⟩), fun ⟨b, k⟩ => by cases b; exacts [.inl k, .inr k]⟩

/-- Settles O38. -/
theorem canopyRaiseAndLower : Obligations.CanopyRaiseAndLower := by
  unfold Obligations.CanopyRaiseAndLower
  intro q s h raise lower c keeps plain
  have hraise : exec raise s = .next (s.serveFixed q 0x17 0 [] decideCanopyRaise) := rfl
  have hlower : exec lower s = .next (s.serveFixed q 0x18 0 [] decideCanopyLower) := rfl
  have hkeeps : (s.frameTaken.keepsCanopy .A || s.frameTaken.keepsCanopy .B) = true ↔ keeps := s.keepsCanopy_iff
  have hclear (ht : s.trip = false) : ¬s.frameTaken.trip = true := by rw [show s.frameTaken.trip = _ from ht]; decide
  have haccept (hl : ¬(c.state = .lowering ∧ s.granted .canopy = true)) (ht : s.trip = false) (hf : (s.analog .canopy).count ≤ 255) :
      decideCanopyRaise s.frameTaken =
        (let u := if s.frameTaken.canopy.state = .raising ∨ s.frameTaken.canopy.state = .set then s.frameTaken
          else s.frameTaken.beginRaise
        u.accept [.u8 u.canopy.state.num, .flag (u.canopy.state == .raising && u.granted .canopy)]) :=
    (if_neg hl).trans ((if_neg (hclear ht)).trans (if_neg fun k => Nat.not_lt.2 hf (Health.failed_iff.1 k)))
  have hlowers (hr : ¬(c.state = .raising ∧ s.granted .canopy = true)) (ht : s.trip = false) (hk : ¬keeps) :
      decideCanopyLower s.frameTaken = s.frameTaken.lower.accept [.u8 s.frameTaken.lower.canopy.state.num] :=
    (if_neg hr).trans ((if_neg (hclear ht)).trans (if_neg fun k => hk (hkeeps.1 k)))
  refine ⟨fun hl => ?_, fun hl => ⟨fun ht => ?_, fun ht hf => ?_, fun ht hf => ⟨fun hs => ?_, fun hs => ?_, fun h1 h2 => ?_⟩⟩,
    fun hr => ?_, fun hr => ⟨fun ht => ?_, fun ht hk => ?_, fun ht hk => ⟨fun hs => ?_, fun hs hc => ?_, fun hs hc => ?_, fun h1 h2 hc => ?_⟩⟩⟩
  · exact exec_of_refuse h hraise rfl (by decide) (if_pos hl)
  · exact exec_of_refuse h hraise rfl (by decide) ((if_neg hl).trans (if_pos ht))
  · exact exec_of_refuse h hraise rfl (by decide)
      ((if_neg hl).trans ((if_neg (hclear ht)).trans (if_pos (Health.failed_iff.2 hf))))
  · refine exec_of_accept h hraise rfl (by decide) ?_
    have hs' : s.frameTaken.canopy.state = .raising := hs
    rw [haccept hl ht hf, if_pos (.inl hs')]
    dsimp only
    rw [hs']
    rfl
  · refine exec_of_accept h hraise rfl (by decide) ?_
    have hs' : s.frameTaken.canopy.state = .set := hs
    rw [haccept hl ht hf, if_pos (.inr hs')]
    dsimp only
    rw [hs']
    rfl
  · obtain ⟨k1, k2, k3⟩ := s.frameTaken.beginRaise_spec
    have hd : decideCanopyRaise s.frameTaken =
        ⟨s.frameTaken.beginRaise, .accepted [.u8 1, .flag (s.frameTaken.beginRaise.granted .canopy)]⟩ := by
      have hst : s.frameTaken.beginRaise.canopy.state = .raising := k1.canopy_state
      rw [haccept hl ht hf, if_neg (by rintro (hs | hs); exacts [h1 hs, h2 hs])]
      dsimp only
      rw [hst]
      rfl
    exact ⟨_, exec_relinked h hraise rfl (by decide) hd k1.link, k1.relink s.link, k2.relink s.link, k3⟩
  · exact exec_of_refuse h hlower rfl (by decide) (if_pos hr)
  · exact exec_of_refuse h hlower rfl (by decide) ((if_neg hr).trans (if_pos ht))
  · exact exec_of_refuse h hlower rfl (by decide) ((if_neg hr).trans ((if_neg (hclear ht)).trans (if_pos (hkeeps.2 hk))))
  · refine exec_of_accept h hlower rfl (by decide) ?_
    have hval : s.frameTaken.lower = s.frameTaken := by
      unfold State.lower
      rcases hs with hs | hs <;> simp only [show s.frameTaken.canopy.state = _ from hs]
    rw [hlowers hr ht hk, hval]
    rfl
  · refine exec_of_decides h hlower rfl (by decide) ?_ rfl
    have hval : s.frameTaken.lower = { s.frameTaken with canopy := plain .lowered } := by
      have hc' : s.frameTaken.closed .clow = true := hc
      unfold State.lower
      rcases hs with hs | hs | hs <;> simp only [show s.frameTaken.canopy.state = _ from hs] <;>
        rw [if_pos hc', State.canopyLowered, if_neg (by rw [show s.frameTaken.canopy.state = _ from hs]; decide)] <;> rfl
    rw [hlowers hr ht hk, hval]
    rfl
  · obtain ⟨k1, k2, k3, k4⟩ := State.beginLower_closed (s := s.frameTaken) hc
    have hd : decideCanopyLower s.frameTaken = ⟨s.frameTaken.beginLower, .accepted [.u8 0]⟩ := by
      have hval : s.frameTaken.lower = s.frameTaken.beginLower := by
        unfold State.lower
        simp only [show s.frameTaken.canopy.state = _ from hs]
      rw [hlowers hr ht hk, hval, k2]
      rfl
    exact ⟨_, exec_relinked h hlower rfl (by decide) hd k1, k2, k3, k4⟩
  · obtain ⟨k1, k2, k3⟩ := s.frameTaken.placeLower_spec
    have hd : decideCanopyLower s.frameTaken = ⟨s.frameTaken.placeLower, .accepted [.u8 4]⟩ := by
      have hc' : s.frameTaken.closed .clow = false := hc
      have hval : s.frameTaken.lower = s.frameTaken.placeLower := by
        unfold State.lower
        cases hs : s.frameTaken.canopy.state <;> simp only [hc', State.beginLower_open hc']
        · exact absurd hs h2
        · rfl
        · rfl
        · exact absurd hs h1
        · rfl
      rw [hlowers hr ht hk, hval, show s.frameTaken.placeLower.canopy.state = .lowering from k1.canopy_state]
      rfl
    exact ⟨_, exec_relinked h hlower rfl (by decide) hd k1.link, k1.relink s.link, k2.relink s.link, k3⟩

end Sys2Proof.Machine
end

section
/-! PROOF. The expiries of motion monitors (R23, R121) and of the engines' timers (R27, R34 to R38). -/
namespace Sys2Proof.Machine

section
variable {s t u : State} {b : BoomId} {r : InstRecord} {c : FaultCause}

/-- R184: the step left, as an entry to FAULTED tells the steps apart: RETRACT and INSERT write the same. -/
def faultStep (e : Engine) : EngineState := if stepLeft e = .insert then .retract else stepLeft e

theorem faultStep_iff (e : Engine) :
    (stepLeft e = .mix ↔ faultStep e = .mix) ∧ (stepLeft e = .torque ↔ faultStep e = .torque) ∧
      (stepLeft e = .collar ↔ faultStep e = .collar) ∧ (stepLeft e = .drill ↔ faultStep e = .drill) ∧
      (stepLeft e = .retract ∨ stepLeft e = .insert ↔ faultStep e = .retract) := by
  unfold faultStep
  cases stepLeft e <;> decide

/-- R45, R61, R184: what an entry to FAULTED reads of the state it comes from. -/
structure SameFault (b : BoomId) (s u : State) : Prop where
  now : u.now = s.now
  store : u.store = s.store
  analogs : u.analogs = s.analogs
  plans : u.plans = s.plans
  active : (u.boom b).active = (s.boom b).active
  logger : u.logger b = s.logger b
  left : faultStep (u.engine b) = faultStep (s.engine b)
  jog : (s.engine b).jog = none → (u.engine b).jog = none
  resinRunning : (u.engine b).resinRunning = (s.engine b).resinRunning
  retries : (u.engine b).retries = (s.engine b).retries
  q : (u.engine b).q = (s.engine b).q
  highest : (u.engine b).highest = (s.engine b).highest
  passed : (u.engine b).passed = (s.engine b).passed

section
variable (k : SameFault b s u)
include k

theorem SameFault.closed : loggerClosed u b = loggerClosed s b := by
  have hplan : u.activePlan b = s.activePlan b := by simp only [State.activePlan, State.activeJob, k.plans, k.active]
  have hval : u.activeValues b = s.activeValues b := by simp only [State.activeValues, State.activeJob, hplan, k.active]
  exact loggerClosed_congr k.logger hplan hval k.analogs k.now

theorem SameFault.closes : closesLog u b = closesLog s b := by
  obtain ⟨-, -, u3, u4, -⟩ := faultStep_iff (u.engine b)
  obtain ⟨-, -, s3, s4, -⟩ := faultStep_iff (s.engine b)
  rw [k.left] at u3 u4
  exact propext (or_congr (u3.trans s3.symm) (u4.trans s4.symm))

theorem SameFault.finds : closingFindsVoid u b = closingFindsVoid s b := by
  rw [closingFindsVoid, closingFindsVoid, k.closes, k.logger, k.closed]

theorem FaultedRecord.congr {x : InstRecord} (h : FaultedRecord u b r c x) : FaultedRecord s b r c x := by
  obtain ⟨u1, u2, -, -, u5⟩ := faultStep_iff (u.engine b)
  obtain ⟨s1, s2, -, -, s5⟩ := faultStep_iff (s.engine b)
  rw [k.left] at u1 u2 u5
  unfold FaultedRecord at h ⊢
  dsimp only at h ⊢
  rw [k.finds, k.closes, k.closed, k.now, k.retries, k.q, k.highest, k.passed] at h
  simp only [u1.trans s1.symm, u2.trans s2.symm, u5.trans s5.symm] at h
  exact h

end

theorem FaultEntered.congr (h : FaultEntered u t b r c) (k : SameFault b s u) (hm : EngineMoves b s t) : FaultEntered s t b r c := by
  obtain ⟨h1, h2, h3, h4, h5, h6, h7, x, h8, h9⟩ := h
  exact ⟨hm.effect (.inr (by rw [h2]; rfl)), h2, h3, h4, h5, fun hj => h6 (k.jog hj), by rwa [k.finds] at h7, x, h8.congr k,
    h9.congr k.store k.active k.resinRunning⟩

theorem SameFault.trans (h : SameFault b s t) (k : SameFault b t u) : SameFault b s u :=
  ⟨k.now.trans h.now, k.store.trans h.store, k.analogs.trans h.analogs, k.plans.trans h.plans, k.active.trans h.active,
    k.logger.trans h.logger, k.left.trans h.left, fun hj => k.jog (h.jog hj), k.resinRunning.trans h.resinRunning, k.retries.trans h.retries,
    k.q.trans h.q, k.highest.trans h.highest, k.passed.trans h.passed⟩

theorem SameFault.of_flow (h : FlowEffect s u) : SameFault b s u := by
  have e := h.engine b
  exact ⟨h.now, h.store, h.analogs, h.plans, h.active b, h.logger b, by rw [e]; rfl, fun hj => (congrArg (·.jog) e).trans hj, congrArg (·.resinRunning) e,
    congrArg (·.retries) e, congrArg (·.q) e, congrArg (·.highest) e, congrArg (·.passed) e⟩

/-- R45, R184: what an entry to FAULTED reads of the engine. -/
def Engine.faultFields (e : Engine) :=
  (faultStep e, e.jog, e.resinRunning, e.retries, e.q, e.highest, e.passed)

theorem SameFault.of_setEngine {x : Engine} (hx : x.faultFields = (s.engine b).faultFields) : SameFault b s (s.setEngine b x) := by
  simp only [Engine.faultFields, Prod.mk.injEq] at hx
  obtain ⟨h1, h2, h3, h4, h5, h6, h7⟩ := hx
  constructor <;> simp [*]

end

section
variable {s : State} {b : BoomId} {r : InstRecord}

/-! ## The engines' timers -/

/-- R36: the window test at the end of the gel time, the resin clock at `n`. -/
theorem State.windowTest_spec (n : Nat) (hs : (s.engine b).state = .gelHold) (hr : (s.engine b).record = some r)
    (hj : (s.engine b).jog = none) :
    let p := s.activePlan b
    let t := (s.setEngine b { s.engine b with resinClock := n }).windowTest b
    EngineEffect b s t ∧
      (n < p.gelTime + p.torqueWindow →
        StepBegun t b .torque 2 ∧ (t.engine b).resinClock = n ∧ (t.engine b).torqueTimer = 0 ∧
          (t.engine b).highest = 0 ∧ (t.engine b).consecutive = 0 ∧ (t.engine b).record = some r) ∧
      (p.gelTime + p.torqueWindow ≤ n → s.closed (.home b) = false →
        StepBegun t b .release 4 ∧ (t.engine b).record = some { r with outcome := some .torqueSkipped }) ∧
      (p.gelTime + p.torqueWindow ≤ n → s.closed (.home b) = true →
        FilingEntered s t b { r with outcome := some .torqueSkipped }) := by
  intro p t
  let u := s.setEngine b { s.engine b with resinClock := n }
  have hplan : u.activePlan b = p := by simp [u, p, State.activePlan, State.activeJob]
  have hclock : (u.engine b).resinClock = n := by simp [u]
  have hval : t = if n < p.gelTime + p.torqueWindow then u.enterTorque b
      else (u.modRecord b (fun r => { r with outcome := some .torqueSkipped })).enterRelease b := by
    show u.windowTest b = _
    unfold State.windowTest
    dsimp only
    rw [hplan, hclock]
  have hmoves : EngineMoves b s t := (EngineMoves.of_setEngine s b _ (by rfl)).trans (.of_windowTest u b)
  have huj : (u.engine b).jog = none := by simp [u, hj]
  have hur : (u.engine b).record = some r := by simp [u, hr]
  have hrel := State.release_written (f := fun r => { r with outcome := some .torqueSkipped }) huj hur
  have hclosed : u.closed (.home b) = s.closed (.home b) := by simp [u, State.closed]
  rw [hclosed] at hrel
  refine ⟨hmoves.effect (.inl (by rw [hs]; rfl)), fun hn => ?_, fun hn hc => ?_, fun hn hc => ?_⟩
  · obtain ⟨k1, k2⟩ := u.enterTorque_spec huj
    rw [hval, if_pos hn]
    have he := k1.engine_eq (b := b) (by simp [Engine.torquing])
    refine ⟨k2, ?_, ?_, ?_, ?_, ?_⟩ <;> rw [he] <;> simp [Engine.torquing, hclock, hur]
  · rw [hval, if_neg (Nat.not_lt.2 hn)]
    exact hrel.1 hc
  · have ht := hval.trans (if_neg (Nat.not_lt.2 hn))
    rw [ht] at hmoves ⊢
    exact (hrel.2 hc).congr (SameFiling.of_setEngine (by rfl) (by rfl) (by rfl) (by rfl)) hmoves

end

/-- Settles O29. -/
theorem engineTimersExpire : Obligations.EngineTimersExpire := by
  unfold Obligations.EngineTimersExpire
  have hmix (b : BoomId) (s : State) (hrun : s.phase = .running) : exec (.mixLimitExpiry b) s = .next (s.mixLimit b) := by
    show Host.Outcome.next (s.whenRunning _) = _
    rw [State.whenRunning_of_running hrun]
  have hgel (b : BoomId) (s : State) (hrun : s.phase = .running) : exec (.gelTimeExpiry b) s = .next (s.gelTime b) := by
    show Host.Outcome.next (s.whenRunning _) = _
    rw [State.whenRunning_of_running hrun]
  have hdrill (b : BoomId) (s : State) (hrun : s.phase = .running) : exec (.drillTimeLimit b) s = .next (s.drillLimitReached b) := by
    show Host.Outcome.next (s.whenRunning _) = _
    rw [State.whenRunning_of_running hrun]
  have htorque (b : BoomId) (s : State) (hrun : s.phase = .running) :
      exec (.torqueTimeLimit b) s = .next (s.torqueLimitReached b) := by
    show Host.Outcome.next (s.whenRunning _) = _
    rw [State.whenRunning_of_running hrun]
  refine ⟨fun b s hrun => ?_, fun b s r hrun hr hj => ?_⟩
  · intro e
    refine ⟨fun h => ?_, fun h => ?_, fun h => ?_, fun h => ?_⟩
    · rw [hmix b s hrun, State.mixLimit, if_neg h]
    · rw [hgel b s hrun, State.gelTime, if_neg h]
    · rw [hdrill b s hrun, State.drillLimitReached, if_neg (by simpa [State.drillCounts] using h)]
    · rw [htorque b s hrun, State.torqueLimitReached, if_neg (by simpa [State.torqueCounts] using h)]
  · intro e p ended
    refine ⟨fun hs => ?_, fun hs => ?_, fun hs hg => ?_, fun hs hg => ?_⟩
    · let n := max e.resinClock p.mixLimit
      let u := s.setEngine b { e with resinClock := n }
      have hue : u.engine b = { e with resinClock := n } := by simp [u]
      obtain ⟨k1, k2⟩ := u.endMix_spec (b := b) true (by rw [hue]; exact hj)
      have hmoves : EngineMoves b s (u.endMix b true) := (EngineMoves.of_setEngine s b _ (by rfl)).trans (.of_endMix u b true)
      have he := k1.engine_eq (b := b) (by simp [Engine.gelling])
      refine ⟨u.endMix b true, ?_, k2, hmoves.effect (.inl (by rw [hs]; rfl)), ?_, ?_, mixRecord e.q true r, ?_, rfl, ?_⟩
      · rw [hmix b s hrun, State.mixLimit, if_pos hs]
      · rw [he]
        simp [Engine.gelling, hue, n]
      · rw [he]
        simp [Engine.gelling, hue]
      · rw [he]
        simp [Engine.gelling, hue, e, hr]
      · simp [mixRecord]
    · intro c
      refine ⟨_, ?_, State.windowTest_spec c hs hr hj⟩
      rw [hgel b s hrun, State.gelTime, if_pos hs]
    · have hcounts : s.drillCounts b = true := by simpa [State.drillCounts] using ⟨hs, hg⟩
      let u := s.setEngine b { e with drillTimer := max e.drillTimer p.drillLimitMs }
      have hf := State.enterFaulted_spec (s := u) (b := b) (r := r) .stepTimeout (by simpa [u] using hr)
      refine ⟨u.enterFaulted b .stepTimeout, ?_, hf.congr (SameFault.of_setEngine (by rfl)) ?_⟩
      · rw [hdrill b s hrun, State.drillLimitReached, if_pos hcounts]
      · exact (EngineMoves.of_setEngine s b _ (by rfl)).trans (.of_enterFaulted u b _)
    · have hcounts : s.torqueCounts b = true := by simpa [State.torqueCounts] using ⟨hs, hg⟩
      let u := s.setEngine b { e with torqueTimer := max e.torqueTimer p.torqueTime }
      have hmoves : EngineMoves b s (u.endTorque b .torqueLow e.highest) :=
        (EngineMoves.of_setEngine s b _ (by rfl)).trans (.of_endTorque u b _ _)
      have hrel := State.release_written (s := u) (b := b) (r := r) 
        (f := fun r => { r with outcome := some .torqueLow, torque := some e.highest })
        (by simpa [u] using hj) (by simpa [u] using hr)
      have hclosed : u.closed (.home b) = s.closed (.home b) := by simp [u, State.closed]
      rw [hclosed] at hrel
      refine ⟨u.endTorque b .torqueLow e.highest, ?_, hmoves.effect (.inl (by rw [hs]; rfl)), hrel.1, fun hc => ?_⟩
      · rw [htorque b s hrun, State.torqueLimitReached, if_pos hcounts]
      · exact (hrel.2 hc).congr (SameFiling.of_setEngine (by rfl) (by rfl) (by rfl) (by rfl)) hmoves

/-! ## Motion monitors -/

theorem Pair.expires_iff_counting (p : Pair) : p.expires = true ↔ p.counting = true ∧ ∃ r z, p.monitor = .armed 0 r z := by
  unfold Pair.expires
  split
  · next r z h => exact ⟨fun k => ⟨k, r, z, h⟩, fun k => k.1⟩
  · next h => exact ⟨fun k => (by cases k), fun ⟨_, r, z, k⟩ => absurd k (h r z)⟩

/-- Settles O28. -/
theorem monitorExpiryActsByStep : Obligations.MonitorExpiryActsByStep := by
  unfold Obligations.MonitorExpiryActsByStep
  have hexec (i : PairId) (s : State) (hrun : s.phase = .running) : exec (.motionMonitorExpiry i) s =
      .next (if (s.pair i).expires then (s.setPair i { s.pair i with monitor := .disarmed }).ownerExpiry i else s) := by
    show Host.Outcome.next (s.whenRunning _) = _
    rw [State.whenRunning_of_running hrun]
  refine ⟨fun i s hrun h => ?_, fun b f s r ref hrun hm hc hr hj => ?_, fun s ref hrun hm hc => ?_⟩
  · rw [hexec i s hrun, if_neg]
    rw [Pair.expires_iff_counting]
    rintro ⟨h1, ref, z, h2⟩
    rcases h with h | h
    · rw [h] at h1
      cases h1
    · exact h ref z h2
  · intro e p u
    have hue : u.engine b = e := by simp [u, e]
    have hur : (u.engine b).record = some r := by rw [hue]; exact hr
    have huj : (u.engine b).jog = none := by rw [hue]; exact hj
    have hclosed : u.closed (.home b) = s.closed (.home b) := by simp [u, State.closed]
    have hplan : u.activePlan b = p := by
      have ha : (u.boom b).active = (s.boom b).active := by
        simp only [u]
        cases b <;> cases f <;> rfl
      simp only [State.activePlan, State.activeJob, ha]
      simp [u, p, State.activePlan, State.activeJob]
    have hscan : (u.motion b).scanPos = (s.motion b).scanPos := by simp [u]
    refine ⟨u.engineExpiry b f, ?_, fun h => ?_, fun h => ?_, fun h => ⟨fun hs => ?_, fun hs => ?_⟩, fun h => ?_, fun h => ?_,
      fun h => ?_, fun h => ?_, fun h => ?_⟩
    · rw [hexec _ s hrun, if_pos ((Pair.expires_iff_counting _).2 ⟨hc, ref, false, hm⟩)]
      rfl
    · obtain ⟨rfl, ⟨hs, hsub⟩ | hs | hs | hs⟩ := h <;> simp only [State.engineExpiry, hue, hs] <;> try rw [hsub]
      all_goals exact State.enterFaulted_spec _ hur
    · obtain ⟨rfl, hs, hsub⟩ := h
      simp only [State.engineExpiry, hue, hs, hsub]
      exact State.enterFaulted_spec _ hur
    · obtain ⟨rfl, hsub⟩ := h
      simp only [State.engineExpiry, hue, hs, hsub]
      exact State.enterFaulted_spec _ hur
    · obtain ⟨rfl, hsub⟩ := h
      simp only [State.engineExpiry, hue, hs, hsub]
      exact State.enterFaulted_spec _ hur
    · obtain ⟨rfl, hs⟩ := h
      have hval : u.engineExpiry b .rot = u.stall b (s.motion b).scanPos := by
        rw [← hscan]
        rcases hs with ⟨hs, hsub⟩ | ⟨hs, hsub⟩
        · simp only [State.engineExpiry, hue, hs, hsub]
        · simp only [State.engineExpiry, hue, hs]
      obtain ⟨k1, k2⟩ := u.stall_spec b (s.motion b).scanPos r
      rw [hue, hplan] at k1 k2
      rw [hval]
      exact ⟨k1, fun h => k2 h hr⟩
    · obtain ⟨rfl, hs⟩ := h
      have hval : u.engineExpiry b .rot = u.endMix b true := by simp only [State.engineExpiry, hue, hs]
      obtain ⟨k1, k2⟩ := u.endMix_spec true huj
      have he := k1.engine_eq (b := b) (by simp [Engine.gelling])
      rw [hval]
      refine ⟨k2, mixRecord e.q true r, ?_, rfl, by simp [mixRecord]⟩
      rw [he]
      simp [Engine.gelling, hue, e, hr]
    · obtain ⟨rfl, hs, hh⟩ := h
      have hval : u.engineExpiry b .rot = u.endTorque b .torqueLow e.highest := by simp only [State.engineExpiry, hue, hs]
      rw [hval]
      exact (State.release_written huj hur).1 (hclosed.trans hh)
    · obtain ⟨rfl, hs, hh⟩ := h
      have hval : u.engineExpiry b .rot = u.endTorque b .torqueLow e.highest := by simp only [State.engineExpiry, hue, hs]
      rw [hval]
      exact (State.release_written huj hur).2 (hclosed.trans hh)
    · unfold State.engineExpiry
      dsimp only
      rw [hue]
      split <;> simp_all [EngineState.engaged]
  · intro u
    refine ⟨u.canopyExpiry, ?_, fun h => if_neg h, fun h => ?_⟩
    · have hexp : (s.pair .canopy).expires = true := (Pair.expires_iff_counting _).2 ⟨hc, ref, false, hm⟩
      rw [hexec _ s hrun, if_pos hexp]
      rfl
    · rw [State.canopyExpiry, if_pos h]
      obtain ⟨k1, k2, k3, k4, k5⟩ := u.canopyFail_spec .noResponse
      exact ⟨k1, k4, k3, k2, fun b => (k5 b).trans (by cases b <;> rfl)⟩

end Sys2Proof.Machine
end

section
/-! PROOF. JOG (R52, R53), rotation pulses (R59, R118, R120, R136, R35) and encoder edges (R134). -/
namespace Sys2Proof.Machine

/-! ## The drive of a jog -/

section
variable {s t : State} {b : BoomId} {j : Jog} {g : Bool}

/-- R52: the jogged pair carries the jog's drive under the cap, and no pair a monitor. -/
def JogDriven (s : State) (b : BoomId) (j : Jog) : Prop :=
  ∀ f,
    (s.pair (.boom b f)).dir = ((j.drive (s.engine b).restricted).of f).map Prod.fst ∧
      (s.pair (.boom b f)).duty = (((j.drive (s.engine b).restricted).of f).map Prod.snd).getD 0 ∧
      (s.pair (.boom b f)).monitor = .disarmed

theorem Jog.drive_monitored (j : Jog) (r : Bool) : (j.drive r).monitored = none := by
  unfold Jog.drive
  split <;> rfl

theorem State.issueJog_driven (s : State) (b : BoomId) (j : Jog) : JogDriven (s.issueJog b j) b j := fun f => by
  rw [State.issueJog_eq, State.requestBoom_pair, (PairsOnly.of_requestBoom s b _).engine]
  obtain ⟨h1, h2, h3⟩ := s.request_toRequest b f (j.drive (s.engine b).restricted) .none
  refine ⟨h1, h2, h3.trans ?_⟩
  rw [if_neg (by simp [Jog.drive_monitored])]

/-- R86, R87: a jogging boom, told of its request since it stood in `s`: granted, it drives its pair. -/
def JogTold (s t : State) (b : BoomId) (j : Jog) (g : Bool) : Prop := FlowEffect s t ∧ (g = true → JogDriven t b j)

theorem JogDriven.congr (h : JogDriven s b j) (k : t.boom b = s.boom b) : JogDriven t b j := fun f => by
  rw [State.pair_of_boom k, State.engine, k]
  exact h f

theorem JogTold.tell (h : JogTold s t b j g) (hj : (s.engine b).jog = some j) (n : FlowNote) :
    JogTold s (t.tell n) b j (if n.who = .boom b then n.granted else g) := by
  obtain ⟨hf, h⟩ := h
  refine ⟨hf.trans (.of_tell t n), ?_⟩
  by_cases hn : n.who = .boom b
  · rw [if_pos hn]
    obtain ⟨who, x⟩ := n
    subst hn
    cases x with
    | true =>
      have hval : t.tell ⟨.boom b, true⟩ = t.issueJog b j := by
        show t.onBoomGrant b = _
        unfold State.onBoomGrant
        rw [hf.engine_jog b, hj]
      rw [hval]
      exact fun _ => t.issueJog_driven b j
    | false => exact fun h => by cases h
  · rw [if_neg hn]
    exact fun hg => (h hg).congr (t.tell_boom_ne hn)

theorem JogTold.tells (hj : (s.engine b).jog = some j) (ns : List FlowNote) {t : State} {g : Bool} (h : JogTold s t b j g) :
    JogTold s (ns.foldl State.tell t) b j (toldLast (.boom b) g ns) := by
  induction ns generalizing t g with
  | nil => exact h
  | cons n ns ih => exact ih (h.tell hj n)

theorem FlowEffect.setEngine (h : FlowEffect s t) (b : BoomId) (f : Engine → Engine)
    (hf : ∀ e a r, f { e with armOnGrant := a, record := r } = { f e with armOnGrant := a, record := r })
    (hr : ∀ e, (f e).record = e.record) (hs : ∀ e, (f e).state = e.state) :
    FlowEffect (s.setEngine b (f (s.engine b))) (t.setEngine b (f (t.engine b))) := by
  have hb (c : BoomId) : FlowTouches (s.setEngine b (f (s.engine b))) (t.setEngine b (f (t.engine b))) c := by
    by_cases hc : c = b
    · subst hc
      exact (h.boom c).setEngine f hf hr hs
    · have k := h.boom c
      unfold FlowTouches at k ⊢
      simp only [State.setEngine_boom, State.setEngine_engine, if_neg hc]
      exact k
  refine ⟨?_, ?_, hb .A, hb .B⟩
  · have h1 := h.1
    cases b
    · exact (congrArg (fun w => w.setEngine .A (f (t.engine .A))) h1).trans rfl
    · exact (congrArg (fun w => w.setEngine .B (f (t.engine .B))) h1).trans rfl
  · simpa using h.2.1

/-! ## A jog begins and ends -/

/-- R53: the end of a jog. -/
theorem State.endJog_spec (h : (s.engine b).jog ≠ none) :
    FlowEffect (s.setEngine b { s.engine b with jog := none }) (s.endJog b) ∧ AtRest (s.endJog b) b := by
  rw [State.endJog, if_pos (Option.isSome_iff_ne_none.2 h)]
  exact ⟨.of_noFlow _ b, State.noFlow_atRest _ b⟩

theorem State.endJog_none (h : (s.engine b).jog = none) : s.endJog b = s := by
  rw [State.endJog, if_neg (by simp [h])]

/-- R52: the jog placed, before a duration of 0 ends it. -/
def State.placeJog (s : State) (b : BoomId) (j : Jog) : State :=
  let s1 := s.dropJog b
  let s2 := (s1.setEngine b { s1.engine b with jog := some j }).place (.boom b) (.jog j.fn)
  if s2.granted (.boom b) then s2 else s2.boomOff b false

theorem State.placeJog_spec (s : State) (b : BoomId) (j : Jog) :
    let t := s.placeJog b j
    FlowEffect (s.setEngine b { s.engine b with jog := some j }) t ∧
      HoldsRequest t (.boom b) (.jog j.fn) 4 (s.cal.demand (.boom b) (.jog j.fn)) ∧
      (t.granted (.boom b) = true → JogDriven t b j) ∧ (t.granted (.boom b) = false → PairsAtRest t b ∧
        ∀ f, (t.pair (.boom b f)).duty = 0) := by
  intro t
  let s1 := s.dropJog b
  let u := s1.setEngine b { s1.engine b with jog := some j }
  let a := u.arb.submit (.boom b) (.jog j.fn) (u.cal.demand (.boom b) (.jog j.fn))
  let w := u.place (.boom b) (.jog j.fn)
  have hbase : FlowEffect (s.setEngine b { s.engine b with jog := some j }) u := by
    have hu : u = s.setBoom b { s.boom b with engine := { s.engine b with jog := some j }, pairs := (s1.boom b).pairs } := by
      have h := s.dropJog_eq b
      simp only [u, s1]
      generalize ((s.dropJog b).boom b).pairs = x at h ⊢
      rw [h]
      cases b <;> rfl
    rw [hu]
    have := FlowEffect.of_setBoom (s := s.setEngine b { s.engine b with jog := some j }) (b := b)
      (x := { s.boom b with engine := { s.engine b with jog := some j }, pairs := (s1.boom b).pairs }) (by cases b <;> rfl)
      (.inl (by cases b <;> rfl))
    cases b <;> exact this
  have hstands := State.place_stands u (.boom b) (.jog j.fn)
  have htold : JogTold u w b j (toldLast (.boom b) false a.pass.2) := by
    refine JogTold.tells (by simp [u]) _ (t := { u with arb := a.pass.1 }) ⟨.of_arb u _ ?_, fun h => by cases h⟩
    exact (Arbiter.pass_budget a).trans (Arbiter.submit_budget _ _ _ _)
  have hgrant : w.granted (.boom b) = toldLast (.boom b) false a.pass.2 := hstands.granted
  have hcal : u.cal = s.cal := hbase.cal.trans (by simp)
  have hreq : HoldsRequest w (.boom b) (.jog j.fn) 4 (s.cal.demand (.boom b) (.jog j.fn)) := by
    rw [← hcal]
    exact HoldsRequest.of_stands hstands
  have hval : t = if w.granted (.boom b) then w else w.boomOff b false := rfl
  obtain ⟨hf, h⟩ := htold
  rw [hval]
  by_cases hg : w.granted (.boom b) = true
  · rw [if_pos hg]
    exact ⟨hbase.trans hf, hreq, fun _ => h (hgrant ▸ hg), fun h => by rw [hg] at h; cases h⟩
  · have harb := (PairsOnly.of_requestBoom w b (fun _ => .off false)).arb
    rw [if_neg hg]
    refine ⟨(hbase.trans hf).trans (.of_boomOff w b false), ?_, fun h => absurd ?_ hg,
      fun _ => ⟨State.boomOff_atRest _ _, State.boomOff_duty _ _ _⟩⟩
    · rw [State.boomOff_eq, HoldsRequest, harb]
      exact hreq
    · rwa [State.boomOff_eq, State.granted, harb] at h

/-- R52: where the jogged pair alone is driven. -/
theorem JogDriven.pair (h : JogDriven s b j) (f : PairFn) :
    (s.pair (.boom b f)).dir = (if f = j.fn then some j.dir else none) ∧
      (s.pair (.boom b f)).duty =
        (if f = j.fn then (if j.fn = .feed ∧ (s.engine b).restricted = true then min j.duty 500 else j.duty) else 0) ∧
      (s.pair (.boom b f)).monitor = .disarmed := by
  obtain ⟨h1, h2, h3⟩ := h f
  rw [h1, h2]
  refine ⟨?_, ?_, h3⟩
  · obtain ⟨fn, d, n, l⟩ := j
    cases f <;> cases fn <;> rfl
  · obtain ⟨fn, d, n, l⟩ := j
    cases f <;> cases fn <;> simp [Jog.drive, StepDrive.of, capFeed]

end

/-- A request whose first byte names its boom. -/
theorem exec_withBoom {i : Instr} {s : State} {seq code : Byte} {n : Nat} {rest : List Byte} {decide : BoomId → State → Decision}
    (b : BoomId)
    (hi : exec i s = .next (s.serveFixed seq code n (BitVec.ofNat 8 b.num :: rest)
      (withBoom (byteAt (BitVec.ofNat 8 b.num :: rest) 0) decide))) :
    exec i s = .next (s.serveFixed seq code n (BitVec.ofNat 8 b.num :: rest) (decide b)) := by
  have hb : byteAt (BitVec.ofNat 8 b.num :: rest) 0 = b.num := by cases b <;> rfl
  rw [hi, hb, show withBoom b.num decide = decide b from funext fun t => withBoom_num b _ t]

theorem pairFnOf_isSome {n : Nat} (h : n ≤ 2) : ∃ f, pairFnOf n = some f := by
  have hn : n = 0 ∨ n = 1 ∨ n = 2 := by omega
  rcases hn with rfl | rfl | rfl
  exacts [⟨.rot, rfl⟩, ⟨.feed, rfl⟩, ⟨.ins, rfl⟩]

theorem pairFnOf_none {n : Nat} (h : 2 < n) : pairFnOf n = none := by
  rw [pairFnOf, if_neg (by omega), if_neg (by omega), if_neg (by omega)]

theorem dirOf_none {n : Nat} (h : 1 < n) : dirOf n = none := by rw [dirOf, if_neg (by omega), if_neg (by omega)]

theorem dirOf_isSome {n : Nat} (h : n ≤ 1) : ∃ d, dirOf n = some d := by
  have hn : n = 0 ∨ n = 1 := by omega
  rcases hn with rfl | rfl
  exacts [⟨.first, rfl⟩, ⟨.second, rfl⟩]

section
variable {p : List Byte} {b : BoomId} {s : State} {f : PairFn} {d : Dir}

theorem decideJog_pair (h : pairFnOf (byteAt p 1) = none) : decideJog p b s = s.badField 2 := by
  unfold decideJog
  simp only [h]

theorem decideJog_dir (hf : pairFnOf (byteAt p 1) = some f) (h : dirOf (byteAt p 2) = none) : decideJog p b s = s.badField 3 := by
  unfold decideJog
  simp only [hf, h]

theorem decideJog_fields (hf : pairFnOf (byteAt p 1) = some f) (hd : dirOf (byteAt p 2) = some d) :
    decideJog p b s =
      if !(s.engine b).state.jogs then s.refuse .wrongState
      else if s.trip then s.interlock interlockTrip
      else
        (s.startJog b { fn := f, dir := d, duty := min (u16At p 3) 1000, left := min (u16At p 5) 2000 }).accept [] := by
  unfold decideJog
  simp only [hf, hd]

end

/-- Settles O24. -/
theorem jogMovesOnePairAndEnds : Obligations.JogMovesOnePairAndEnds := by
  unfold Obligations.JogMovesOnePairAndEnds
  refine ⟨?_, ?_, fun b s hrun => ?_⟩
  · intro q dh dl th tl b f d s duty left h hs ht hduty hleft i
    let j : Jog := { fn := f, dir := d, duty := duty, left := left }
    let p : List Byte := [BitVec.ofNat 8 b.num, BitVec.ofNat 8 f.num, BitVec.ofNat 8 d.num, dh, dl, th, tl]
    let u := s.frameTaken.placeJog b j
    have hexec := exec_withBoom b
      (show exec i s = .next (s.serveFixed q 0x14 7 p
        (withBoom _ (decideJog _))) from rfl)
    have hf : pairFnOf (BitVec.ofNat 8 f.num).toNat = some f := by cases f <;> rfl
    have hdir : dirOf (BitVec.ofNat 8 d.num).toNat = some d := by cases d <;> rfl
    have hd : decideJog p b s.frameTaken =
        ⟨if left = 0 then u.endJog b else u, .accepted []⟩ := by
      rw [decideJog_fields (p := p) hf hdir, State.frameTaken_engine, hs, if_neg (by decide),
        if_neg (show ¬s.frameTaken.trip = true by show ¬s.trip = true; rw [ht]; decide)]
      rw [show min (u16At p 3) 1000 = duty from hduty.symm, show min (u16At p 5) 2000 = left from hleft.symm]
      rfl
    obtain ⟨k1, k2, k3, k4⟩ := s.frameTaken.placeJog_spec b j
    have hjog : (u.engine b).jog ≠ none := by
      rw [k1.engine_jog b]
      simp
    obtain ⟨e1, e2⟩ := State.endJog_spec hjog
    have hend : FlowEffect (s.frameTaken.setEngine b { s.frameTaken.engine b with jog := none }) (u.endJog b) := by
      have := k1.setEngine b (fun e => { e with jog := none }) (fun _ _ _ => rfl) (fun _ => rfl) (fun _ => rfl)
      rw [State.setEngine_engine, if_pos rfl, State.setEngine_setEngine] at this
      exact this.trans e1
    have hlink : u.link = s.frameTaken.link := k1.link.trans (by simp)
    by_cases h0 : left = 0
    · rw [if_pos h0] at hd
      refine ⟨_, exec_relinked h hexec rfl (by decide) hd (hend.link.trans (by simp)), fun _ => ⟨?_, e2.relink s.link⟩, fun hp => by omega⟩
      have := hend.relink s.link
      cases b <;> exact this
    · rw [if_neg h0] at hd
      refine ⟨_, exec_relinked h hexec rfl (by decide) hd hlink, fun hp => absurd hp h0, fun _ => ⟨?_, k2.relink s.link, fun g => ?_⟩⟩
      · have := k1.relink s.link
        cases b <;> exact this
      · show (u.pair (.boom b g)).dir = (if u.granted (.boom b) = true ∧ g = f then _ else _) ∧
          (u.pair (.boom b g)).duty = (if u.granted (.boom b) = true ∧ g = f then _ else _) ∧ (u.pair (.boom b g)).monitor = _
        cases hg : u.granted (.boom b) with
        | true =>
          obtain ⟨p1, p2, p3⟩ := (k3 hg).pair g
          have hr : (u.engine b).restricted = (s.engine b).restricted := (k1.engine_restricted b).trans (by simp)
          rw [hr] at p2
          simp only [true_and]
          exact ⟨p1, p2, p3⟩
        | false =>
          obtain ⟨hrest, hduty0⟩ := k4 hg
          rw [if_neg (by simp), if_neg (by simp)]
          exact ⟨(hrest g).1, hduty0 g, (hrest g).2.2⟩
  · intro q p0 p1 p2 p3 p4 p5 b s h i
    have hexec := exec_withBoom b
      (show exec i s = .next (s.serveFixed q 0x14 7 [BitVec.ofNat 8 b.num, p0, p1, p2, p3, p4, p5]
        (withBoom _ (decideJog _))) from rfl)
    refine ⟨fun h2 => ?_, fun h2 h1 => ?_, fun h2 h1 hs => ?_, fun h2 h1 hs ht => ?_⟩
    · refine exec_of_refuse h hexec rfl (by decide) (decideJog_pair (pairFnOf_none h2))
    · obtain ⟨f, hf⟩ := pairFnOf_isSome h2
      refine exec_of_refuse h hexec rfl (by decide) (decideJog_dir hf (dirOf_none h1))
    · obtain ⟨f, hf⟩ := pairFnOf_isSome h2
      obtain ⟨d, hd⟩ := dirOf_isSome h1
      refine exec_of_refuse h hexec rfl (by decide) 
        ((decideJog_fields (p := [BitVec.ofNat 8 b.num, p0, p1, p2, p3, p4, p5]) hf hd).trans ?_)
      rw [State.frameTaken_engine, hs]
      rfl
    · obtain ⟨f, hf⟩ := pairFnOf_isSome h2
      obtain ⟨d, hd⟩ := dirOf_isSome h1
      refine exec_of_refuse h hexec rfl (by decide) 
        ((decideJog_fields (p := [BitVec.ofNat 8 b.num, p0, p1, p2, p3, p4, p5]) hf hd).trans ?_)
      rw [State.frameTaken_engine, hs, if_neg (by decide), if_pos (show s.frameTaken.trip = true from ht)]
      rfl
  · have hexec : exec (.jogDurationExpiry b) s = .next (s.endJog b) := by
      show Host.Outcome.next (s.whenRunning _) = _
      rw [State.whenRunning_of_running hrun]
    refine ⟨fun hj => ?_, fun hj => ⟨_, hexec, State.endJog_spec hj⟩⟩
    rw [hexec, State.endJog_none hj]

/-! ## Pulses -/

section
variable {s : State} {b : BoomId}

theorem Pair.respond_monitor {p : Pair} {n : Nat} {r : Int} {z : Bool} (h : p.monitor = .armed n r z) (resp : Nat) :
    (p.respond resp none).monitor = .armed (if p.counting = true then resp else n) r z := by
  unfold Pair.respond
  split
  · simp [h]
  · exact h

theorem State.mixPulse_of_mix (h : (s.engine b).state = .mix) :
    s.mixPulse b =
      (let u := s.setEngine b { s.engine b with q := (s.engine b).q + 1 }
      if (s.activePlan b).mixCount ≤ (s.engine b).q + 1 then u.endMix b false else u) := by
  rw [State.mixPulse, if_pos h]

theorem State.mixPulse_of_not_mix (h : (s.engine b).state ≠ .mix) :
    s.mixPulse b = s.setEngine b
      (if (s.engine b).state = .hold ∧ (s.engine b).resume = some .mix ∧ (s.engine b).resinClock < (s.activePlan b).mixLimit ∧
          (s.engine b).q < (s.activePlan b).mixCount then
        { s.engine b with q := (s.engine b).q + 1 }
      else s.engine b) := by
  rw [State.mixPulse, if_neg h]
  split
  · rfl
  · rw [State.setEngine_self]

theorem State.mixPulse_logger (s : State) (b : BoomId) : (s.mixPulse b).logger b = s.logger b := by
  by_cases h : (s.engine b).state = .mix
  · rw [State.mixPulse_of_mix h]
    dsimp only
    split
    · rw [State.endMix_eq, (FlowEffect.of_beginFlow _ b _).logger]
      simp
    · simp
  · rw [State.mixPulse_of_not_mix h]
    simp

theorem State.tallyPulse_eq (s : State) (b : BoomId) :
    s.tallyPulse b = s.setLogger b
      { s.logger b with
        tally :=
          if (s.engine b).state = .collar ∧ (s.engine b).sub ≠ .approach ∨ (s.engine b).state = .drill then (s.logger b).tally + 1
          else (s.logger b).tally } := by
  unfold State.tallyPulse
  dsimp only
  split
  · rfl
  · cases b <;> rfl

end

/-! ## Edges -/

/-- R134: I leads Q. -/
theorem encoderDir_first (i q i' q' : Bool) : encoderDir i q i' q' = some .first ↔ (i, q, i', q') ∈
    [(false, false, true, false), (true, false, true, true), (true, true, false, true), (false, true, false, false)] := by
  revert i q i' q'
  decide

/-- R134: Q leads I. -/
theorem encoderDir_second (i q i' q' : Bool) : encoderDir i q i' q' = some .second ↔ (i, q, i', q') ∈
    [(false, false, false, true), (false, true, true, true), (true, true, true, false), (true, false, false, false)] := by
  revert i q i' q'
  decide

section
variable {s : State} {b : BoomId} {i q : Bool}

theorem State.encoder_still (h : encoderDir (s.motion b).encI (s.motion b).encQ i q = none) :
    s.encoder b i q = s.setMotion b { s.motion b with encI := i, encQ := q } := by
  unfold State.encoder
  simp only [h]

theorem State.encoder_end {d : Dir} (h : encoderDir (s.motion b).encI (s.motion b).encQ i q = some d)
    (hp : countPos (s.motion b).feedPos d = none) :
    s.encoder b i q = s.setMotion b { s.motion b with encI := i, encQ := q } := by
  unfold State.encoder
  simp only [h, hp]

theorem State.encoder_counts {d : Dir} {pos : Nat} (h : encoderDir (s.motion b).encI (s.motion b).encQ i q = some d)
    (hp : countPos (s.motion b).feedPos d = some pos) :
    s.encoder b i q = ((s.setMotion b { s.motion b with encI := i, encQ := q }).moveFeed b pos).feedResponse b d := by
  unfold State.encoder
  simp only [h, hp]

/-- R120, R134: a count in direction `d` reloads a counting FEED monitor that the pair's request drives that way. -/
theorem State.feedResponse_eq (s : State) (b : BoomId) (d : Dir) :
    s.feedResponse b d = s.setPair (.boom b .feed)
      (if (s.pair (.boom b .feed)).dir = some d then (s.pair (.boom b .feed)).respond (s.cal.response (.boom b .feed)) none
      else s.pair (.boom b .feed)) := by
  unfold State.feedResponse
  split
  · rfl
  · cases b <;> rfl

end

/-- Settles O43. -/
theorem pulsesAndEdgesCount : Obligations.PulsesAndEdgesCount := by
  unfold Obligations.PulsesAndEdgesCount
  refine ⟨fun b s hrun => ?_, fun b i q s hrun => ?_⟩
  · intro e x
    have hexec : exec (.rotationPulse b) s = .next (if x.runs true then s.pulse b else s) := by
      show Host.Outcome.next (s.whenRunning _) = _
      rw [State.whenRunning_of_running hrun]
    refine ⟨fun h => ?_, fun h1 h2 h3 => ?_⟩
    · rw [hexec, if_neg]
      unfold Pickup.runs
      rcases h with h | h | h <;> simp [h]
    · have hx : x.runs true = true := by simp [Pickup.runs, h1, h2, Option.isSome_iff_ne_none.2 h3]
      let m : Motion := { s.motion b with pulses := (s.motion b).pulses + 1, pickup := { line := true, level := true, run := none } }
      let v := ((s.setMotion b m).respond (.boom b .rot) none).tallyPulse b
      have hve : v.engine b = e := by
        simp only [v, State.tallyPulse_eq, State.respond]
        cases b <;> rfl
      have hvm : v.motion b = m := by
        simp only [v, State.tallyPulse_eq, State.respond]
        cases b <;> rfl
      have hvplan : v.activePlan b = s.activePlan b := by
        simp only [v, State.tallyPulse_eq, State.respond]
        cases b <;> rfl
      have hvl : (v.logger b).tally = if e.state = .collar ∧ e.sub ≠ .approach ∨ e.state = .drill then (s.logger b).tally + 1
          else (s.logger b).tally := by
        simp only [v, State.tallyPulse_eq, State.respond]
        cases b <;> rfl
      have hvp : v.pair (.boom b .rot) = (s.pair (.boom b .rot)).respond (s.cal.response (.boom b .rot)) none := by
        simp only [v, State.tallyPulse_eq, State.respond]
        cases b <;> rfl
      have hstill (h : e.state ≠ .mix ∨ e.q + 1 < (s.activePlan b).mixCount) : ∃ y, v.mixPulse b = v.setEngine b y := by
        rcases h with h | h
        · exact ⟨_, State.mixPulse_of_not_mix (by rw [hve]; exact h)⟩
        · by_cases hm : e.state = .mix
          · rw [State.mixPulse_of_mix (by rw [hve]; exact hm)]
            dsimp only
            rw [hve, hvplan, if_neg (Nat.not_le.2 h)]
            exact ⟨_, rfl⟩
          · exact ⟨_, State.mixPulse_of_not_mix (by rw [hve]; exact hm)⟩
      rw [hexec, if_pos hx]
      refine ⟨v.mixPulse b, rfl, ?_, ?_, fun n r h hm => ?_, fun hs hq => ?_, fun hs hq hj => ?_, fun hs => ?_⟩
      · rw [(EngineMoves.of_mixPulse v b).motion, hvm]
      · rw [State.mixPulse_logger, hvl]
      · obtain ⟨y, hy⟩ := hstill h
        rw [hy, State.setEngine_pair, hvp, Pair.respond_monitor hm]
      · rw [State.mixPulse_of_mix (by rw [hve]; exact hs)]
        dsimp only
        rw [hve, hvplan, if_neg (Nat.not_le.2 hq)]
        simp
      · rw [State.mixPulse_of_mix (by rw [hve]; exact hs)]
        dsimp only
        rw [hve, hvplan, if_pos hq]
        let u := v.setEngine b { e with q := e.q + 1 }
        have hue : u.engine b = { e with q := e.q + 1 } := by simp [u]
        obtain ⟨k1, k2⟩ := u.endMix_spec (b := b) false (by rw [hue]; exact hj)
        have he := k1.engine_eq (b := b) (by simp [Engine.gelling])
        rw [State.setEngine_engine, if_pos rfl, hue] at he
        refine ⟨k2, by rw [he]; rfl, fun r hr => ⟨mixRecord (e.q + 1) false r, ?_, rfl, by simp [mixRecord]⟩⟩
        rw [he]
        simp [Engine.gelling, hr, e]
      · rw [State.mixPulse_of_not_mix (by rw [hve]; exact hs), hve, hvplan]
        simp
  · intro m f up down
    have hexec : exec (.encoderCount b i q) s = .next (s.encoder b i q) := by
      have hr : s.running = true := by simp [State.running, hrun]
      show Host.Outcome.next (if s.running = true then _ else _) = _
      rw [if_pos hr]
    have hup : up ↔ encoderDir m.encI m.encQ i q = some .first := (encoderDir_first _ _ _ _).symm
    have hdown : down ↔ encoderDir m.encI m.encQ i q = some .second := (encoderDir_second _ _ _ _).symm
    refine ⟨s.encoder b i q, hexec, fun h1 h2 => ?_, fun h => ?_, fun d pos h => ?_⟩
    · refine State.encoder_still ?_
      cases hd : encoderDir m.encI m.encQ i q with
      | none => rfl
      | some d =>
        cases d
        · exact absurd (hup.2 hd) h1
        · exact absurd (hdown.2 hd) h2
    · rcases h with ⟨hu, hp⟩ | ⟨hd, hp⟩
      · exact State.encoder_end (hup.1 hu) (by rw [countPos, if_neg (Nat.not_lt.2 hp)])
      · exact State.encoder_end (hdown.1 hd) (by rw [countPos, if_neg (by show ¬m.feedPos > 0; omega)])
    · have hcount : s.encoder b i q = ((s.setMotion b { m with encI := i, encQ := q }).moveFeed b pos).feedResponse b d := by
        rcases h with ⟨hu, hp, rfl, rfl⟩ | ⟨hd, hp, rfl, rfl⟩
        · exact State.encoder_counts (hup.1 hu) (by rw [countPos, if_pos hp])
        · exact State.encoder_counts (hdown.1 hd) (by rw [countPos, if_pos hp])
      let u := (s.setMotion b { m with encI := i, encQ := q }).moveFeed b pos
      have hpair : u.pair f = s.pair f := by cases b <;> rfl
      have hcal : u.cal = s.cal := by cases b <;> rfl
      let y := if (s.pair f).dir = some d then (s.pair f).respond (s.cal.response f) none else s.pair f
      have hval : s.encoder b i q = u.setPair f y := by
        rw [hcount, State.feedResponse_eq, hpair, hcal]
      have hy : (u.setPair f y).pair f = y := by rw [State.setPair_pair, if_pos rfl]
      rw [hval, hy]
      refine ⟨?_, ?_, ?_, fun n r hd hc hm => ?_, fun h => ?_⟩
      · cases b <;> rfl
      · cases b <;> rfl
      · simp only [y]
        split
        · exact Pair.respond_eq _ _ _
        · rfl
      · simp only [y, if_pos hd]
        rw [Pair.respond_monitor hm, if_pos hc]
      · simp only [y]
        split
        · next hd =>
          have hc := h.resolve_left (not_not.2 hd)
          rw [Pair.respond, if_neg (by simp [hc])]
        · rfl

end Sys2Proof.Machine
end

section
/-! PROOF. The inserter's strokes (R31, R168 to R170): the legs that end at once, the judging of a stroke, and the strokes that
begin. -/
namespace Sys2Proof.Machine

section
variable {s t u w : State} {b : BoomId} {r : InstRecord}

/-! ## The figures of a stroke -/

/-- R86: what the arbiter does to a boom is the same whatever its engine is overwritten with. -/
theorem FlowEffect.overwrite {x : Engine} (h : FlowEffect (u.setEngine b x) w) (y : Engine) :
    FlowEffect (u.setEngine b y) (w.setEngine b y) := by
  have hb (c : BoomId) : FlowTouches (u.setEngine b y) (w.setEngine b y) c := by
    have k := h.boom c
    by_cases hc : c = b
    · subst hc
      refine ⟨?_, .inl (by simp)⟩
      have k1 := k.1
      rw [State.setEngine_boom, if_pos rfl] at k1
      rw [State.setEngine_boom, if_pos rfl, State.setEngine_boom, if_pos rfl, k1]
      simp
    · unfold FlowTouches at k ⊢
      simp only [State.setEngine_boom, State.setEngine_engine, if_neg hc] at k ⊢
      exact k
  refine ⟨?_, by simpa using h.2.1, hb .A, hb .B⟩
  have h1 := h.1
  cases b
  · exact (congrArg (fun w => w.setEngine .A y) h1).trans rfl
  · exact (congrArg (fun w => w.setEngine .B y) h1).trans rfl

/-- R31, R168: the figures of a stroke: its leg, its tally, its re-strokes, the cartridges completed, and the record. -/
structure Stroke where
  leg : Leg
  tally : Nat
  restrokes : Nat
  completed : Nat
  record : Option InstRecord

/-- R31, R168: the engine in its strokes with the figures `x`. -/
def Engine.stroking (e : Engine) (x : Stroke) : Engine :=
  { e with leg := some x.leg, tally := x.tally, restrokes := x.restrokes, completed := x.completed, record := x.record }

/-- R31, R168: `w` is the state `u` of an engine in INSERT once its strokes have the figures `x`. -/
def StrokeAt (u w : State) (b : BoomId) (x : Stroke) : Prop :=
  (u.engine b).state = .insert ∧ FlowEffect (u.setEngine b ((u.engine b).stroking x)) w

theorem StrokeAt.engine {x : Stroke} (h : StrokeAt u w b x) :
    w.engine b = { (u.engine b).stroking x with armOnGrant := (w.engine b).armOnGrant } := by
  have h2 := h.2.engine_eq (b := b) (by simp [Engine.stroking, h.1])
  rwa [State.setEngine_engine, if_pos rfl] at h2

theorem StrokeAt.closed {x : Stroke} (h : StrokeAt u w b x) (i : SwitchId) : w.closed i = u.closed i :=
  (h.2.closed i).trans (by simp [State.closed])

theorem StrokeAt.of_setEngine {x y : Stroke} (h : StrokeAt u w b x) (a : Bool) :
    StrokeAt u (w.setEngine b { (u.engine b).stroking y with armOnGrant := a }) b y := by
  refine ⟨h.1, FlowEffect.trans ?_ (h.2.overwrite _)⟩
  have := FlowEffect.of_armOnGrant (u.setEngine b ((u.engine b).stroking y)) b a
  rwa [State.setEngine_engine, if_pos rfl, State.setEngine_setEngine] at this

/-- R168: a leg begins. -/
theorem StrokeAt.setLeg {x : Stroke} (h : StrokeAt u w b x) (l : Leg) :
    StrokeAt u (w.setLeg b l) b { x with leg := l } ∧ DrivenAfresh (w.setLeg b l) b := by
  have he : { w.engine b with leg := some l } =
      { (u.engine b).stroking { x with leg := l } with armOnGrant := (w.engine b).armOnGrant } := by
    rw [h.engine]
    rfl
  have hset := h.of_setEngine (y := { x with leg := l }) (w.engine b).armOnGrant
  unfold State.setLeg
  rw [he]
  exact ⟨⟨h.1, hset.2.trans (.of_changeDrive _ b)⟩, State.changeDrive_afresh _ b⟩

/-- R169: another stroke of the same cartridge. -/
theorem StrokeAt.restroke {x : Stroke} (h : StrokeAt u w b x) :
    StrokeAt u (w.setEngine b { w.engine b with restrokes := (w.engine b).restrokes + 1 }) b { x with restrokes := x.restrokes + 1 } := by
  have he : { w.engine b with restrokes := (w.engine b).restrokes + 1 } =
      { (u.engine b).stroking { x with restrokes := x.restrokes + 1 } with armOnGrant := (w.engine b).armOnGrant } := by
    rw [h.engine]
    rfl
  rw [he]
  exact h.of_setEngine _

/-- R169, R170: the record of a completed cartridge. -/
def resinJudged (tally : Nat) (r : InstRecord) : InstRecord :=
  { r with flags := { r.flags with resinExtra := r.flags.resinExtra || decide (2 ≤ tally) } }

theorem State.completeCartridge_eq (w : State) (b : BoomId) :
    w.completeCartridge b = w.setEngine b
      { w.engine b with
        tally := 0, restrokes := 0, completed := (w.engine b).completed + 1
        record := (w.engine b).record.map (resinJudged (w.engine b).tally) } := by
  unfold State.completeCartridge
  dsimp only
  split
  · next ht =>
    have hf : (fun r => { r with flags := r.flags.add .resinExtra }) = resinJudged (w.engine b).tally :=
      funext fun r => by simp [resinJudged, RecordFlags.add, ht]
    simp only [State.flagRecord, State.modRecord, hf, State.setEngine_engine, if_true, State.setEngine_setEngine]
  · next ht =>
    have hf : resinJudged (w.engine b).tally = id :=
      funext fun r => by simp [resinJudged, show ¬2 ≤ (w.engine b).tally from ht]
    simp only [hf, Option.map_id, id]

theorem StrokeAt.complete {x : Stroke} (h : StrokeAt u w b x) :
    StrokeAt u (w.completeCartridge b) b
      { x with tally := 0, restrokes := 0, completed := x.completed + 1, record := x.record.map (resinJudged x.tally) } := by
  have hw := h.engine
  have he : { w.engine b with
        tally := 0, restrokes := 0, completed := (w.engine b).completed + 1
        record := (w.engine b).record.map (resinJudged (w.engine b).tally) } =
      { (u.engine b).stroking
          { x with tally := 0, restrokes := 0, completed := x.completed + 1, record := x.record.map (resinJudged x.tally) } with
        armOnGrant := (w.engine b).armOnGrant } := by
    rw [hw]
    rfl
  rw [State.completeCartridge_eq, he]
  exact h.of_setEngine _

/-! ## One leg after the other -/

section
variable (k : Nat)

theorem State.runStroke_none (h : (w.engine b).leg = none) : State.runStroke k w b = w := by
  cases k with
  | zero => rfl
  | succ k => simp only [State.runStroke, h]

theorem State.runStroke_homing (h : (w.engine b).leg = some .homing) : State.runStroke (k + 1) w b =
    if w.closed (.ihome b) then
      if (w.engine b).completed ≥ w.cartridges b then w.finishInsert b else State.runStroke k (w.setLeg b .advance) b
    else w := by
  simp only [State.runStroke, h]

theorem State.runStroke_advance (h : (w.engine b).leg = some .advance) : State.runStroke (k + 1) w b =
    if w.closed (.iend b) then State.runStroke k (w.setLeg b .back) b else w := by
  simp only [State.runStroke, h]

theorem State.runStroke_back (h : (w.engine b).leg = some .back) : State.runStroke (k + 1) w b =
    if w.closed (.ihome b) then
      if (w.engine b).tally ≥ 1 then
        let v := w.completeCartridge b
        if (v.engine b).completed ≥ v.cartridges b then v.finishInsert b else State.runStroke k (v.setLeg b (v.firstLeg b)) b
      else if (w.engine b).restrokes < 2 then
        let v := w.setEngine b { w.engine b with restrokes := (w.engine b).restrokes + 1 }
        State.runStroke k (v.setLeg b (v.firstLeg b)) b
      else w.enterFaulted b .resinFeed
    else w := by
  simp only [State.runStroke, h]

end

/-- R168: the switch that ends a leg. -/
def Leg.endSwitch (l : Leg) (b : BoomId) : SwitchId :=
  match l with
  | .advance => .iend b
  | .homing | .back => .ihome b

/-- R168: the leg in hand goes on: the switch that ends it stands open. -/
theorem State.runStroke_stays (k : Nat) {l : Leg} (hl : (w.engine b).leg = some l) (h : w.closed (l.endSwitch b) = false) :
    State.runStroke k w b = w := by
  cases k with
  | zero => rfl
  | succ k =>
    cases l with
    | homing => rw [State.runStroke_homing k hl, if_neg (by simp [show w.closed (.ihome b) = false from h])]
    | advance => rw [State.runStroke_advance k hl, if_neg (by simp [show w.closed (.iend b) = false from h])]
    | back => rw [State.runStroke_back k hl, if_neg (by simp [show w.closed (.ihome b) = false from h])]

/-! ## The end of INSERT -/

/-- R31, R32: the last cartridge is completed, and AWAIT_BOLT is entered. -/
theorem State.finishInsert_spec (hr : (s.engine b).record = some r) :
    let t := s.finishInsert b
    EngineMoves b s t ∧ (t.engine b).state = .awaitBolt ∧ AtRest t b ∧ t.raised (.boltNeeded b) = true ∧
      t.engine b =
        { s.engine b with
          state := .awaitBolt, sub := .none, leg := none, resume := none
          record := some { r with passed := some (s.engine b).passed } } := by
  intro t
  let v := (s.modRecord b (fun r => { r with passed := some (s.engine b).passed })).goto b .awaitBolt .none
  have hv : v.engine b =
      { s.engine b with
        state := .awaitBolt, sub := .none, leg := none, resume := none
        record := some { r with passed := some (s.engine b).passed } } := by
    simp [v, State.goto, State.modRecord, hr]
  have ht : t.engine b = v.engine b := (State.raise_engine _ _ b).trans (v.noFlow_engine b)
  exact ⟨.of_finishInsert s b, by rw [ht, hv], (v.noFlow_atRest b).raise _, State.raised_raise _ (by cases b <;> decide), ht.trans hv⟩

/-! ## Both switches closed -/

section
variable {x : Stroke}

theorem StrokeAt.sameFault (h : StrokeAt u w b x) : SameFault b u w := by
  refine (SameFault.of_setEngine ?_).trans (.of_flow h.2)
  rfl

theorem StrokeAt.moves (h : StrokeAt u w b x) : EngineMoves b u w := (EngineMoves.of_setEngine u b _ (by rfl)).then_flow h.2

theorem StrokeAt.cartridges (h : StrokeAt u w b x) : w.cartridges b = (u.engine b).n.getD 0 := by
  rw [State.cartridges, h.engine]
  rfl

theorem StrokeAt.firstLeg (h : StrokeAt u w b x) : w.firstLeg b = if u.closed (.ihome b) then .advance else .homing := by
  rw [State.firstLeg, h.closed]

/-- R169: a stroke without a passage, both switches closed: it is stroked again, twice at most, and then faults. -/
theorem StrokeAt.fails (hend : u.closed (.iend b) = true) (hhome : u.closed (.ihome b) = true) {rec : Option InstRecord} (m : Nat) :
    ∀ (k : Nat) (w : State) (n c : Nat), StrokeAt u w b ⟨.back, 0, n, c, rec⟩ → 2 ≤ n + m → 2 * m < k →
      ∃ v n, StrokeAt u v b ⟨.back, 0, n, c, rec⟩ ∧ State.runStroke k w b = v.enterFaulted b .resinFeed := by
  induction m with
  | zero =>
    intro k w n c h hm hk
    obtain ⟨k, rfl⟩ : ∃ k', k = k' + 1 := ⟨k - 1, by omega⟩
    have he := h.engine
    refine ⟨w, n, h, ?_⟩
    rw [State.runStroke_back k (by rw [he]; rfl), if_pos ((h.closed _).trans hhome), if_neg (by rw [he]; simp [Engine.stroking]),
      if_neg (by rw [he]; simp [Engine.stroking]; omega)]
  | succ m ih =>
    intro k w n c h hm hk
    by_cases hn : 2 ≤ n
    · exact ih k w n c h (by omega) (by omega)
    · obtain ⟨k, rfl⟩ : ∃ k', k = k' + 2 := ⟨k - 2, by omega⟩
      have he := h.engine
      obtain ⟨h2, -⟩ := h.restroke.setLeg .advance
      obtain ⟨h3, -⟩ := h2.setLeg .back
      rw [State.runStroke_back (k + 1) (by rw [he]; rfl), if_pos ((h.closed _).trans hhome),
        if_neg (by rw [he]; simp [Engine.stroking]), if_pos (by rw [he]; simpa [Engine.stroking] using hn)]
      dsimp only
      rw [h.restroke.firstLeg, if_pos hhome, State.runStroke_advance k (by rw [h2.engine]; rfl), if_pos ((h2.closed _).trans hend)]
      exact ih k _ (n + 1) c h3 (by omega) (by omega)

/-- R169, R45: a stroke that fails offers the record. -/
theorem StrokeAt.faulted (h : StrokeAt u w b x) (hx : x.record = some r) :
    FaultEntered u (w.enterFaulted b .resinFeed) b r .resinFeed :=
  (State.enterFaulted_spec .resinFeed (by rw [h.engine]; exact hx)).congr h.sameFault (h.moves.trans (.of_enterFaulted w b _))

/-- R169: what the judging of the strokes comes to, both switches closed, where the record is `r`. -/
def StrokesEnd (u t : State) (b : BoomId) (x : Stroke) (r : InstRecord) : Prop :=
  let last := 1 ≤ x.tally ∧ (u.engine b).n.getD 0 ≤ x.completed + 1
  (last →
    EngineMoves b u t ∧ (t.engine b).state = .awaitBolt ∧ AtRest t b ∧ t.raised (.boltNeeded b) = true ∧
      (t.engine b).record = some { resinJudged x.tally r with passed := some (u.engine b).passed }) ∧
  (¬last → FaultEntered u t b (resinJudged x.tally r) .resinFeed)

theorem StrokeAt.judgedBack {k : Nat} (h : StrokeAt u w b x) (hx : x.record = some r) (hend : u.closed (.iend b) = true)
    (hhome : u.closed (.ihome b) = true) (hl : x.leg = .back) (hk : 6 < k) : StrokesEnd u (State.runStroke k w b) b x r := by
  obtain ⟨leg, tally, restrokes, completed, record⟩ := x
  simp only at hx hl
  subst hx hl
  obtain ⟨k, rfl⟩ : ∃ k', k = k' + 2 := ⟨k - 2, by omega⟩
  have he := h.engine
  by_cases ht : 1 ≤ tally
  · have hv := h.complete
    have hve := hv.engine
    have hval : State.runStroke (k + 2) w b =
        if (w.completeCartridge b).cartridges b ≤ ((w.completeCartridge b).engine b).completed then
          (w.completeCartridge b).finishInsert b
        else State.runStroke (k + 1) ((w.completeCartridge b).setLeg b ((w.completeCartridge b).firstLeg b)) b := by
      rw [State.runStroke_back (k + 1) (by rw [he]; rfl), if_pos ((h.closed _).trans hhome), if_pos (by rw [he]; exact ht)]
    have hcomp : ((w.completeCartridge b).engine b).completed = completed + 1 := by rw [hve]; rfl
    rw [hv.cartridges, hv.firstLeg, if_pos hhome, hcomp] at hval
    have hc : (u.engine b).n.getD 0 ≤ completed + 1 ∨ ¬(u.engine b).n.getD 0 ≤ completed + 1 := em _
    rcases hc with hc | hc
    · rw [hval, if_pos hc]
      obtain ⟨k1, k2, k3, k4, k5⟩ := State.finishInsert_spec (s := w.completeCartridge b) (r := resinJudged tally r) (by rw [hve]; rfl)
      refine ⟨fun _ => ⟨hv.moves.trans k1, k2, k3, k4, ?_⟩, fun hn => absurd ⟨ht, hc⟩ hn⟩
      rw [k5, hve]
      rfl
    · obtain ⟨h2, -⟩ := hv.setLeg .advance
      obtain ⟨h3, -⟩ := h2.setLeg .back
      rw [hval, if_neg hc, State.runStroke_advance k (by rw [h2.engine]; rfl), if_pos ((h2.closed _).trans hend)]
      obtain ⟨v, n, hat, hv⟩ := StrokeAt.fails hend hhome 2 k _ 0 (completed + 1) h3 (by omega) (by omega)
      refine ⟨fun hn => absurd hn.2 hc, fun _ => ?_⟩
      rw [hv]
      exact hat.faulted rfl
  · obtain rfl : tally = 0 := by omega
    have hr : resinJudged 0 r = r := by simp [resinJudged]
    refine ⟨fun hn => absurd hn.1 ht, fun _ => ?_⟩
    obtain ⟨v, n, hat, hv⟩ := StrokeAt.fails hend hhome 2 (k + 2) _ restrokes completed h (by omega) (by omega)
    rw [hr, hv]
    exact hat.faulted rfl

/-- R168, R169: both switches closed, the stroke in hand is judged at once, and those after it see no passage. -/
theorem StrokeAt.judged (h : StrokeAt u w b x) (hx : x.record = some r) (hend : u.closed (.iend b) = true)
    (hhome : u.closed (.ihome b) = true) (hl : x.leg = .homing → x.completed < (u.engine b).n.getD 0) :
    StrokesEnd u (w.strokes b) b x r := by
  have hadvance {v : State} {k : Nat} (hv : StrokeAt u v b { x with leg := .advance }) (hk : 6 < k) :
      StrokesEnd u (State.runStroke (k + 1) v b) b x r := by
    rw [State.runStroke_advance k (by rw [hv.engine]; rfl), if_pos ((hv.closed _).trans hend)]
    exact (hv.setLeg .back).1.judgedBack hx hend hhome rfl hk
  have he := h.engine
  unfold State.strokes
  obtain ⟨leg, tally, restrokes, completed, record⟩ := x
  cases leg with
  | homing =>
    rw [State.runStroke_homing 23 (by rw [he]; rfl), if_pos ((h.closed _).trans hhome),
      if_neg (by rw [h.cartridges, he]; exact Nat.not_le.2 (hl rfl))]
    exact hadvance (h.setLeg .advance).1 (by omega)
  | advance => exact hadvance h (by omega)
  | back => exact h.judgedBack hx hend hhome rfl (by omega)

end

/-! ## The strokes begin -/

/-- R31, R168: the engine as its strokes begin with the leg `l`. -/
def Engine.inserting (e : Engine) (l : Leg) : Engine := { e with state := .insert, sub := .none, leg := some l, resume := none }

/-- R31, R168: the state as the strokes of boom `b` begin, before the arbiter is asked. -/
def State.inserting (s : State) (b : BoomId) : State := s.setEngine b ((s.engine b).inserting (s.firstLeg b))

theorem State.beginStrokes_eq (s : State) (b : BoomId) :
    s.beginStrokes b = ((s.inserting b).beginFlow b (.step .insert)).strokes b := by
  unfold State.beginStrokes State.goto
  dsimp only
  rw [State.setEngine_setEngine, State.setEngine_engine, if_pos rfl]
  rfl

/-- R31, R168: the strokes that begin with a leg that goes on. -/
theorem State.beginStrokes_open (hj : (s.engine b).jog = none) (h : s.closed (.iend b) = false ∨ s.closed (.ihome b) = false) :
    StrokesBegun (s.beginStrokes b) b ∧ FlowEffect (s.inserting b) (s.beginStrokes b) := by
  obtain ⟨hflow, hbegun⟩ := State.beginStep_spec s b (x := (s.engine b).inserting (s.firstLeg b)) (e := .insert) rfl hj
  let w := (s.inserting b).beginFlow b (.step .insert)
  have he : w.engine b = { (s.engine b).inserting (s.firstLeg b) with armOnGrant := (w.engine b).armOnGrant } := by
    have := hflow.engine_eq (b := b) (by simp [Engine.inserting])
    rwa [State.setEngine_engine, if_pos rfl] at this
  have hclosed (i : SwitchId) : w.closed i = s.closed i := (hflow.closed i).trans (by simp [State.closed])
  have hleg : (w.engine b).leg = some (s.firstLeg b) := by rw [he]; rfl
  have hstay : w.strokes b = w := by
    refine State.runStroke_stays 24 hleg ?_
    rw [hclosed]
    cases hh : s.closed (.ihome b) with
    | false =>
      rw [State.firstLeg, if_neg (by simp [hh])]
      exact hh
    | true =>
      rw [State.firstLeg, if_pos hh]
      exact h.resolve_right (by simp [hh])
  rw [State.beginStrokes_eq, hstay]
  refine ⟨⟨hbegun, by rw [he]; rfl, ?_⟩, hflow⟩
  rw [hclosed, hleg]
  rfl

/-- R168, R169: the strokes that begin with both switches closed. -/
theorem State.beginStrokes_judged (hr : (s.engine b).record = some r) (hend : s.closed (.iend b) = true)
    (hhome : s.closed (.ihome b) = true) :
    StrokesEnd (s.inserting b) (s.beginStrokes b) b
      ⟨.advance, (s.engine b).tally, (s.engine b).restrokes, (s.engine b).completed, some r⟩ r := by
  have hleg : s.firstLeg b = .advance := by rw [State.firstLeg, if_pos hhome]
  have hclosed (i : SwitchId) : (s.inserting b).closed i = s.closed i := by simp [State.inserting, State.closed]
  have hat : StrokeAt (s.inserting b) ((s.inserting b).beginFlow b (.step .insert)) b
      ⟨.advance, (s.engine b).tally, (s.engine b).restrokes, (s.engine b).completed, some r⟩ := by
    have hue : (s.inserting b).engine b = (s.engine b).inserting .advance := by simp [State.inserting, hleg]
    have hself : ((s.inserting b).engine b).stroking
        ⟨.advance, (s.engine b).tally, (s.engine b).restrokes, (s.engine b).completed, some r⟩ = (s.inserting b).engine b := by
      rw [hue, ← hr]
      rfl
    refine ⟨by rw [hue]; rfl, ?_⟩
    rw [hself, State.setEngine_self]
    exact .of_beginFlow _ b _
  rw [State.beginStrokes_eq]
  exact hat.judged rfl ((hclosed _).trans hend) ((hclosed _).trans hhome) fun h => by cases h

/-- The figures that a stroke's end is judged with, read off the state before. -/
theorem StrokesEnd.judgedAtOnce {x : Stroke} (h : StrokesEnd u t b x r) (k : SameFault b s u) (hm : EngineMoves b s t)
    (ht : x.tally = (s.engine b).tally) (hc : x.completed = (s.engine b).completed) (hn : (u.engine b).n = (s.engine b).n) :
    JudgedAtOnce s t b r := by
  unfold StrokesEnd at h
  rw [ht, hc, hn, k.passed] at h
  obtain ⟨h1, h2⟩ := h
  refine ⟨fun hl => ?_, fun hl => (h2 hl).congr k hm⟩
  obtain ⟨-, k2, k3, k4, k5⟩ := h1 hl
  exact ⟨hm, k2, fun _ => k3, k4, k5⟩

end

end Sys2Proof.Machine
end

section
/-! PROOF. INSERT (R31, R32, R167): its entry, the strokes that begin as the magazine suffices, and the two supplies that take it
on. -/
namespace Sys2Proof.Machine

/-! ## FAULTED without a record -/

section
variable {s t u : State} {b : BoomId} {r : InstRecord}

theorem State.modRecord_none (f : InstRecord → InstRecord) (hr : (s.engine b).record = none) : s.modRecord b f = s := by
  have h : { s.engine b with record := (s.engine b).record.map f } = s.engine b := by
    generalize s.engine b = e at hr
    obtain ⟨⟩ := e
    simp only at hr
    subst hr
    rfl
  unfold State.modRecord
  rw [h, State.setEngine_self]

theorem State.closeLog_unrecorded (hr : (s.engine b).record = none) :
    s.closeLog b =
      if (s.logger b).voidFound = false ∧ (loggerClosed s b).voidFound = true then
        (s.setLogger b (loggerClosed s b)).raise (.voidFound b)
      else s.setLogger b (loggerClosed s b) := by
  unfold State.closeLog State.putLogger State.flagRecord
  rw [show Logger.closeOpen _ _ _ _ = loggerClosed s b from rfl]
  generalize loggerClosed s b = l
  by_cases h : (s.logger b).voidFound = false ∧ l.voidFound = true
  · rw [if_pos h, if_pos (by simp [h])]
    rw [State.modRecord_none (s := (s.setLogger b l).raise (.voidFound b)) _ (by simpa using hr),
      State.modRecord_none _ (by simpa using hr)]
  · rw [if_neg h, if_neg (by simpa [and_comm] using h)]
    rw [State.modRecord_none _ (by simpa using hr)]

theorem State.offer_unrecorded (hr : (s.engine b).record = none) :
    s.offer b =
      if s.store.records.length < 8 then s
      else ({ s with store := { s.store with room := s.store.room ++ [b] } } : State).raise .storeFull := by
  unfold State.offer
  rw [State.modRecord_none _ hr]
  dsimp only
  rw [State.file, hr]

/-- R45: what an entry to FAULTED does, with a record to offer or without. -/
def FaultStands (s t : State) (b : BoomId) (c : FaultCause) : Prop :=
  (t.engine b).state = .faulted ∧ (t.engine b).lastFault = some c ∧ (t.engine b).causes = {} ∧ t.raised (.jobFault b) = true ∧
    ((s.engine b).jog = none → AtRest t b) ∧ (closingFindsVoid s b → t.raised (.voidFound b) = true)

theorem FaultEntered.stands {c : FaultCause} (h : FaultEntered s t b r c) : FaultStands s t b c := by
  obtain ⟨-, h2, h3, h4, h5, h6, h7, -⟩ := h
  exact ⟨h2, h3, h4, h5, h6, h7⟩

theorem State.faultWritten_stands (s : State) (b : BoomId) (c : FaultCause) :
    let v := s.faultWritten b c
    (v.engine b).state = .faulted ∧ (v.engine b).lastFault = some c ∧ (v.engine b).causes = {} ∧
      v.raised (.jobFault b) = true ∧ ((s.engine b).jog = none → AtRest v b) ∧
      ((s.engine b).record = none → (v.engine b).record = none) := by
  intro v
  have he : v.engine b =
      { (s.engine b).faulted c with
        record := (s.engine b).record.map (faultRecord (s.engine b) (stepLeft (s.engine b)) c s.now) } := by
    have h := congrArg BoomState.engine (s.faultRest_boom b c)
    have h2 : (s.faultRest b c).engine b = (s.engine b).faulted c := h
    simp only [v, State.faultWritten, State.modRecord, State.raise_engine, State.setEngine_engine, if_true, h2]
    rfl
  refine ⟨by rw [he]; rfl, by rw [he]; rfl, by rw [he]; rfl, State.raised_raise _ (by cases b <;> decide), fun h => ?_,
    fun h => by rw [he, h]; rfl⟩
  exact (State.faultRest_atRest (c := c) h).congr (by simp [v, State.faultWritten, State.modRecord]) fun f => by
    simp [v, State.faultWritten, State.modRecord]

theorem State.enterFaulted_stands (s : State) (b : BoomId) (c : FaultCause) : FaultStands s (s.enterFaulted b c) b c := by
  cases hr : (s.engine b).record with
  | some r => exact (State.enterFaulted_spec c hr).stands
  | none =>
    obtain ⟨h1, h2, h3, h4, h5, h6⟩ := s.faultWritten_stands b c
    have hl := s.faultWritten_loggerClosed b c
    have hlog : (s.faultWritten b c).logger b = s.logger b := by rw [State.logger, s.faultWritten_boom b c]; rfl
    have hrec := h6 hr
    generalize hv : s.faultWritten b c = v at h1 h2 h3 h4 h5 hl hlog hrec
    have hoff {w : State} (hw : (w.engine b).state = .faulted ∧ (w.engine b).lastFault = some c ∧ (w.engine b).causes = {} ∧
        w.raised (.jobFault b) = true ∧ ((s.engine b).jog = none → AtRest w b) ∧
        (closingFindsVoid s b → w.raised (.voidFound b) = true)) (hwr : (w.engine b).record = none) :
        FaultStands s (w.offer b) b c := by
      rw [State.offer_unrecorded hwr]
      split
      · exact hw
      · obtain ⟨k1, k2, k3, k4, k5, k6⟩ := hw
        refine ⟨by cases b <;> exact k1, by cases b <;> exact k2, by cases b <;> exact k3, State.raised_of_raised (by exact k4) _,
          fun h => (k5 h).congr rfl fun f => by cases b <;> cases f <;> rfl, fun h => State.raised_of_raised (by exact k6 h) _⟩
    rw [State.enterFaulted_eq, hv]
    by_cases hc : stepLeft (s.engine b) = .collar ∨ stepLeft (s.engine b) = .drill
    · rw [if_pos hc, State.closeLog_unrecorded hrec, hlog, hl]
      by_cases hf : (s.logger b).voidFound = false ∧ (loggerClosed s b).voidFound = true
      · rw [if_pos hf]
        refine hoff ⟨by simpa using h1, by simpa using h2, by simpa using h3, State.raised_of_raised ?_ _,
          fun h => (h5 h).congr (by simp) fun f => by simp, fun _ => State.raised_raise _ (by cases b <;> decide)⟩ (by simpa using hrec)
        cases b <;> exact h4
      · rw [if_neg hf]
        refine hoff ⟨by simpa using h1, by simpa using h2, by simpa using h3, by cases b <;> exact h4,
          fun h => (h5 h).congr (by simp) fun f => by simp, fun h => absurd h.2 hf⟩ (by simpa using hrec)
    · rw [if_neg hc]
      exact hoff ⟨h1, h2, h3, h4, h5, fun h => absurd h.1 hc⟩ hrec

end

section
variable {s t : State} {b : BoomId} {r : InstRecord}

/-! ## The entry of INSERT -/

/-- R31: the magazine does not suffice: the engine awaits resin. -/
theorem State.insertOrWait_wait (h : (s.sensing b).magazine < (s.engine b).n.getD 0) :
    let t := s.insertOrWait b
    t.engine b = { s.engine b with state := .insert, sub := .awaitingResin, leg := none, resume := none } ∧ AtRest t b ∧
      t.raised (.resinNeeded b) = true := by
  intro t
  let v := s.goto b .insert .awaitingResin
  have ht : t = (v.noFlow b).raise (.resinNeeded b) := by
    show s.insertOrWait b = _
    unfold State.insertOrWait
    rw [if_pos (by exact h)]
  rw [ht]
  refine ⟨?_, (v.noFlow_atRest b).raise _, State.raised_raise _ (by cases b <;> decide)⟩
  rw [State.raise_engine, v.noFlow_engine b]
  simp [v, State.goto]

/-- R31: the magazine suffices: the strokes begin. -/
theorem State.insertOrWait_begin (h : (s.engine b).n.getD 0 ≤ (s.sensing b).magazine) : s.insertOrWait b = s.beginStrokes b := by
  unfold State.insertOrWait
  rw [if_neg (by exact Nat.not_lt.2 h)]

/-- R168, R169: the strokes that begin with both switches closed, in a state whose faults offer the same record. -/
theorem State.beginStrokes_judgedAtOnce {u : State} (hr : (u.engine b).record = some r) (hend : u.closed (.iend b) = true)
    (hhome : u.closed (.ihome b) = true) (hs : SameFault b s (u.inserting b)) (hm : EngineMoves b s (u.beginStrokes b))
    (ht : (u.engine b).tally = (s.engine b).tally) (hc : (u.engine b).completed = (s.engine b).completed)
    (hn : (u.engine b).n = (s.engine b).n) : JudgedAtOnce s (u.beginStrokes b) b r :=
  (State.beginStrokes_judged hr hend hhome).judgedAtOnce hs hm ht hc (by simpa [State.inserting, Engine.inserting] using hn)

/-- R31, R168: a step of INSERT, or of RETRACT before it, that begins its strokes offers the same record in a fault. -/
theorem SameFault.inserting (h : faultStep (s.engine b) = .retract) : SameFault b s (s.inserting b) := by
  refine SameFault.of_setEngine ?_
  simp only [Engine.faultFields, h]
  rfl

/-! ## PUSH -/

/-- R32, R33: the engine as it enters PUSH. -/
def Engine.pushing (e : Engine) : Engine := { e with state := .push, sub := .none, leg := none, resume := none, boltLoaded := false }

theorem State.enterPush_spec (s : State) (hj : (s.engine b).jog = none) :
    FlowEffect (s.setEngine b (s.engine b).pushing) (s.enterPush b) ∧ StepBegun (s.enterPush b) b .push 2 := by
  have h : s.enterPush b = (s.setEngine b (s.engine b).pushing).beginFlow b (.step .push) := by
    unfold State.enterPush State.goto
    dsimp only
    rw [State.setEngine_setEngine, State.setEngine_engine, if_pos rfl]
    rfl
  rw [h]
  exact State.beginStep_spec s b rfl hj

end

/-! ## The supplies -/

/-- R167: the boom's magazine holds `m` cartridges. -/
def State.stocked (s : State) (b : BoomId) (m : Nat) : State := s.setSensing b { s.sensing b with magazine := m }

section
variable {s : State} {b : BoomId}

theorem State.stocked_engine (m : Nat) (c : BoomId) : (s.stocked b m).engine c = s.engine c := by simp [State.stocked]

theorem State.stocked_closed (m : Nat) (i : SwitchId) : (s.stocked b m).closed i = s.closed i := by simp [State.stocked, State.closed]

theorem State.loadMagazine_eq (n : Nat) :
    s.loadMagazine b n =
      if (s.engine b).state = .insert ∧ (s.engine b).sub = .awaitingResin ∧
          (s.engine b).n.getD 0 ≤ min ((s.sensing b).magazine + n) 24 then
        (s.stocked b (min ((s.sensing b).magazine + n) 24)).beginStrokes b
      else s.stocked b (min ((s.sensing b).magazine + n) 24) := by
  unfold State.loadMagazine
  rw [← State.stocked]
  simp only [State.cartridges, State.stocked_engine]
  rw [show ((s.stocked b (min ((s.sensing b).magazine + n) 24)).sensing b).magazine = min ((s.sensing b).magazine + n) 24 by
    simp [State.stocked]]

end

/-- Settles O23. -/
theorem loadedSuppliesAdvance : Obligations.LoadedSuppliesAdvance := by
  unfold Obligations.LoadedSuppliesAdvance
  refine ⟨fun q b s h => ?_, fun q n b s h => ?_⟩
  · intro i e
    have hexec := exec_serveBoom b (show exec i s = .next (s.serveBoom q 0x12 [BitVec.ofNat 8 b.num] decideBoltLoaded) from rfl)
    refine ⟨fun he hj => ?_, fun he hr => ?_, fun he hh => ?_⟩
    · obtain ⟨k1, k2⟩ := s.frameTaken.enterPush_spec (b := b) (by simpa using hj)
      have hd : decideBoltLoaded b s.frameTaken = ⟨s.frameTaken.enterPush b, .accepted []⟩ := by
        rw [decideBoltLoaded, if_pos (by simpa using he)]
        rfl
      refine ⟨_, exec_relinked h hexec rfl (by decide) hd (k1.link.trans (by cases b <;> rfl)), k2.relink s.link, ?_⟩
      have := k1.relink s.link
      cases b <;> exact this
    · have hd : decideBoltLoaded b s.frameTaken = ⟨s.frameTaken.setEngine b { e with boltLoaded := true }, .accepted []⟩ := by
        have he' : (s.frameTaken.engine b).state = .hold := by simpa using he
        rw [decideBoltLoaded, if_neg (by rw [he']; decide), if_pos ⟨he', by simpa using hr⟩, State.frameTaken_engine]
        rfl
      rw [exec_relinked h hexec rfl (by decide) hd (by simp)]
      cases b <;> rfl
    · refine exec_of_refuse h hexec rfl (by decide) ?_
      rw [decideBoltLoaded, if_neg (by simpa using he), if_neg (by simpa using hh)]
      rfl
  · intro i m u a e
    have hexec := exec_withBoom b
      (show exec i s = .next (s.serveFixed q 0x16 2 [BitVec.ofNat 8 b.num, n]
        (withBoom _ (decideMagazineLoaded _))) from rfl)
    have hn : n = 0 ↔ n.toNat = 0 := by bv_omega
    have hd (h0 : n ≠ 0) (h1 : n.toNat ≤ 24) :
        decideMagazineLoaded [BitVec.ofNat 8 b.num, n] b s.frameTaken = ⟨s.frameTaken.loadMagazine b n.toNat, a⟩ := by
      rw [decideMagazineLoaded, show byteAt [BitVec.ofNat 8 b.num, n] 1 = n.toNat from rfl, if_neg (show ¬(n.toNat < 1 ∨ n.toNat > 24) by rw [ne_eq, hn] at h0; omega), State.frameTaken_sensing]
      rfl
    let v := s.frameTaken.stocked b (min m 24)
    have hv : v.relink s.link = u := by cases b <;> rfl
    have hve : v.engine b = e := (State.stocked_engine _ b).trans (by simp [e])
    have hvs : v.sensing b = { s.sensing b with magazine := min m 24 } := by simp [v, State.stocked]
    have hvc (i : SwitchId) : v.closed i = s.closed i := (State.stocked_closed _ i).trans (by simp [State.closed])
    have hms : (s.frameTaken.sensing b).magazine + n.toNat = m := by simp [m]
    refine ⟨fun h0 => ?_, fun h0 h1 hc => ?_, fun h0 h1 he hw hc hj => ?_⟩
    · refine exec_of_refuse h hexec rfl (by decide) ?_
      rw [decideMagazineLoaded, show byteAt [BitVec.ofNat 8 b.num, n] 1 = n.toNat from rfl, if_pos (show n.toNat < 1 ∨ n.toNat > 24 by rw [hn] at h0; omega)]
      rfl
    · have hload := (State.loadMagazine_eq (s := s.frameTaken) (b := b) n.toNat).trans (if_neg (by rw [hms]; simpa using hc))
      rw [hms] at hload
      rw [exec_relinked h hexec rfl (by decide) ((hd h0 h1).trans (by rw [hload])) (by simp [State.stocked]), ← hv]
    · have hload := (State.loadMagazine_eq (s := s.frameTaken) (b := b) n.toNat).trans
        (if_pos ⟨by simpa using he, by simpa using hw, by rw [hms]; simpa using hc⟩)
      rw [hms] at hload
      have hd := (hd h0 h1).trans (by rw [hload])
      have hmoves := EngineMoves.of_beginStrokes v b
      have hlink : (v.beginStrokes b).link = s.frameTaken.link := hmoves.link.trans (by simp [v, State.stocked])
      refine ⟨fun hopen => ?_, fun hend hhome r hr => ?_⟩
      · obtain ⟨k1, k2⟩ := State.beginStrokes_open (s := v) (b := b) (by rw [hve]; exact hj) (by simpa only [hvc] using hopen)
        refine ⟨_, exec_relinked h hexec rfl (by decide) hd hlink, k1.relink s.link, ?_⟩
        have k3 := k2.relink s.link
        rw [State.inserting, State.firstLeg, hvc, hve, ← State.relink_setEngine, hv] at k3
        rw [show Engine.inserting e _ = { e with state := e.state, sub := .none, resume := none, leg := _ } by rw [he]; rfl] at k3
        exact k3
      · have k := State.beginStrokes_judgedAtOnce (s := v) (r := r) (by rw [hve]; exact hr) (by rw [hvc]; exact hend)
          (by rw [hvc]; exact hhome)
          (SameFault.inserting (by rw [hve]; simp [faultStep, stepLeft, he])) hmoves rfl rfl rfl
        refine ⟨_, exec_relinked h hexec rfl (by decide) hd hlink, ?_⟩
        have := k.relink s.link
        rwa [hv] at this

end Sys2Proof.Machine
end

section
/-! PROOF. The inserter's switches (R120, R168 to R170): what a qualified change of one of them does to the INS monitor and to the
strokes. -/
namespace Sys2Proof.Machine

section
variable {s t u w : State} {b : BoomId} {r : InstRecord}

/-- R168: the strokes begin to be judged with the figures the engine has. -/
theorem StrokeAt.refl {l : Leg} (hs : (u.engine b).state = .insert) (hl : (u.engine b).leg = some l) :
    StrokeAt u u b ⟨l, (u.engine b).tally, (u.engine b).restrokes, (u.engine b).completed, (u.engine b).record⟩ := by
  have h : (u.engine b).stroking ⟨l, (u.engine b).tally, (u.engine b).restrokes, (u.engine b).completed, (u.engine b).record⟩ =
      u.engine b := by
    unfold Engine.stroking
    rw [← hl]
  exact ⟨hs, by rw [h, State.setEngine_self]; exact .refl u⟩

/-- R120: a motion response of one pair. -/
def Pair.reloaded (x : Pair) (resp : Nat) : Pair :=
  { x with
    monitor := match x.monitor with
      | .armed n r z => .armed (if x.counting = true then resp else n) r z
      | .disarmed => .disarmed }

theorem Pair.respond_reloaded (x : Pair) (resp : Nat) : x.respond resp none = x.reloaded resp := by
  unfold Pair.respond Pair.reloaded
  cases hm : x.monitor with
  | disarmed =>
    obtain ⟨⟩ := x
    simp only at hm
    subst hm
    split <;> rfl
  | armed n r z =>
    split
    · rfl
    · obtain ⟨⟩ := x
      simp only at hm
      subst hm
      rfl

/-- R116, R120: the state in which the inserter's switch `i` of boom `b` has taken its level and the INS monitor has answered. -/
def State.inserterAt (s : State) (b : BoomId) (i : SwitchId) (level : Bool) : State :=
  (s.setSwitch i { line := level, level := level, run := none }).setPair (.boom b .ins)
    ((s.pair (.boom b .ins)).reloaded (s.cal.response (.boom b .ins)))

theorem State.inserterAt_engine (i : SwitchId) (level : Bool) : (s.inserterAt b i level).engine b = s.engine b := by
  simp [State.inserterAt]

theorem State.inserterAt_closed (i j : SwitchId) (level : Bool) :
    (s.inserterAt b i level).closed j = if j = i then level else s.closed j := by
  simp only [State.inserterAt, State.closed, State.setPair_switch, State.setSwitch_switch]
  split <;> rfl

theorem State.inserterAt_flow (i : SwitchId) (level : Bool) :
    FlowEffect (s.setSwitch i { line := level, level := level, run := none }) (s.inserterAt b i level) := .of_setPair _ _ _

theorem State.setSwitch_pair_self (i : SwitchId) (x : SwitchInput) (p : PairId) : (s.setSwitch i x).pair p = s.pair p := by
  rcases i with _ | c | c | c | c | _ <;> (try cases c) <;> rcases p with ⟨_ | _, _ | _ | _⟩ | _ <;> rfl

theorem State.qualify_inserter {i : SwitchId} (hi : i = .iend b ∨ i = .ihome b) :
    s.qualify i =
      if s.closed i then s.inserterAt b i false else (s.inserterAt b i true).inserterClosed b := by
  have hval (level : Bool) : (s.setSwitch i { line := level, level := level, run := none }).switchChanged i level =
      if level then (s.inserterAt b i level).inserterClosed b else s.inserterAt b i level := by
    have hc : (s.setSwitch i { line := level, level := level, run := none }).switchChanged i level =
        (s.setSwitch i { line := level, level := level, run := none }).inserterChanged b level := by
      rcases hi with rfl | rfl <;> rfl
    rw [hc, State.inserterChanged, State.respond, Pair.respond_reloaded, State.setSwitch_pair_self, State.setSwitch_cal]
    rfl
  unfold State.qualify
  dsimp only
  rw [hval]
  unfold State.closed
  cases (s.switch i).level <;> rfl

theorem State.inserterClosed_strokes (h : (s.engine b).state = .insert) : s.inserterClosed b = s.strokes b := if_pos h

theorem State.inserterClosed_else (h : (s.engine b).state ≠ .insert) : s.inserterClosed b = s := if_neg h

/-- R168: no stroke is in hand, or its leg goes on. -/
theorem State.inserterClosed_stays (h : ∀ l, (s.engine b).leg = some l → s.closed (l.endSwitch b) = false) : s.inserterClosed b = s := by
  unfold State.inserterClosed State.strokes
  split
  · cases hl : (s.engine b).leg with
    | none => exact State.runStroke_none 24 hl
    | some l => exact State.runStroke_stays 24 hl (h l hl)
  · rfl

/-- R168, R169: a switch closes that leaves only one leg to end. -/
theorem State.strokes_turn {x : Stroke} {l : Leg} (h : StrokeAt u w b x) (k : Nat) (hl : u.closed (l.endSwitch b) = false) :
    ∃ t, State.runStroke k (w.setLeg b l) b = t ∧ DrivenAfresh t b ∧ StrokeAt u t b { x with leg := l } := by
  obtain ⟨h1, h2⟩ := h.setLeg l
  exact ⟨_, State.runStroke_stays k (by rw [h1.engine]; rfl) ((h1.closed _).trans hl), h2, h1⟩

end

/-- Settles O31. -/
theorem inserterStrokesJudged : Obligations.InserterStrokesJudged := by
  unfold Obligations.InserterStrokesJudged
  have hexec (i : SwitchId) (s : State) (hrun : s.phase = .running) : exec (.switchQualifiedChange i) s = .next (s.qualify i) := by
    show Host.Outcome.next (s.whenRunning _) = _
    rw [State.whenRunning_of_running hrun]
  have hclose {b : BoomId} {i : SwitchId} {s : State} (hrun : s.phase = .running) (hi : i = .iend b ∨ i = .ihome b)
      (hc : s.closed i = false) :
      exec (.switchQualifiedChange i) s = .next ((s.inserterAt b i true).inserterClosed b) := by
    rw [hexec i s hrun, State.qualify_inserter hi, if_neg (by simp [hc])]
  refine ⟨fun b i s hrun hi => ?_, fun b s r hrun hst hsub hr hj => ?_⟩
  · intro x leg u
    have hu (level : Bool) (hl : s.closed i = !level) : s.inserterAt b i level = u := by
      simp only [State.inserterAt, u, x, hl, Bool.not_not]
      rfl
    refine ⟨fun hc => ?_, fun hc h => ?_⟩
    · rw [hexec i s hrun, State.qualify_inserter hi, if_pos hc, hu false (by simp [hc])]
    · rw [hclose hrun hi hc, ← hu true (by simp [hc])]
      have he := State.inserterAt_engine (s := s) (b := b) i true
      congr 1
      rcases h with h | h | ⟨rfl, h, ho⟩ | ⟨rfl, h, ho⟩
      · exact State.inserterClosed_else (by rwa [he])
      · exact State.inserterClosed_stays fun l hl => by rw [he, show (s.engine b).leg = none from h] at hl; cases hl
      · refine State.inserterClosed_stays fun l hl => ?_
        rw [he] at hl
        rw [State.inserterAt_closed]
        cases l with
        | advance => exact absurd hl h
        | homing => exact (if_neg (by simp [Leg.endSwitch])).trans ho
        | back => exact (if_neg (by simp [Leg.endSwitch])).trans ho
      · refine State.inserterClosed_stays fun l hl => ?_
        rw [he, show (s.engine b).leg = some .advance from h] at hl
        cases hl
        rw [State.inserterAt_closed]
        exact (if_neg (by simp [Leg.endSwitch])).trans ho
  · intro e n
    have hstroke {i : SwitchId} (hi : i = .iend b ∨ i = .ihome b) (hc : s.closed i = false) :
        exec (.switchQualifiedChange i) s = .next ((s.inserterAt b i true).strokes b) := by
      rw [hclose hrun hi hc, State.inserterClosed_strokes (by rw [State.inserterAt_engine]; exact hst)]
    have hat (i : SwitchId) {l : Leg} (hl : e.leg = some l) :
        StrokeAt (s.inserterAt b i true) (s.inserterAt b i true) b ⟨l, e.tally, e.restrokes, e.completed, some r⟩ := by
      have he := State.inserterAt_engine (s := s) (b := b) i true
      have := StrokeAt.refl (u := s.inserterAt b i true) (b := b) (by rw [he]; exact hst) (by rw [he]; exact hl)
      rwa [he, hr] at this
    refine ⟨fun hl hend hhome => ?_, fun hhome hend => ?_, fun hl hn hhome => ?_, fun i leg hl hlast hi hc => ?_⟩
    · let u := s.inserterAt b (.iend b) true
      have hleg : (u.engine b).leg = some .advance := by rw [State.inserterAt_engine]; exact hl
      have hc : u.closed (.iend b) = true := by simp [u, State.inserterAt_closed]
      obtain ⟨t, k1, k2, k3⟩ := State.strokes_turn (l := .back) (hat (.iend b) hl) 23 (by simp [State.inserterAt_closed, Leg.endSwitch, hhome])
      refine ⟨t, ?_, k2, ?_⟩
      · rw [hstroke (.inl rfl) hend, State.strokes, State.runStroke_advance 23 hleg, if_pos hc, k1]
      · rw [k3.engine, State.inserterAt_engine]
        exact congrArg (fun x => { e with leg := some .back, record := x, armOnGrant := (t.engine b).armOnGrant }) hr.symm
    · let u := s.inserterAt b (.ihome b) true
      have he : u.engine b = e := State.inserterAt_engine _ _
      have hc : u.closed (.ihome b) = true := by simp [u, State.inserterAt_closed]
      have ho : u.closed (.iend b) = false := by simp [u, State.inserterAt_closed, hend]
      have hopen : u.closed (Leg.advance.endSwitch b) = false := ho
      refine ⟨u.strokes b, hstroke (.inr rfl) hhome, fun hl hn => ?_, fun hl ht => ?_, fun hl ht hs => ?_, fun hl ht hs => ?_⟩
      · obtain ⟨t, k1, k2, k3⟩ := State.strokes_turn (hat (.ihome b) hl) 23 hopen
        have hval : u.strokes b = t := by
          rw [State.strokes, State.runStroke_homing 23 (by rw [he]; exact hl), if_pos hc, if_neg ?_, k1]
          rw [State.cartridges, he]
          exact Nat.not_le.2 hn
        rw [hval]
        refine ⟨k2, ?_⟩
        rw [k3.engine, he]
        exact congrArg (fun x => { e with leg := some .advance, record := x, armOnGrant := (t.engine b).armOnGrant }) hr.symm
      · have hv := (hat (.ihome b) hl).complete
        have hve := hv.engine
        let v := u.completeCartridge b
        have hcart : v.cartridges b = n := by rw [hv.cartridges, he]
        have hcomp : (v.engine b).completed = e.completed + 1 := by rw [hve]; rfl
        have hval : u.strokes b =
            if n ≤ e.completed + 1 then v.finishInsert b else State.runStroke 23 (v.setLeg b .advance) b := by
          rw [State.strokes, State.runStroke_back 23 (by rw [he]; exact hl), if_pos hc, if_pos (by rw [he]; exact ht)]
          dsimp only
          rw [show u.completeCartridge b = v from rfl, hcart, hcomp, hv.firstLeg, if_pos hc]
        have hextra : (resinJudged e.tally r).flags.resinExtra = (r.flags.resinExtra || decide (2 ≤ e.tally)) := rfl
        by_cases hn : n ≤ e.completed + 1
        · rw [hval, if_pos hn]
          obtain ⟨k1, k2, k3, k4, k5⟩ := State.finishInsert_spec (s := v) (b := b) (r := resinJudged e.tally r) (by rw [hve]; rfl)
          have hpassed : (v.engine b).passed = e.passed := by rw [hve, he]; rfl
          refine ⟨⟨{ resinJudged e.tally r with passed := some (v.engine b).passed }, by rw [k5], hextra, ?_⟩, by rw [k5]; exact hcomp,
            by rw [k5, hve]; rfl, by rw [k5, hve]; rfl, by rw [k5]; exact hpassed, fun h => by omega, fun _ => ⟨k2, k3, k4⟩⟩
          rw [if_pos hn, ← hpassed]
        · rw [hval, if_neg hn]
          obtain ⟨t, k1, k2, k3⟩ := State.strokes_turn hv 23 hopen
          rw [k1]
          have hte := k3.engine
          refine ⟨⟨resinJudged e.tally r, by rw [hte]; rfl, hextra, by rw [if_neg hn]; rfl⟩, by rw [hte]; rfl, by rw [hte]; rfl,
            by rw [hte]; rfl, by rw [hte, he]; rfl, fun _ => ⟨?_, by rw [hte]; rfl, k2⟩, fun h => absurd h hn⟩
          rw [hte, he]
          exact hst
      · have hv := (hat (.ihome b) hl).restroke
        let v := u.setEngine b { u.engine b with restrokes := (u.engine b).restrokes + 1 }
        obtain ⟨t, k1, k2, k3⟩ := State.strokes_turn hv 23 hopen
        have hval : u.strokes b = t := by
          rw [State.strokes, State.runStroke_back 23 (by rw [he]; exact hl), if_pos hc, if_neg (by rw [he, ht]; decide),
            if_pos (by rw [he]; exact hs)]
          dsimp only
          rw [hv.firstLeg, if_pos hc, k1]
        rw [hval]
        refine ⟨k2, ?_⟩
        rw [k3.engine, he]
        exact congrArg (fun x => { e with leg := some .advance, restrokes := e.restrokes + 1, record := x, armOnGrant := (t.engine b).armOnGrant }) hr.symm
      · have hval : u.strokes b = u.enterFaulted b .resinFeed := by
          rw [State.strokes, State.runStroke_back 23 (by rw [he]; exact hl), if_pos hc, if_neg (by rw [he, ht]; decide),
            if_neg (by rw [he]; exact Nat.not_lt.2 hs)]
        rw [hval]
        have hflow := State.inserterAt_flow (s := s) (b := b) (.ihome b) true
        exact (State.enterFaulted_spec .resinFeed (by rw [he]; exact hr)).congr (.of_flow hflow)
          ((EngineMoves.of_flow hflow b).trans (.of_enterFaulted _ b _))
    · let u := s.inserterAt b (.ihome b) true
      have he : u.engine b = e := State.inserterAt_engine _ _
      have hc : u.closed (.ihome b) = true := by simp [u, State.inserterAt_closed]
      obtain ⟨k1, k2, k3, k4, k5⟩ := State.finishInsert_spec (s := u) (b := b) (r := r) (by rw [he]; exact hr)
      refine ⟨u.finishInsert b, ?_, k2, k3, k4, by rw [k5, he]⟩
      rw [hstroke (.inr rfl) hhome, State.strokes, State.runStroke_homing 23 (by rw [State.inserterAt_engine]; exact hl), if_pos hc,
        if_pos ?_]
      rw [State.cartridges, State.inserterAt_engine]
      exact hn
    · have hi' : i = .iend b ∨ i = .ihome b := hi.imp (·.1) (·.1)
      let u := s.inserterAt b i true
      have he : u.engine b = e := State.inserterAt_engine _ _
      have hboth : u.closed (.iend b) = true ∧ u.closed (.ihome b) = true := by
        rcases hi with ⟨rfl, h⟩ | ⟨rfl, h⟩ <;> simp [u, State.inserterAt_closed, h]
      have hflow := State.inserterAt_flow (s := s) (b := b) i true
      refine ⟨u.strokes b, hstroke hi' hc, ?_⟩
      have hse : (s.setSwitch i { line := true, level := true, run := none }).engine b = e := by simp [e]
      exact ((hat i hl).judged rfl hboth.1 hboth.2 fun h => by rw [he]; exact hlast h).judgedAtOnce (.of_flow hflow)
        ((EngineMoves.of_flow hflow b).trans (.of_strokes _ b)) (by rw [hse]) (by rw [hse]) (by rw [hse, he])

end Sys2Proof.Machine
end

section
/-! PROOF. The feed home switch (R135, R30, R39, R29): what its closing ends. -/
namespace Sys2Proof.Machine

section
variable {s t u : State} {b : BoomId}

/-- R168, R169: with both switches closed, strokes that begin before any passage fail, whether there is a record or not. -/
theorem State.beginStrokes_fails (ht : (s.engine b).tally = 0) (hend : s.closed (.iend b) = true) (hhome : s.closed (.ihome b) = true) :
    ∃ v n, StrokeAt (s.inserting b) v b ⟨.back, 0, n, (s.engine b).completed, (s.engine b).record⟩ ∧
      s.beginStrokes b = v.enterFaulted b .resinFeed := by
  have hleg : s.firstLeg b = .advance := by rw [State.firstLeg, if_pos hhome]
  have hclosed (i : SwitchId) : (s.inserting b).closed i = s.closed i := by simp [State.inserting, State.closed]
  have hue : (s.inserting b).engine b = (s.engine b).inserting .advance := by simp [State.inserting, hleg]
  let w := (s.inserting b).beginFlow b (.step .insert)
  have hat : StrokeAt (s.inserting b) w b ⟨.advance, 0, (s.engine b).restrokes, (s.engine b).completed, (s.engine b).record⟩ := by
    have k := StrokeAt.refl (u := s.inserting b) (b := b) (l := .advance) (by rw [hue]; rfl) (by rw [hue]; rfl)
    rw [hue, show ((s.engine b).inserting .advance).tally = 0 from ht] at k
    exact ⟨k.1, k.2.trans (.of_beginFlow _ b _)⟩
  rw [State.beginStrokes_eq, State.strokes, State.runStroke_advance 23 (by rw [hat.engine]; rfl),
    if_pos ((hat.closed _).trans ((hclosed _).trans hend))]
  exact StrokeAt.fails ((hclosed _).trans hend) ((hclosed _).trans hhome) 2 23 _ _ _ (hat.setLeg .back).1 (by omega) (by omega)


/-- R31: the engine as it enters INSERT, its figures at 0. -/
def Engine.unstroked (e : Engine) : Engine := { e with tally := 0, restrokes := 0, completed := 0, passed := 0 }

/-- R31: the entry of INSERT, unless both switches of the inserter end its strokes at once. -/
theorem State.enterInsert_entered (hj : (s.engine b).jog = none)
    (h : (s.sensing b).magazine < (s.engine b).n.getD 0 ∨ s.closed (.iend b) = false ∨ s.closed (.ihome b) = false) :
    (∃ sub leg a, (s.enterInsert b).engine b =
        { (s.engine b).unstroked with state := .insert, sub := sub, leg := leg, resume := none, armOnGrant := a }) ∧
      (s.enterInsert b).logger b = s.logger b ∧
      ((s.engine b).n.getD 0 ≤ (s.sensing b).magazine → StrokesBegun (s.enterInsert b) b) := by
  let u := s.setEngine b (s.engine b).unstroked
  have hu : u.engine b = (s.engine b).unstroked := by simp [u]
  have hm : u.sensing b = s.sensing b := by simp [u]
  have hc (i : SwitchId) : u.closed i = s.closed i := by simp [u, State.closed]
  have hl : u.logger b = s.logger b := by simp [u]
  rw [show s.enterInsert b = u.insertOrWait b from rfl]
  rcases Nat.lt_or_ge (s.sensing b).magazine ((s.engine b).n.getD 0) with hn | hn
  · have hn' : (u.sensing b).magazine < (u.engine b).n.getD 0 := by rw [hu, hm]; exact hn
    obtain ⟨k1, -, -⟩ := State.insertOrWait_wait hn'
    refine ⟨⟨.awaitingResin, none, (s.engine b).armOnGrant, by rw [k1, hu]; rfl⟩, ?_, fun k => absurd hn (Nat.not_lt.2 k)⟩
    unfold State.insertOrWait
    rw [if_pos (by exact hn'), State.raise_logger, (FlowEffect.of_noFlow _ b).logger b, State.goto, State.setEngine_logger, hl]
  · rw [State.insertOrWait_begin (by rw [hu, hm]; exact hn)]
    obtain ⟨k1, k2⟩ := State.beginStrokes_open (s := u) (b := b) (by rw [hu]; exact hj)
      (by rw [hc, hc]; exact h.resolve_left (Nat.not_lt.2 hn))
    have hi : (u.inserting b).engine b = (s.engine b).unstroked.inserting (u.firstLeg b) := by simp [State.inserting, hu]
    refine ⟨⟨.none, some (u.firstLeg b), ((u.beginStrokes b).engine b).armOnGrant, ?_⟩, ?_, fun _ => k1⟩
    · rw [k2.engine_eq (by rw [hi]; simp [Engine.inserting]), hi]
      rfl
    · rw [k2.logger b, State.inserting, State.setEngine_logger, hl]

/-- R30, R31: the entry of INSERT out of RETRACT, by the magazine and the inserter's switches. -/
theorem State.enterInsert_spec (hs : (s.engine b).state = .retract) (hj : (s.engine b).jog = none) :
    let t := s.enterInsert b
    let e := s.engine b
    EngineEffect b s t ∧
      ((s.sensing b).magazine < e.n.getD 0 ∨ s.closed (.iend b) = false ∨ s.closed (.ihome b) = false →
        (t.engine b).tally = 0 ∧ (t.engine b).restrokes = 0 ∧ (t.engine b).completed = 0 ∧ (t.engine b).passed = 0) ∧
      ((s.sensing b).magazine < e.n.getD 0 →
        (t.engine b).state = .insert ∧ (t.engine b).sub = .awaitingResin ∧ AtRest t b ∧ t.raised (.resinNeeded b) = true) ∧
      (e.n.getD 0 ≤ (s.sensing b).magazine → s.closed (.iend b) = false ∨ s.closed (.ihome b) = false → StrokesBegun t b) ∧
      (e.n.getD 0 ≤ (s.sensing b).magazine → s.closed (.iend b) = true → s.closed (.ihome b) = true →
        (t.engine b).state = .faulted ∧ (t.engine b).lastFault = some .resinFeed ∧ AtRest t b ∧ t.raised (.jobFault b) = true ∧
          ∀ r, e.record = some r → FaultEntered (s.setEngine b { e with passed := 0 }) t b r .resinFeed) := by
  intro t e
  let u := s.setEngine b e.unstroked
  have hu : u.engine b = e.unstroked := by simp [u]
  have hm : u.sensing b = s.sensing b := by simp [u]
  have hc (i : SwitchId) : u.closed i = s.closed i := by simp [u, State.closed]
  have ht : t = u.insertOrWait b := rfl
  refine ⟨(EngineMoves.of_enterInsert s b).effect (.inl (by rw [hs]; rfl)), fun h => ?_, fun hn => ?_,
    fun hn h => (State.enterInsert_entered hj (.inr h)).2.2 hn, fun hn hend hhome => ?_⟩
  · obtain ⟨⟨sub, leg, a, k⟩, -⟩ := State.enterInsert_entered hj h
    rw [show t = s.enterInsert b from rfl, k]
    exact ⟨rfl, rfl, rfl, rfl⟩
  · obtain ⟨k1, k2, k3⟩ := State.insertOrWait_wait (s := u) (b := b) (by rw [hu, hm]; exact hn)
    exact ⟨by rw [ht, k1], by rw [ht, k1], k2, k3⟩
  · have hbegin : t = u.beginStrokes b := ht.trans (State.insertOrWait_begin (by rw [hu, hm]; exact hn))
    obtain ⟨v, n, hat, hv⟩ := State.beginStrokes_fails (s := u) (b := b) (by rw [hu]; rfl) ((hc _).trans hend) ((hc _).trans hhome)
    rw [hbegin, hv]
    obtain ⟨k1, k2, -, k4, k5, -⟩ := v.enterFaulted_stands b .resinFeed
    have hvj : (v.engine b).jog = none := by
      rw [hat.engine]
      simp [State.inserting, hu]
      exact hj
    refine ⟨k1, k2, k5 hvj, k4, fun r hr => ?_⟩
    let z := s.setEngine b { e with passed := 0 }
    have hz : z.engine b = { e with passed := 0 } := by simp [z]
    have hi : u.inserting b = z.setEngine b (e.unstroked.inserting (u.firstLeg b)) := by
      simp only [State.inserting, hu, u, z, State.setEngine_setEngine]
    have hf := hat.faulted (r := r) (by rw [hu]; exact hr)
    have hmoves := hat.moves.trans (.of_enterFaulted v b .resinFeed)
    rw [hi] at hf hmoves
    refine hf.congr (SameFault.of_setEngine ?_) ((EngineMoves.of_setEngine z b _ (by rw [hz]; rfl)).trans hmoves)
    have hleft : faultStep e = .retract := by simp [faultStep, stepLeft, e, hs]
    rw [hz, Engine.faultFields, Engine.faultFields, show faultStep { e with passed := 0 } = .retract from hleft]
    rfl

theorem State.homeClosed_retract (h : (s.engine b).state = .retract) : s.homeClosed b = s.enterInsert b := by
  unfold State.homeClosed
  simp only [h]

theorem State.homeClosed_release (h : (s.engine b).state = .release) : s.homeClosed b = s.enterFiling b := by
  unfold State.homeClosed
  simp only [h]

theorem State.homeClosed_backoff (h : (s.engine b).state = .collar ∨ (s.engine b).state = .drill) (hs : (s.engine b).sub = .backoff) :
    s.homeClosed b = s.endBackoff b := by
  unfold State.homeClosed
  rcases h with h | h <;> simp only [h, hs]

theorem State.homeClosed_else (h1 : (s.engine b).state ≠ .retract) (h2 : (s.engine b).state ≠ .release)
    (h3 : ¬(((s.engine b).state = .collar ∨ (s.engine b).state = .drill) ∧ (s.engine b).sub = .backoff)) : s.homeClosed b = s := by
  unfold State.homeClosed
  split
  · next h => exact absurd h h1
  · next h => exact absurd h h2
  · next h hs => exact absurd ⟨.inl h, hs⟩ h3
  · next h hs => exact absurd ⟨.inr h, hs⟩ h3
  · rfl

end

/-- Settles O30. -/
theorem homeSwitchEndsSteps : Obligations.HomeSwitchEndsSteps := by
  unfold Obligations.HomeSwitchEndsSteps
  intro b s hrun e lv u
  have hexec : exec (.switchQualifiedChange (.home b)) s = .next (s.qualify (.home b)) := by
    show Host.Outcome.next (s.whenRunning _) = _
    rw [State.whenRunning_of_running hrun]
  have hval : s.qualify (.home b) = (lv (!s.closed (.home b))).homeChanged b (!s.closed (.home b)) := rfl
  refine ⟨fun h => ?_, fun h => ⟨u.homeClosed b, ?_, fun he hj => ?_, fun r he hr => ?_, fun he hs => ?_, fun h1 h2 h3 => ?_⟩⟩
  · rw [hexec, hval, h]
    rfl
  · rw [hexec, hval, h, State.homeChanged, Bool.not_false, if_pos rfl, State.moveFeed, State.setSwitch_motion, State.setSwitch_scan]
  all_goals
    have hu : u.engine b = e := by cases b <;> rfl
    have hm : u.sensing b = s.sensing b := by cases b <;> rfl
    have hc : u.closed (.iend b) = s.closed (.iend b) ∧ u.closed (.ihome b) = s.closed (.ihome b) := by cases b <;> exact ⟨rfl, rfl⟩
  · rw [State.homeClosed_retract (by rw [hu]; exact he)]
    have := State.enterInsert_spec (s := u) (b := b) (by rw [hu]; exact he) (by rw [hu]; exact hj)
    rwa [hu, hm, hc.1, hc.2] at this
  · rw [State.homeClosed_release (by rw [hu]; exact he)]
    exact State.enterFiling_spec (by rw [hu]; exact hr)
  · rw [State.homeClosed_backoff (by rw [hu]; exact he) (by rw [hu]; exact hs)]
    have := State.changeSub_spec u b { e with sub := if e.state = .collar then .cut else .none, retries := e.retries + 1 }
    rw [show u.endBackoff b = _ from rfl, State.endBackoff, hu]
    exact this
  · exact State.homeClosed_else (by rwa [hu]) (by rwa [hu]) (by rwa [hu])

end Sys2Proof.Machine
end

section
/-! PROOF. The end of DRILL (R30, R61, R69 to R72): the log is closed, the charge sized and the record written, and RETRACT, or INSERT,
begins. -/
namespace Sys2Proof.Machine

section
variable {s t u : State} {b : BoomId} {r : InstRecord} {e : Event}

/-! ## What an event that stands survives -/

theorem State.modRecord_raised (f : InstRecord → InstRecord) : (s.modRecord b f).raised e = s.raised e := by cases b <;> rfl

theorem State.closeLog_raised (h : s.raised e = true) : (s.closeLog b).raised e = true := by
  cases hr : (s.engine b).record with
  | some r => exact (State.closeLog_spec hr).2.2.2.1 e h
  | none =>
    rw [State.closeLog_unrecorded hr]
    split
    · exact State.raised_of_raised (by cases b <;> exact h) _
    · cases b <;> exact h

theorem State.offer_raised (h : s.raised e = true) : (s.offer b).raised e = true := by
  cases hr : (s.engine b).record with
  | some r => exact (State.offer_frame hr).2.2 e h
  | none =>
    rw [State.offer_unrecorded hr]
    split
    · exact h
    · exact State.raised_of_raised (by exact h) _

theorem State.enterFaulted_raised (c : FaultCause) (h : s.raised e = true) : (s.enterFaulted b c).raised e = true := by
  have hw : (s.faultWritten b c).raised e = true := by
    refine State.raised_of_raised ?_ _
    rw [State.modRecord_raised, (s.faultRest_flow b c).raised]
    cases b <;> exact h
  rw [State.enterFaulted_eq]
  refine State.offer_raised ?_
  split
  · exact State.closeLog_raised hw
  · exact hw

/-- R31: the entry of INSERT withdraws no event. -/
theorem State.enterInsert_raised (hj : (s.engine b).jog = none) (h : s.raised e = true) : (s.enterInsert b).raised e = true := by
  let u := s.setEngine b (s.engine b).unstroked
  have hu : u.raised e = true := by cases b <;> exact h
  have huj : (u.engine b).jog = none := by simp [u]; exact hj
  have hui : (u.inserting b).raised e = true := by cases b <;> exact h
  rw [show s.enterInsert b = u.insertOrWait b from rfl]
  rcases Nat.lt_or_ge (u.sensing b).magazine ((u.engine b).n.getD 0) with hn | hn
  · unfold State.insertOrWait
    rw [if_pos (by exact hn)]
    refine State.raised_of_raised ?_ _
    rw [(FlowEffect.of_noFlow _ b).raised]
    cases b <;> exact h
  · rw [State.insertOrWait_begin hn]
    by_cases hc : u.closed (.iend b) = true ∧ u.closed (.ihome b) = true
    · obtain ⟨v, n, hat, hv⟩ := State.beginStrokes_fails (s := u) (b := b) (by simp [u]; rfl) hc.1 hc.2
      rw [hv]
      refine State.enterFaulted_raised _ ?_
      rw [hat.2.raised]
      cases b <;> exact h
    · rw [(State.beginStrokes_open huj (by simpa [Decidable.imp_iff_not_or] using hc)).2.raised]
      exact hui

/-! ## The record of a drilled hole -/

/-- R30, R71: the engine at the end of DRILL, with `n` cartridges assigned. -/
def Engine.drilled (e : Engine) (n : Nat) (r : InstRecord) : Engine :=
  { e with n := some n, completed := 0, tally := 0, restrokes := 0, passed := 0, record := some r }

/-- R69: the logger that measured the bond zone of the closed log `l`. -/
def State.holeDrilled (s : State) (b : BoomId) (l : Logger) (n : Nat) (r : InstRecord) : State :=
  s.setBoom b { s.boom b with engine := (s.engine b).drilled n r, logger := l }

/-- R68: the record once the logger has found, or not found, the first void of the bond zone. -/
def InstRecord.voided (r : InstRecord) (found : Bool) : InstRecord :=
  { r with flags := { r.flags with voidInBond := r.flags.voidInBond || found } }

/-- R68: the state in which boom `b` stores the logger `l`, the record marked where that finds the first void. -/
def State.logged (s : State) (b : BoomId) (l : Logger) (r : InstRecord) (found : Bool) : State :=
  s.setBoom b { s.boom b with engine := { s.engine b with record := some (r.voided found) }, logger := l }

theorem State.putLogger_eq (hr : (s.engine b).record = some r) (l : Logger) :
    s.putLogger b l =
      if l.voidFound && !(s.logger b).voidFound then (s.logged b l r true).raise (.voidFound b) else s.logged b l r false := by
  unfold State.putLogger
  dsimp only
  split
  · have he : ((s.setLogger b l).raise (.voidFound b)).engine b = s.engine b := by simp
    have hv : r.voided true = { r with flags := { r.flags with voidInBond := true } } := by simp [InstRecord.voided]
    simp only [State.flagRecord, State.modRecord, he, hr, Option.map_some, State.logged, hv]
    cases b <;> rfl
  · have hv : r.voided false = r := by simp [InstRecord.voided]
    rw [State.logged, hv, ← hr]
    cases b <;> rfl

/-- R30, R69 to R72: the record of the hole that is drilled. -/
def InstRecord.sized (r : InstRecord) (l : Logger) (c : Nat × Bool) (now : Timestamp) : InstRecord :=
  { r with
    drillEnd := some now, finalDepth := l.h, assigned := some c.1, voidMm := l.voidMm, softMm := l.softMm, hard := l.hard
    log := l.log
    flags := { r.flags with underResin := r.flags.underResin || c.2 } }

theorem State.sized_eq {v : State} {l : Logger} (hr : (v.engine b).record = some r) (c : Nat × Bool) (now : Timestamp) :
    (let s2 := (v.setLogger b l).setEngine b { v.engine b with n := some c.1, completed := 0, tally := 0, restrokes := 0, passed := 0 }
     let s3 := s2.modRecord b (fun r =>
      { r with drillEnd := some now, finalDepth := l.h, assigned := some c.1, voidMm := l.voidMm, softMm := l.softMm,
               hard := l.hard, log := l.log })
     if c.2 then s3.flagRecord b .underResin else s3) =
      v.holeDrilled b l c.1 (r.sized l c now) := by
  obtain ⟨n, short⟩ := c
  dsimp only
  simp only [State.flagRecord, State.modRecord, State.setEngine_engine, if_true, State.setEngine_setEngine, hr, Option.map_some]
  cases short with
  | true =>
    rw [if_pos rfl]
    simp only [State.holeDrilled, InstRecord.sized, Bool.or_true]
    cases b <;> rfl
  | false =>
    rw [if_neg (by decide)]
    simp only [State.holeDrilled, InstRecord.sized, Bool.or_false]
    cases b <;> rfl

theorem State.enterRetract_eq (hr : (s.engine b).record = some r) :
    let l := loggerClosed s b
    let p := s.activePlan b
    let m := l.measured p
    let c := cartridgeCount p (s.activeValues b).base (requiredFill p m.voidMm m.softMm)
    let found := l.voidFound && !(s.logger b).voidFound
    let x := s.holeDrilled b m c.1 ((r.voided found).sized m c s.now)
    s.enterRetract b = (if found then x.raise (.voidFound b) else x).beginRetract b := by
  intro l p m c found x
  have hlogged (f : Bool) : ((s.logged b l r f).logger b) = l ∧ (s.logged b l r f).engine b = { s.engine b with record := some (r.voided f) } := by
    cases b <;> exact ⟨rfl, rfl⟩
  have hval {v : State} (hv : s.putLogger b l = v) (hl : v.logger b = l) {r' : InstRecord} (he : (v.engine b).record = some r') :
      s.enterRetract b = (v.holeDrilled b m c.1 (r'.sized m c s.now)).beginRetract b := by
    rw [← State.sized_eq he c s.now]
    unfold State.enterRetract
    dsimp only
    rw [show s.putLogger b (Logger.closeOpen _ _ _ _) = v from hv, hl]
  have hput := State.putLogger_eq hr l
  by_cases hf : found = true
  · rw [if_pos hf] at hput
    have hrec : (((s.logged b l r true).raise (.voidFound b)).engine b).record = some (r.voided true) := by
      rw [State.raise_engine, (hlogged true).2]
    rw [hval hput (by rw [State.raise_logger, (hlogged true).1]) hrec, if_pos hf]
    simp only [x, hf]
    cases b <;> rfl
  · rw [if_neg hf] at hput
    rw [hval hput (hlogged false).1 (by rw [(hlogged false).2]), if_neg hf]
    simp only [x, Bool.not_eq_true] at hf ⊢
    simp only [hf]
    cases b <;> rfl


/-! ## RETRACT -/

/-- R30: the engine as it enters RETRACT. -/
def Engine.retracting (e : Engine) : Engine := { e with state := .retract, sub := .none, leg := none, resume := none }

/-- R30: RETRACT as it begins, before the home switch is looked at. -/
def State.retracting (s : State) (b : BoomId) : State := (s.setEngine b (s.engine b).retracting).beginFlow b (.step .retract)

theorem State.retracting_spec (hj : (s.engine b).jog = none) :
    FlowEffect (s.setEngine b (s.engine b).retracting) (s.retracting b) ∧ StepBegun (s.retracting b) b .retract 4 ∧
      (s.retracting b).engine b = { (s.engine b).retracting with armOnGrant := ((s.retracting b).engine b).armOnGrant } ∧
      s.beginRetract b = if s.closed (.home b) then (s.retracting b).enterInsert b else s.retracting b := by
  obtain ⟨k1, k2⟩ := State.beginStep_spec s b (x := (s.engine b).retracting) (e := .retract) rfl hj
  refine ⟨k1, k2, ?_, ?_⟩
  · have := k1.engine_eq (b := b) (by simp [Engine.retracting])
    rwa [State.setEngine_engine, if_pos rfl] at this
  · rw [← show (s.retracting b).closed (.home b) = s.closed (.home b) from (k1.closed _).trans (by simp [State.closed])]
    rfl

/-- R61: a fault out of RETRACT or INSERT does not look at the logger. -/
theorem FaultEntered.congr_logger {c : FaultCause} {l : Logger} (h : FaultEntered u t b r c) (k : SameFault b (s.setLogger b l) u)
    (hs : faultStep (s.engine b) = .retract) (hm : EngineMoves b s t) : FaultEntered s t b r c := by
  have hclose : ¬closesLog s b := by
    obtain ⟨-, -, h3, h4, -⟩ := faultStep_iff (s.engine b)
    rw [hs] at h3 h4
    exact fun hc => hc.elim (fun k => by simpa using h3.1 k) (fun k => by simpa using h4.1 k)
  have hback : (s.setLogger b l).setLogger b (s.logger b) = s := by cases b <;> rfl
  have hmoves : EngineMoves b (s.setLogger b l) t := by
    have := EngineMoves.of_setLogger (s.setLogger b l) b (s.logger b)
    rw [hback] at this
    exact this.trans hm
  obtain ⟨h1, h2, h3, h4, h5, h6, -, x, h8, h9⟩ := h.congr k hmoves
  have he : (s.setLogger b l).engine b = s.engine b := by simp
  rw [he] at h6
  refine ⟨hm.effect (.inr (by rw [h2]; rfl)), h2, h3, h4, h5, h6, fun hv => absurd hv.1 hclose, x, ?_,
    h9.congr (by simp) (by simp) (by simp)⟩
  have hclose' : ¬closesLog (s.setLogger b l) b := by rwa [closesLog, he]
  obtain ⟨k1, -, k3, -, k5⟩ := h8
  rw [he, State.setLogger_now] at k1
  exact ⟨k1, fun hc => absurd hc hclose, fun _ => k3 hclose', fun hv => absurd hv.1 hclose, fun _ => k5 fun hv => hclose' hv.1⟩

theorem SameFault.of_raise (s : State) (e : Event) : SameFault b s (s.raise e) := by constructor <;> simp

/-- R30: the hole is drilled, the record written and the void told. -/
theorem State.holeDrilled_spec (l : Logger) (n : Nat) (r : InstRecord) (found : Bool) :
    let x := if found then (s.holeDrilled b l n r).raise (.voidFound b) else s.holeDrilled b l n r
    x.engine b = (s.engine b).drilled n r ∧ x.logger b = l ∧ x.sensing b = s.sensing b ∧ (∀ i, x.closed i = s.closed i) ∧
      (found = true → x.raised (.voidFound b) = true) ∧
      ∀ y, y.faultFields = ((s.engine b).drilled n r).retracting.faultFields →
        SameFault b ((s.setEngine b y).setLogger b l) (x.setEngine b (x.engine b).retracting) := by
  have hc (i : SwitchId) : (s.holeDrilled b l n r).closed i = s.closed i := by
    unfold State.closed
    rcases i with _ | c | c | c | c | _ <;> (try cases c) <;> cases b <;> rfl
  have hf (y : Engine) (hy : y.faultFields = ((s.engine b).drilled n r).retracting.faultFields) :
      SameFault b ((s.setEngine b y).setLogger b l)
        ((s.holeDrilled b l n r).setEngine b ((s.engine b).drilled n r).retracting) := by
    simp only [Engine.faultFields, Prod.mk.injEq] at hy
    obtain ⟨h1, h2, h3, h4, h5, h6, h7⟩ := hy
    have e1 : ((s.setEngine b y).setLogger b l).engine b = y := by simp
    have e2 (v : State) (x : Engine) : (v.setEngine b x).engine b = x := by simp
    refine ⟨?_, ?_, ?_, ?_, ?_, ?_, ?_, ?_, ?_, ?_, ?_, ?_, ?_⟩
    iterate 6 cases b <;> rfl
    all_goals rw [e1, e2]
    exacts [h1.symm, fun hj => h2.symm.trans hj, h3.symm, h4.symm, h5.symm, h6.symm, h7.symm]
  have he : (s.holeDrilled b l n r).engine b = (s.engine b).drilled n r := by cases b <;> rfl
  cases found with
  | true =>
    dsimp only
    rw [if_pos rfl]
    refine ⟨by rw [State.raise_engine, he], by cases b <;> rfl, by cases b <;> rfl, fun i => ?_,
      fun _ => State.raised_raise _ (by cases b <;> decide), fun y hy => ?_⟩
    · rw [← hc i]
      simp [State.closed]
    · have hr : ((s.holeDrilled b l n r).raise (.voidFound b)).setEngine b ((s.engine b).drilled n r).retracting =
          ((s.holeDrilled b l n r).setEngine b ((s.engine b).drilled n r).retracting).raise (.voidFound b) := by cases b <;> rfl
      rw [State.raise_engine, he, hr]
      exact (hf y hy).trans (.of_raise _ _)
  | false =>
    dsimp only
    rw [if_neg (by decide)]
    refine ⟨he, by cases b <;> rfl, by cases b <;> rfl, hc, (nomatch ·), fun y hy => ?_⟩
    rw [he]
    exact hf y hy

end

/-- Settles O26. -/
theorem drillScanEndsOrStalls : Obligations.DrillScanEndsOrStalls := by
  unfold Obligations.DrillScanEndsOrStalls
  intro b s z d r hst hz hd hj hr e p v t
  have hscan : t = s.scanDrill b := State.engineScan_drill hst
  have hdepth : s.scanDepth b = d := by simp only [State.scanDepth, hz, hd]
  refine ⟨fun h => ?_, fun h hs => ?_, fun h hs => ?_⟩
  · intro l zone void soft c sized
    let found := l.voidFound && !(s.logger b).voidFound
    let x := s.holeDrilled b (l.measured p) c.1 sized
    let u := if found then x.raise (.voidFound b) else x
    obtain ⟨ue, ul, um, uc, uv, uf⟩ := State.holeDrilled_spec (s := s) (b := b) (l.measured p) c.1 sized found
    have ht : t = u.beginRetract b := by
      rw [hscan, State.scanDrill, hdepth, if_pos h]
      exact State.enterRetract_eq hr
    have huj : (u.engine b).jog = none := by rw [ue]; exact hj
    obtain ⟨w1, w2, w3, w4⟩ := State.retracting_spec huj
    let w := u.retracting b
    rw [ue] at w3
    have hwm : w.sensing b = s.sensing b := (w1.sensing b).trans (by rw [State.setEngine_sensing, um])
    have hwc (i : SwitchId) : w.closed i = s.closed i := by
      rw [w1.closed i, ← uc i, State.closed, State.setEngine_switch]
      rfl
    have hwn : (w.engine b).n = some c.1 := by rw [w3]; rfl
    have hwl : w.logger b = l.measured p := (w1.logger b).trans (by rw [State.setEngine_logger, ul])
    have hwj : (w.engine b).jog = none := by rw [w3]; exact hj
    have hopen (hh : s.closed (.home b) = false) : t = w := by rw [ht, w4, uc, hh]; rfl
    have hclosed (hh : s.closed (.home b) = true) : t = w.enterInsert b := by rw [ht, w4, uc, hh]; rfl
    obtain ⟨-, -, k3, k4, k5⟩ := State.enterInsert_spec (s := w) (b := b) w2.1 hwj
    rw [hwn, hwm, hwc, hwc] at k4 k5
    rw [hwn, hwm] at k3
    have hmoves : EngineMoves b s t := by
      rw [hscan]
      exact .of_scanDrill s b
    refine ⟨hmoves.effect (.inl (by rw [hst]; rfl)), fun hh => by rw [hopen hh]; exact w2, fun hh hn => by rw [hclosed hh]; exact k3 hn,
      fun hh hn ho => by rw [hclosed hh]; exact k4 hn ho, fun hh hn hi ho => ?_, fun h1 h0 => ?_, fun ho => ?_⟩
    · rw [hclosed hh]
      have hf := (k5 hn hi ho).2.2.2.2 sized (by rw [w3]; rfl)
      let y : Engine := { e with state := .insert, passed := 0 }
      have hye : (s.setEngine b y).engine b = y := by simp
      have hback : (s.setEngine b y).setEngine b e = s := by rw [State.setEngine_setEngine, State.setEngine_self]
      have hys : EngineMoves b (s.setEngine b y) s := by
        have := EngineMoves.of_setEngine (s.setEngine b y) b e (by rw [hye])
        rwa [hback] at this
      refine hf.congr_logger (l := l.measured p) (((uf y ?_).trans (.of_flow w1)).trans (SameFault.of_setEngine ?_)) ?_ ?_
      · rfl
      · rw [w3]
        rfl
      · rw [hye]
        rfl
      · exact hys.trans (hclosed hh ▸ hmoves)
    · have huv : u.raised (.voidFound b) = true := uv (by simp [found, h1, h0])
      have hwv : w.raised (.voidFound b) = true := by
        rw [w1.raised]
        cases b <;> exact huv
      cases hh : s.closed (.home b) with
      | false => rw [hopen hh]; exact hwv
      | true => rw [hclosed hh]; exact State.enterInsert_raised hwj hwv
    · cases hh : s.closed (.home b) with
      | false =>
        rw [hopen hh]
        exact ⟨hwn, by rw [w3]; rfl, by rw [w3]; rfl, by rw [hwl]; rfl, by rw [w3]; rfl⟩
      | true =>
        rw [hclosed hh]
        obtain ⟨⟨sub, leg, a, he⟩, hl, -⟩ := State.enterInsert_entered (s := w) (b := b) hwj
          (by rw [hwn, hwm, hwc, hwc]; exact ho.resolve_left (by simp [hh]))
        rw [he, w3, hl, hwl]
        exact ⟨rfl, rfl, rfl, rfl, rfl⟩
  · have hback : t = s.scanBackoff b := by
      rw [hscan, State.scanDrill, hdepth, if_neg (Int.not_le.2 h), if_pos hs]
    rw [hback]
    have := s.scanBackoff_spec b
    dsimp only at this
    rwa [if_neg (show ¬(s.engine b).state = .collar by rw [hst]; decide)] at this
  · have hval : t = if (p.jam : Int) ≤ (s.analog (rotChannel b)).filt then s.stall b (s.motion b).scanPos else s := by
      rw [hscan, State.scanDrill, hdepth, if_neg (Int.not_le.2 h), if_neg hs]
    refine ⟨fun hn => by rw [hval, if_neg (Int.not_le.2 hn)], fun hn => ?_⟩
    rw [hval, if_pos hn]
    obtain ⟨k1, k2⟩ := s.stall_spec b (s.motion b).scanPos r
    refine ⟨k1, fun hn => ?_⟩
    have := k2 hn hr
    rwa [hst] at this

end Sys2Proof.Machine
end

section
/-! PROOF. RESUME (R44): the state in which the step is taken up again, and what every step entered keeps of it. -/
namespace Sys2Proof.Machine

section
variable {s t u : State} {b : BoomId} {x : Engine}

/-! ## Jog and hold causes -/

/-- R44, R45: the engine's jog is as it was, and its hold causes are as they were or empty. -/
def SameRest (b : BoomId) (s t : State) : Prop :=
  (t.engine b).jog = (s.engine b).jog ∧ ((t.engine b).causes = (s.engine b).causes ∨ (t.engine b).causes = {})

namespace SameRest

theorem trans (h : SameRest b s t) (k : SameRest b t u) : SameRest b s u :=
  ⟨k.1.trans h.1, k.2.elim (fun hc => h.2.imp hc.trans hc.trans) .inr⟩

theorem of_eq (h : t.engine b = s.engine b) : SameRest b s t := ⟨by rw [h], .inl (by rw [h])⟩

theorem of_setEngine (hj : x.jog = (s.engine b).jog) (hc : x.causes = (s.engine b).causes ∨ x.causes = {}) :
    SameRest b s (s.setEngine b x) := by
  unfold SameRest
  rw [State.setEngine_engine, if_pos rfl]
  exact ⟨hj, hc⟩

theorem of_flow (h : FlowEffect s t) : SameRest b s t :=
  ⟨congrArg (·.jog) (h.engine b), .inl (congrArg (·.causes) (h.engine b))⟩

theorem of_modRecord (s : State) (f : InstRecord → InstRecord) : SameRest b s (s.modRecord b f) := of_setEngine (by rfl) (.inl (by rfl))

theorem of_goto (s : State) (st : EngineState) (sub : SubCond) : SameRest b s (s.goto b st sub) := of_setEngine (by rfl) (.inl (by rfl))

theorem of_raise (s : State) (e : Event) : SameRest b s (s.raise e) := of_eq (by simp)

theorem of_begin (s : State) (hj : x.jog = (s.engine b).jog) (hc : x.causes = (s.engine b).causes) (p : Purpose) :
    SameRest b s ((s.setEngine b x).beginFlow b p) := (of_setEngine hj (.inl hc)).trans (of_flow (.of_beginFlow _ b p))

theorem of_filed (s : State) (o : Option JobOutcome) : SameRest b s (s.filed b o) := by
  by_cases h : (s.engine b).state = .filing
  · rw [State.filed_filing o h]
    exact ⟨by cases b <;> rfl, .inl (by cases b <;> rfl)⟩
  · rw [State.filed_elsewhere o h]
    exact ⟨by cases b <;> rfl, .inl (by cases b <;> rfl)⟩

theorem of_offer (s : State) : SameRest b s (s.offer b) := by
  refine (of_modRecord s fun r => { r with retries := (s.engine b).retries }).trans ?_
  unfold State.offer
  dsimp only
  split
  · unfold State.file
    split
    · exact of_eq rfl
    · refine SameRest.trans (SameRest.trans ?_ (of_raise _ _)) (of_filed _ _)
      exact of_eq (by cases b <;> rfl)
  · refine SameRest.trans ?_ (of_raise _ _)
    exact of_eq (by cases b <;> rfl)

theorem of_enterFiling (s : State) : SameRest b s (s.enterFiling b) :=
  (((of_goto s _ _).trans (of_flow (.of_noFlow _ b))).trans (of_modRecord _ _)).trans (of_offer _)

theorem of_closeLog (s : State) : SameRest b s (s.closeLog b) := by
  refine SameRest.trans ?_ (of_modRecord _ _)
  unfold State.putLogger
  dsimp only
  split
  · exact ((of_eq (by simp)).trans (of_raise _ _)).trans (of_modRecord _ _)
  · exact of_eq (by simp)

theorem of_enterFaulted (s : State) (c : FaultCause) : SameRest b s (s.enterFaulted b c) := by
  have h : SameRest b s (s.faultWritten b c) := by
    refine SameRest.trans ?_ ((of_modRecord _ _).trans (of_raise _ _))
    exact SameRest.trans (of_setEngine (by rfl) (.inr (by rfl))) (of_flow (s.faultRest_flow b c))
  rw [State.enterFaulted_eq]
  refine SameRest.trans ?_ (of_offer _)
  split
  · exact h.trans (of_closeLog _)
  · exact h

theorem of_enterAwaitBolt (s : State) : SameRest b s (s.enterAwaitBolt b) :=
  ((of_goto s _ _).trans (of_flow (.of_noFlow _ b))).trans (of_raise _ _)

theorem of_finishInsert (s : State) : SameRest b s (s.finishInsert b) := (of_modRecord s _).trans (of_enterAwaitBolt _)

theorem of_setLeg (s : State) (l : Leg) : SameRest b s (s.setLeg b l) :=
  (of_setEngine (by rfl) (.inl (by rfl))).trans (of_flow (.of_changeDrive _ b))

theorem of_completeCartridge (s : State) : SameRest b s (s.completeCartridge b) := by
  rw [State.completeCartridge_eq]
  exact of_setEngine (by rfl) (.inl (by rfl))

theorem of_runStroke (k : Nat) (s : State) : SameRest b s (State.runStroke k s b) := by
  induction k generalizing s with
  | zero => exact of_eq rfl
  | succ k ih =>
    cases hl : (s.engine b).leg with
    | none => rw [State.runStroke_none _ hl]; exact of_eq rfl
    | some l =>
      cases l with
      | homing =>
        rw [State.runStroke_homing k hl]
        split
        · split
          · exact of_finishInsert s
          · exact (of_setLeg s _).trans (ih _)
        · exact of_eq rfl
      | advance =>
        rw [State.runStroke_advance k hl]
        split
        · exact (of_setLeg s _).trans (ih _)
        · exact of_eq rfl
      | back =>
        rw [State.runStroke_back k hl]
        dsimp only
        split
        · split
          · refine (of_completeCartridge s).trans ?_
            split
            · exact of_finishInsert _
            · exact (of_setLeg _ _).trans (ih _)
          · split
            · exact (SameRest.of_setEngine (by rfl) (.inl (by rfl))).trans ((of_setLeg _ _).trans (ih _))
            · exact of_enterFaulted s _
        · exact of_eq rfl

theorem of_beginStrokes (s : State) : SameRest b s (s.beginStrokes b) := by
  rw [State.beginStrokes_eq]
  exact (of_begin s (by rfl) (by rfl) _).trans (of_runStroke _ _)

theorem of_insertOrWait (s : State) : SameRest b s (s.insertOrWait b) := by
  unfold State.insertOrWait
  split
  · exact ((of_goto s _ _).trans (of_flow (.of_noFlow _ b))).trans (of_raise _ _)
  · exact of_beginStrokes s

theorem of_enterInsert (s : State) : SameRest b s (s.enterInsert b) :=
  (of_setEngine (by rfl) (.inl (by rfl))).trans (of_insertOrWait _)

theorem of_beginRetract (s : State) : SameRest b s (s.beginRetract b) := by
  have h : SameRest b s (s.retracting b) := of_begin s (by rfl) (by rfl) _
  unfold State.beginRetract
  dsimp only
  split
  · exact h.trans (of_enterInsert _)
  · exact h

theorem of_enterRelease (s : State) : SameRest b s (s.enterRelease b) := by
  have h : SameRest b s ((s.goto b .release .none).beginFlow b (.step .release)) := of_begin s (by rfl) (by rfl) _
  unfold State.enterRelease
  dsimp only
  split
  · exact h.trans (of_enterFiling _)
  · exact h

theorem of_enterTorque (s : State) : SameRest b s (s.enterTorque b) :=
  ((of_goto s _ _).trans (of_setEngine (by rfl) (.inl (by rfl)))).trans (of_flow (.of_beginFlow _ b _))

theorem of_enterPush (s : State) : SameRest b s (s.enterPush b) :=
  ((of_goto s _ _).trans (of_setEngine (by rfl) (.inl (by rfl)))).trans (of_flow (.of_beginFlow _ b _))

theorem of_resumeGel (s : State) : SameRest b s (s.resumeGel b) := by
  unfold State.resumeGel State.windowTest
  dsimp only
  split
  · exact of_begin s (by rfl) (by rfl) _
  · split
    · exact of_enterTorque s
    · exact (of_modRecord s _).trans (of_enterRelease _)

theorem of_mixEnded (s : State) (short : Bool) : SameRest b s (s.mixEnded b short) := by
  rw [State.mixEnded_eq]
  exact of_setEngine (by rfl) (.inl (by rfl))

theorem of_resumeMix (s : State) : SameRest b s (s.resumeMix b) := by
  unfold State.resumeMix
  dsimp only
  split
  · exact (of_mixEnded s _).trans (of_resumeGel _)
  · split
    · exact of_begin s (by rfl) (by rfl) _
    · exact (of_mixEnded s _).trans (of_resumeGel _)

end SameRest

end

end Sys2Proof.Machine
end

section
/-! PROOF. The step that RESUME enters (R44). -/
namespace Sys2Proof.Machine

section
variable {s t u : State} {b : BoomId} {r : InstRecord} {st : EngineState}

/-! ## The state in which the step is taken up again -/

/-- R44: the engine without its jog and its hold causes. -/
def Engine.resumed (e : Engine) : Engine := { e with jog := none, causes := {} }

/-- R44: the jog is ended and the hold causes are empty. -/
def State.resumed (s : State) (b : BoomId) : State :=
  (s.dropJog b).setEngine b { (s.dropJog b).engine b with causes := {} }

theorem State.resumed_eq (s : State) (b : BoomId) :
    s.resumed b = s.setBoom b { s.boom b with engine := (s.engine b).resumed, pairs := ((s.resumed b).boom b).pairs } := by
  have h := s.dropJog_eq b
  unfold State.resumed
  generalize s.dropJog b = v at h ⊢
  generalize (v.boom b).pairs = x at h
  subst h
  cases b <;> rfl

theorem State.resumed_engine (s : State) (b : BoomId) : (s.resumed b).engine b = (s.engine b).resumed := by
  rw [State.resumed_eq]
  cases b <;> rfl

theorem State.resumed_sensing (s : State) (b : BoomId) : (s.resumed b).sensing b = s.sensing b := by
  rw [State.resumed_eq]
  cases b <;> rfl

theorem State.resumed_closed (s : State) (b : BoomId) (i : SwitchId) : (s.resumed b).closed i = s.closed i := by
  rw [State.resumed_eq]
  generalize ((s.resumed b).boom b).pairs = x
  unfold State.closed
  rcases i with _ | c | c | c | c | _ <;> (try cases c) <;> cases b <;> rfl

theorem State.resumed_activePlan (s : State) (b : BoomId) : (s.resumed b).activePlan b = s.activePlan b := by
  rw [State.resumed_eq]
  cases b <;> rfl

theorem EngineMoves.of_resumed (s : State) (b : BoomId) : EngineMoves b s (s.resumed b) :=
  (EngineMoves.of_dropJog s b).trans (.of_setEngine _ b _ (by rfl))

/-- R44: what a fault reads of the state in which the step is taken up again, whatever the step makes of the engine. -/
theorem SameFault.of_resumed {x y : Engine} (hl : faultStep x = faultStep y) (hj : y.jog = none)
    (h : (x.resinRunning, x.retries, x.q, x.highest, x.passed) = (y.resinRunning, y.retries, y.q, y.highest, y.passed)) :
    SameFault b (s.setEngine b x) ((s.resumed b).setEngine b y) := by
  have e1 (v : State) (x : Engine) : (v.setEngine b x).engine b = x := by simp
  simp only [Prod.mk.injEq] at h
  obtain ⟨h1, h2, h3, h4, h5⟩ := h
  refine ⟨?_, ?_, ?_, ?_, ?_, ?_, ?_, ?_, ?_, ?_, ?_, ?_, ?_⟩
  iterate 6
    rw [State.resumed_eq]
    cases b <;> rfl
  all_goals rw [e1, e1]
  exacts [hl.symm, fun _ => hj, h1.symm, h2.symm, h3.symm, h4.symm, h5.symm]

/-- What an act of the engine may touch is the same whatever the engine was before. -/
theorem EngineMoves.from_setEngine (h : EngineMoves b s t) {x : Engine} (hx : x.restricted = (s.engine b).restricted) :
    EngineMoves b (s.setEngine b x) t := by
  have k := EngineMoves.of_setEngine (s.setEngine b x) b (s.engine b) (by simp [hx])
  rw [State.setEngine_setEngine, State.setEngine_self] at k
  exact k.trans h

theorem State.resume_eq (h : (s.engine b).resume = some st) : s.resume b = (s.resumed b).resumeStep b st := by
  unfold State.resume
  rw [h]
  rfl

/-- R44, R169: the interrupted stroke saw a passage, which completes a cartridge. -/
def Engine.passed? (e : Engine) : Bool := decide (1 ≤ e.tally ∧ e.completed < e.n.getD 0)

/-- R44, R169: the engine once the interrupted stroke is settled. -/
def Engine.settled (e : Engine) : Engine :=
  { e with
    tally := if e.passed? then 0 else e.tally
    restrokes := if e.passed? then 0 else e.restrokes
    completed := if e.passed? then e.completed + 1 else e.completed
    record := if e.passed? then e.record.map (resinJudged e.tally) else e.record }

/-- R44, R168: INSERT is taken up again: awaiting resin, with the last cartridge completed, or with its strokes. -/
theorem State.resumeInsert_eq (h : (s.engine b).sub ≠ .awaitingResin) :
    s.resumeInsert b =
      (let v := s.setEngine b (s.engine b).settled
      if (s.engine b).n.getD 0 ≤ (s.engine b).settled.completed ∧ s.closed (.ihome b) = true then
        (v.goto b .insert .none).finishInsert b
      else v.beginStrokes b) := by
  have hset : (if (s.engine b).tally ≥ 1 ∧ (s.engine b).completed < s.cartridges b then s.completeCartridge b else s) =
      s.setEngine b (s.engine b).settled := by
    unfold Engine.settled Engine.passed?
    by_cases hp : 1 ≤ (s.engine b).tally ∧ (s.engine b).completed < (s.engine b).n.getD 0
    · rw [if_pos (by exact hp), State.completeCartridge_eq]
      simp only [decide_eq_true hp, if_true]
    · rw [if_neg (by exact hp)]
      simp only [decide_eq_false hp]
      exact (State.setEngine_self s b).symm
  let v := s.setEngine b (s.engine b).settled
  have hv : (v.goto b .insert .none).engine b = { (s.engine b).settled with state := .insert, sub := .none, leg := none, resume := none } := by
    simp [v, State.goto]
  have hc (i : SwitchId) : (v.goto b .insert .none).closed i = s.closed i := by simp [v, State.goto, State.closed]
  have hcv (i : SwitchId) : v.closed i = s.closed i := by simp [v, State.closed]
  have hbegin (l : Leg) (hl : v.firstLeg b = l) :
      (v.goto b .insert .none).setEngine b { (v.goto b .insert .none).engine b with leg := some l } = v.inserting b := by
    rw [hv, State.goto, State.setEngine_setEngine, State.inserting, hl]
    simp [v, Engine.inserting]
  have hcomp : ((v.goto b .insert .none).engine b).completed = (s.engine b).settled.completed := by rw [hv]
  have hcart : (v.goto b .insert .none).cartridges b = (s.engine b).n.getD 0 := by rw [State.cartridges, hv]; rfl
  unfold State.resumeInsert
  rw [if_neg h]
  dsimp only
  rw [hset]
  by_cases hn : (s.engine b).n.getD 0 ≤ (s.engine b).settled.completed
  · rw [if_pos (show (v.goto b .insert .none).cartridges b ≤ ((v.goto b .insert .none).engine b).completed by rw [hcomp, hcart]; exact hn)]
    cases hh : s.closed (.ihome b) with
    | true => rw [if_pos ((hc _).trans hh), if_pos ⟨hn, rfl⟩]
    | false =>
      have hl : v.firstLeg b = .homing := by rw [State.firstLeg, hcv, hh]; rfl
      rw [if_neg (show ¬(v.goto b .insert .none).closed (.ihome b) = true by rw [hc, hh]; decide), if_neg (fun k => by simpa using k.2),
        hbegin .homing hl, State.beginStrokes_eq]
      refine (State.runStroke_stays (l := .homing) 24 ?_ ?_).symm
      · rw [(FlowEffect.of_beginFlow (v.inserting b) b _).engine_eq (by simp [State.inserting, Engine.inserting])]
        simp [State.inserting, Engine.inserting, hl]
      · rw [(FlowEffect.of_beginFlow (v.inserting b) b _).closed]
        rw [← hh, ← hcv]
        simp [State.inserting, State.closed, Leg.endSwitch]
  · rw [if_neg (show ¬(v.goto b .insert .none).cartridges b ≤ ((v.goto b .insert .none).engine b).completed by rw [hcomp, hcart]; exact hn),
      if_neg (fun k => hn k.1), State.beginStrokes_eq]
    rw [hbegin _ (by rw [State.firstLeg, State.firstLeg, hc, hcv])]

theorem SameRest.of_resumeInsert (s : State) : SameRest b s (s.resumeInsert b) := by
  by_cases h : (s.engine b).sub = .awaitingResin
  · unfold State.resumeInsert
    rw [if_pos h]
    exact of_insertOrWait s
  · rw [State.resumeInsert_eq h]
    dsimp only
    refine SameRest.trans (t := s.setEngine b (s.engine b).settled) (of_setEngine (by rfl) (.inl (by rfl))) ?_
    split
    · exact (of_goto _ _ _).trans (of_finishInsert _)
    · exact of_beginStrokes _

theorem SameRest.of_resumeStep (s : State) (st : EngineState) : SameRest b s (s.resumeStep b st) := by
  unfold State.resumeStep
  split
  · exact of_begin s (by rfl) (by rfl) _
  · exact of_begin s (by rfl) (by rfl) _
  · exact of_beginRetract s
  · exact of_resumeInsert s
  · split
    · exact of_enterPush s
    · exact of_enterAwaitBolt s
  · exact of_enterPush s
  · exact of_resumeMix s
  · exact of_resumeGel s
  · exact (SameRest.of_setEngine (by rfl) (.inl (by rfl))).trans (of_begin _ (by rfl) (by rfl) _)
  · exact of_enterRelease s
  · exact of_eq rfl

theorem State.resumed_rest (s : State) (b : BoomId) (st : EngineState) :
    (((s.resumed b).resumeStep b st).engine b).jog = none ∧ (((s.resumed b).resumeStep b st).engine b).causes = {} := by
  obtain ⟨h1, h2⟩ := SameRest.of_resumeStep (b := b) (s.resumed b) st
  rw [State.resumed_engine] at h1 h2
  exact ⟨h1, h2.elim id id⟩

/-- R43: the request of a boom that may be resumed. -/
theorem exec_resume (q : Byte) (h : s.takesFrames = true) (hm : MayResume s b st) :
    exec (.resume q [BitVec.ofNat 8 b.num]) s =
      .next (answered (((s.frameTaken.resumed b).resumeStep b st).relink s.link) q 0x0E
        (.accepted [.u8 ((((s.frameTaken.resumed b).resumeStep b st).relink s.link).engine b).state.num])) := by
  obtain ⟨hst, hres, htrip, hprs, hcan, hmon⟩ := hm
  have hexec := exec_serveBoom b
    (show exec (.resume q [BitVec.ofNat 8 b.num]) s = .next (s.serveBoom q 0x0E [BitVec.ofNat 8 b.num] decideResume) from rfl)
  have hres' : (s.frameTaken.engine b).resume = some st := by simpa using hres
  have hlock : s.frameTaken.resumeInterlock b = none := by
    unfold State.resumeInterlock
    rw [if_neg (by show ¬s.trip = true; simp [htrip]), if_neg (by rw [State.frameTaken_closed]; simp [hprs]),
      if_neg (by show ¬s.canopy.state ≠ _; simp [hcan]), if_neg (by rw [hres']; show ¬s.monitors.any _ = true; simp [hmon])]
  have hd : decideResume b s.frameTaken =
      ⟨s.frameTaken.resume b, .accepted [.u8 ((s.frameTaken.resume b).engine b).state.num]⟩ := by
    rw [decideResume, if_pos (by simpa using hst), hlock]
    rfl
  rw [State.resume_eq hres'] at hd
  refine (exec_relinked h hexec rfl (by decide) hd ?_).trans (by rw [State.relink_engine])
  exact (EngineMoves.of_resumed _ b).trans (.of_resumeStep _ b st) |>.link

end

end Sys2Proof.Machine
end

section
/-! PROOF. RESUME by the step taken up again (R44): the steps that begin afresh, those whose end is taken in the event, and INSERT
with its interrupted stroke. -/
namespace Sys2Proof.Machine

section
variable {s t u : State} {b : BoomId} {r : InstRecord} {st : EngineState}

/-! ## AWAIT_BOLT and strokes without a passage -/

theorem State.enterAwaitBolt_spec (s : State) (b : BoomId) :
    (s.enterAwaitBolt b).engine b = { s.engine b with state := .awaitBolt, sub := .none, leg := none, resume := none } ∧
      AtRest (s.enterAwaitBolt b) b ∧ (s.enterAwaitBolt b).raised (.boltNeeded b) = true := by
  refine ⟨?_, ((s.goto b .awaitBolt .none).noFlow_atRest b).raise _, State.raised_raise _ (by cases b <;> decide)⟩
  rw [State.enterAwaitBolt, State.raise_engine, State.noFlow_engine, State.goto, State.setEngine_engine, if_pos rfl]

theorem State.finishInsert_stands (s : State) (b : BoomId) :
    ((s.finishInsert b).engine b).state = .awaitBolt ∧ AtRest (s.finishInsert b) b ∧
      (s.finishInsert b).raised (.boltNeeded b) = true := by
  obtain ⟨h1, h2, h3⟩ := (s.modRecord b (fun r => { r with passed := some (s.engine b).passed })).enterAwaitBolt_spec b
  exact ⟨by rw [State.finishInsert, h1], h2, h3⟩

/-- R169: a boom has faulted for want of resin. -/
def ResinFailed (t : State) (b : BoomId) : Prop :=
  (t.engine b).state = .faulted ∧ (t.engine b).lastFault = some .resinFeed ∧ AtRest t b ∧ t.raised (.jobFault b) = true

theorem State.beginStrokes_unfed (hj : (s.engine b).jog = none) (ht : (s.engine b).tally = 0) (hend : s.closed (.iend b) = true)
    (hhome : s.closed (.ihome b) = true) :
    ResinFailed (s.beginStrokes b) b ∧
      ∀ r, (s.engine b).record = some r → FaultEntered (s.inserting b) (s.beginStrokes b) b r .resinFeed := by
  obtain ⟨v, n, hat, hv⟩ := State.beginStrokes_fails ht hend hhome
  rw [hv]
  obtain ⟨k1, k2, -, k4, k5, -⟩ := v.enterFaulted_stands b .resinFeed
  refine ⟨⟨k1, k2, k5 ?_, k4⟩, fun r hr => hat.faulted hr⟩
  rw [hat.engine]
  simp [State.inserting]
  exact hj

/-! ## The steps that begin afresh -/

theorem State.resumed_drilling (h : st = .collar ∨ st = .drill) :
    let t := (s.resumed b).resumeStep b st
    StepBegun t b st 3 ∧ (t.engine b).sub = (s.engine b).sub ∧ (t.engine b).backoffTarget = (s.engine b).backoffTarget ∧
      (t.engine b).drillTimer = (s.engine b).drillTimer ∧ (t.engine b).retries = (s.engine b).retries := by
  intro t
  let x : Engine := { (s.engine b).resumed with state := st, resume := none }
  have ht : t = ((s.resumed b).setEngine b x).beginFlow b (.step st) := by
    rcases h with rfl | rfl
    · show ((s.resumed b).setEngine b { (s.resumed b).engine b with state := .collar, resume := none }).beginFlow b _ = _
      rw [State.resumed_engine]
    · show ((s.resumed b).setEngine b { (s.resumed b).engine b with state := .drill, resume := none }).beginFlow b _ = _
      rw [State.resumed_engine]
  obtain ⟨k1, k2⟩ := State.beginStep_spec (s.resumed b) b (x := x) (e := st) rfl rfl
  rw [← ht] at k1 k2
  have he := k1.engine_eq (b := b) (by rcases h with rfl | rfl <;> simp [x])
  rw [State.setEngine_engine, if_pos rfl] at he
  refine ⟨?_, by rw [he]; rfl, by rw [he]; rfl, by rw [he]; rfl, by rw [he]; rfl⟩
  rcases h with rfl | rfl <;> exact k2

theorem State.resumed_push : StepBegun ((s.resumed b).resumeStep b .push) b .push 2 :=
  ((s.resumed b).enterPush_spec (b := b) (by rw [State.resumed_engine]; rfl)).2

theorem State.resumed_awaitBolt :
    let t := (s.resumed b).resumeStep b .awaitBolt
    ((s.engine b).boltLoaded = true → StepBegun t b .push 2 ∧ (t.engine b).boltLoaded = false) ∧
      ((s.engine b).boltLoaded = false →
        (t.engine b).state = .awaitBolt ∧ AtRest t b ∧ t.raised (.boltNeeded b) = true) := by
  intro t
  have ht : t = if (s.engine b).boltLoaded then (s.resumed b).enterPush b else (s.resumed b).enterAwaitBolt b := by
    show (if ((s.resumed b).engine b).boltLoaded then _ else _) = _
    rw [State.resumed_engine]
    rfl
  refine ⟨fun h => ?_, fun h => ?_⟩
  · rw [ht, h, if_pos rfl]
    obtain ⟨k1, k2⟩ := (s.resumed b).enterPush_spec (b := b) (by rw [State.resumed_engine]; rfl)
    refine ⟨k2, ?_⟩
    rw [k1.engine_eq (by simp [Engine.pushing]), State.setEngine_engine, if_pos rfl]
    rfl
  · rw [ht, h, if_neg (by decide)]
    obtain ⟨k1, k2, k3⟩ := (s.resumed b).enterAwaitBolt_spec b
    exact ⟨by rw [k1], k2, k3⟩

theorem State.resumed_torque :
    let t := (s.resumed b).resumeStep b .torque
    StepBegun t b .torque 2 ∧ (t.engine b).torqueTimer = (s.engine b).torqueTimer ∧ (t.engine b).highest = (s.engine b).highest ∧
      (t.engine b).consecutive = 0 := by
  intro t
  let x : Engine := { (s.engine b).resumed with state := .torque, resume := none, sub := .none, leg := none, consecutive := 0 }
  have ht : t = ((s.resumed b).setEngine b x).beginFlow b (.step .torque) := by
    show (State.setEngine (State.setEngine _ _ _) _ _).beginFlow b _ = _
    rw [State.setEngine_setEngine, State.setEngine_engine, if_pos rfl, State.resumed_engine]
  obtain ⟨k1, k2⟩ := State.beginStep_spec (s.resumed b) b (x := x) (e := .torque) rfl rfl
  rw [← ht] at k1 k2
  have he := k1.engine_eq (b := b) (by simp [x])
  rw [State.setEngine_engine, if_pos rfl] at he
  exact ⟨k2, by rw [he]; rfl, by rw [he]; rfl, by rw [he]⟩

/-! ## RETRACT and RELEASE -/

theorem SameFiling.of_resumed (s : State) (b : BoomId) : SameFiling b s (s.resumed b) := by
  rw [State.resumed_eq]
  unfold SameFiling
  cases b <;> exact ⟨rfl, rfl, rfl, rfl, rfl, rfl, rfl, rfl⟩

theorem State.resumed_release :
    let t := (s.resumed b).resumeStep b .release
    (s.closed (.home b) = false → StepBegun t b .release 4) ∧
      (s.closed (.home b) = true → ∀ r, (s.engine b).record = some r → FilingEntered s t b r) := by
  intro t
  let v := s.resumed b
  let x : Engine := { v.engine b with state := .release, sub := .none, leg := none, resume := none }
  have hj : (v.engine b).jog = none := by rw [State.resumed_engine]; rfl
  refine ⟨fun hc => ?_, fun hc r hr => ?_⟩
  · obtain ⟨k1, k2⟩ := State.beginStep_spec v b (x := x) (e := .release) rfl hj
    have ht : t = (v.setEngine b x).beginFlow b (.step .release) := by
      refine if_neg (show ¬((v.setEngine b x).beginFlow b (.step .release)).closed (.home b) = true from ?_)
      have hx : (v.setEngine b x).closed (.home b) = v.closed (.home b) := by simp [State.closed]
      rw [k1.closed, hx, State.resumed_closed, hc]
      decide
    rw [ht]
    exact k2
  · have h := (State.enterRelease_spec (s := v) hj (r := r) (by rw [State.resumed_engine]; exact hr)).2
      (by rw [State.resumed_closed]; exact hc)
    refine h.congr (SameFiling.of_resumed s b) ((EngineMoves.of_resumed s b).trans (.of_enterRelease v b))

/-- R44, R30: RETRACT afresh; where the home switch stands closed its end is taken at once. -/
theorem State.resumed_retract (hst : (s.engine b).state = .hold) (hres : (s.engine b).resume = some .retract) :
    let t := (s.resumed b).resumeStep b .retract
    let e := s.engine b
    (s.closed (.home b) = false → StepBegun t b .retract 4) ∧
      (s.closed (.home b) = true →
        ((s.sensing b).magazine < e.n.getD 0 →
          (t.engine b).state = .insert ∧ (t.engine b).sub = .awaitingResin ∧ (t.engine b).completed = 0 ∧ AtRest t b ∧
            t.raised (.resinNeeded b) = true) ∧
        (e.n.getD 0 ≤ (s.sensing b).magazine → s.closed (.iend b) = false ∨ s.closed (.ihome b) = false →
          StrokesBegun t b ∧ (t.engine b).completed = 0) ∧
        (e.n.getD 0 ≤ (s.sensing b).magazine → s.closed (.iend b) = true → s.closed (.ihome b) = true →
          ResinFailed t b ∧
            ∀ r, e.record = some r → FaultEntered (s.setEngine b { e with passed := 0 }) t b r .resinFeed)) := by
  intro t e
  let v := s.resumed b
  have hv : v.engine b = e.resumed := s.resumed_engine b
  obtain ⟨w1, w2, w3, w4⟩ := State.retracting_spec (s := v) (b := b) (by rw [hv]; rfl)
  let w := v.retracting b
  rw [hv] at w3
  have hwm : w.sensing b = s.sensing b := (w1.sensing b).trans (by rw [State.setEngine_sensing, State.resumed_sensing])
  have hwc (i : SwitchId) : w.closed i = s.closed i := by
    rw [w1.closed i, ← s.resumed_closed b i, State.closed, State.setEngine_switch]
    rfl
  have hwn : (w.engine b).n = e.n := by rw [w3]; rfl
  have hwj : (w.engine b).jog = none := by rw [w3]; rfl
  have hval : t = if s.closed (.home b) then w.enterInsert b else w := by
    rw [← s.resumed_closed b]
    exact w4
  obtain ⟨-, k2, k3, k4, k5⟩ := State.enterInsert_spec (s := w) (b := b) w2.1 hwj
  rw [hwn, hwm, hwc, hwc] at k2 k4
  rw [hwn, hwm] at k3
  refine ⟨fun hh => ?_, fun hh => ?_⟩
  · rw [hval, hh, if_neg (by decide)]
    exact w2
  · have ht : t = w.enterInsert b := by rw [hval, hh, if_pos rfl]
    rw [ht]
    refine ⟨fun hn => ?_, fun hn ho => ⟨k4 hn ho, (k2 (.inr ho)).2.2.1⟩, fun hn hi ho => ?_⟩
    · obtain ⟨j1, j2, j3, j4⟩ := k3 hn
      exact ⟨j1, j2, (k2 (.inl hn)).2.2.1, j3, j4⟩
    · obtain ⟨j1, j2, j3, j4, j5⟩ := k5 (by rw [hwn, hwm]; exact hn) ((hwc _).trans hi) ((hwc _).trans ho)
      refine ⟨⟨j1, j2, j3, j4⟩, fun r hr => (j5 r (by rw [w3]; exact hr)).congr ?_ ?_⟩
      · refine SameFault.trans (u := w.setEngine b { w.engine b with passed := 0 })
          (SameFault.of_resumed (y := { w.engine b with passed := 0 }) ?_ ?_ ?_) (.of_flow (w1.overwrite _))
        · have hws : (w.engine b).state = .retract := w2.1
          simp [faultStep, stepLeft, hws, e, hst, hres]
        · exact hwj
        · rw [w3]
          rfl
      · have := (EngineMoves.of_resumed s b).trans (.of_beginRetract v b)
        rw [show v.beginRetract b = w.enterInsert b from ht] at this
        exact this.from_setEngine (by rfl)

/-! ## INSERT -/

/-- R44: the record once the interrupted stroke is settled. -/
def InstRecord.extra (r : InstRecord) (e : Engine) : InstRecord :=
  { r with
    flags :=
      { r.flags with
        resinExtra := r.flags.resinExtra || (decide (2 ≤ e.tally) && decide (e.completed < e.n.getD 0)) } }

theorem Engine.settled_record (e : Engine) : e.settled.record = e.record.map (·.extra e) := by
  unfold Engine.settled
  dsimp only
  by_cases hp : 1 ≤ e.tally ∧ e.completed < e.n.getD 0
  · have hf : (·.extra e) = resinJudged e.tally := funext fun r => by simp [InstRecord.extra, resinJudged, hp.2]
    rw [if_pos (by simpa [Engine.passed?] using hp), hf]
  · have hf : (·.extra e) = (id : InstRecord → InstRecord) := funext fun r => by
      have : (decide (2 ≤ e.tally) && decide (e.completed < e.n.getD 0)) = false := by
        rw [Bool.and_eq_false_iff, decide_eq_false_iff_not, decide_eq_false_iff_not]
        omega
      simp [InstRecord.extra, this]
    rw [if_neg (by simpa [Engine.passed?] using hp), hf, Option.map_id]
    rfl

theorem Engine.settled_completed (e : Engine) :
    e.settled.completed = if 1 ≤ e.tally ∧ e.completed < e.n.getD 0 then e.completed + 1 else e.completed := by
  simp [Engine.settled, Engine.passed?]

/-- R169: what a stroke that is not the last one leaves to judge: nothing. -/
theorem Engine.settled_tally {e : Engine} (h : e.settled.completed < e.n.getD 0) : e.settled.tally = 0 := by
  rw [Engine.settled_completed] at h
  simp only [Engine.settled, Engine.passed?, decide_eq_true_eq]
  split
  · rfl
  · next hp =>
    rw [if_neg hp] at h
    omega

section
variable (hst : (s.engine b).state = .hold) (hres : (s.engine b).resume = some .insert)
include hst hres

theorem faultStep_held : faultStep (s.engine b) = .retract := by simp [faultStep, stepLeft, hst, hres]

/-- R44, R31: INSERT that awaited resin. -/
theorem State.resumed_awaiting (hs : (s.engine b).sub = .awaitingResin) :
    let t := (s.resumed b).resumeStep b .insert
    let e := s.engine b
    ((s.sensing b).magazine < e.n.getD 0 →
      (t.engine b).state = .insert ∧ (t.engine b).sub = .awaitingResin ∧ AtRest t b ∧ t.raised (.resinNeeded b) = true) ∧
    (e.n.getD 0 ≤ (s.sensing b).magazine →
      (s.closed (.iend b) = false ∨ s.closed (.ihome b) = false → StrokesBegun t b) ∧
      (s.closed (.iend b) = true → s.closed (.ihome b) = true →
        (e.tally = 0 → ResinFailed t b) ∧
          ∀ r, e.record = some r → JudgedAtOnce (s.setEngine b { e with jog := none }) t b r)) := by
  intro t e
  let v := s.resumed b
  have hv : v.engine b = e.resumed := s.resumed_engine b
  have hm : v.sensing b = s.sensing b := s.resumed_sensing b
  have hc (i : SwitchId) : v.closed i = s.closed i := s.resumed_closed b i
  have ht : t = v.insertOrWait b := by
    refine if_pos ?_
    rw [hv]
    exact hs
  refine ⟨fun hn => ?_, fun hn => ?_⟩
  · obtain ⟨k1, k2, k3⟩ := State.insertOrWait_wait (s := v) (b := b) (by rw [hv, hm]; exact hn)
    rw [ht]
    exact ⟨by rw [k1], by rw [k1], k2, k3⟩
  · have hb : t = v.beginStrokes b := ht.trans (State.insertOrWait_begin (by rw [hv, hm]; exact hn))
    rw [hb]
    refine ⟨fun ho => (State.beginStrokes_open (by rw [hv]; rfl) (by rwa [hc, hc])).1, fun hi ho => ⟨fun h0 => ?_, fun r hr => ?_⟩⟩
    · exact (State.beginStrokes_unfed (by rw [hv]; rfl) (by rw [hv]; exact h0) ((hc _).trans hi) ((hc _).trans ho)).1
    · have hx : (s.setEngine b { e with jog := none }).engine b = { e with jog := none } := by simp
      refine State.beginStrokes_judgedAtOnce (by rw [hv]; exact hr) ((hc _).trans hi) ((hc _).trans ho)
        (SameFault.of_resumed ?_ (by rw [hv]; rfl) (by rw [hv]; rfl))
        (((EngineMoves.of_resumed s b).trans (.of_beginStrokes v b)).from_setEngine (by rfl))
        (by rw [hv, hx]; rfl) (by rw [hv, hx]; rfl) (by rw [hv, hx]; rfl)
      exact faultStep_held hst hres

/-- R44, R168, R169: INSERT with its interrupted stroke settled. -/
theorem State.resumed_insert (hs : (s.engine b).sub ≠ .awaitingResin) :
    let t := (s.resumed b).resumeStep b .insert
    let e := s.engine b
    (s.closed (.ihome b) = true →
      (e.n.getD 0 ≤ e.settled.completed →
        (t.engine b).state = .awaitBolt ∧ AtRest t b ∧ t.raised (.boltNeeded b) = true ∧
          ∀ r, e.record = some r → (t.engine b).record = some { r.extra e with passed := some e.passed }) ∧
      (e.settled.completed < e.n.getD 0 → s.closed (.iend b) = true →
        ResinFailed t b ∧ ∀ r, e.record = some r → FaultEntered s t b (r.extra e) .resinFeed)) ∧
    (s.closed (.ihome b) = false ∨ e.settled.completed < e.n.getD 0 ∧ s.closed (.iend b) = false →
      StrokesBegun t b ∧ (t.engine b).completed = e.settled.completed ∧ (t.engine b).restrokes = e.settled.restrokes ∧
        (t.engine b).record = e.record.map (·.extra e)) := by
  intro t e
  let v := s.resumed b
  have hv : v.engine b = e.resumed := s.resumed_engine b
  have hc (i : SwitchId) : v.closed i = s.closed i := s.resumed_closed b i
  let u := v.setEngine b e.resumed.settled
  have hu : u.engine b = e.resumed.settled := by simp [u]
  have huc (i : SwitchId) : u.closed i = s.closed i := by
    rw [← hc]
    simp [u, State.closed]
  have hrec : e.resumed.settled.record = e.record.map (·.extra e) := Engine.settled_record e.resumed
  have ht : t = if e.n.getD 0 ≤ e.settled.completed ∧ s.closed (.ihome b) = true then (u.goto b .insert .none).finishInsert b
      else u.beginStrokes b := by
    have := State.resumeInsert_eq (s := v) (b := b) (by rw [hv]; exact hs)
    rw [hv, hc] at this
    exact this
  have hopen (h : ¬(e.n.getD 0 ≤ e.settled.completed ∧ s.closed (.ihome b) = true)) : t = u.beginStrokes b := ht.trans (if_neg h)
  refine ⟨fun hh => ⟨fun hn => ?_, fun hn hi => ?_⟩, fun h => ?_⟩
  · rw [ht, if_pos ⟨hn, hh⟩]
    let w := u.goto b .insert .none
    have hw : w.engine b = { e.resumed.settled with state := .insert, sub := .none, leg := none, resume := none } := by
      simp [w, State.goto, hu]
    obtain ⟨k1, k2, k3⟩ := w.finishInsert_stands b
    refine ⟨k1, k2, k3, fun r hr => ?_⟩
    obtain ⟨-, -, -, -, k5⟩ := State.finishInsert_spec (s := w) (b := b) (r := r.extra e) (by rw [hw]; exact hrec.trans (by rw [hr]; rfl))
    rw [k5, hw]
    rfl
  · have hb := hopen fun h => absurd hn (Nat.not_lt.2 h.1)
    obtain ⟨k1, k2⟩ := State.beginStrokes_unfed (s := u) (b := b) (by rw [hu]; rfl) (by rw [hu]; exact Engine.settled_tally (e := e.resumed) hn)
      ((huc _).trans hi) ((huc _).trans hh)
    rw [hb]
    refine ⟨k1, fun r hr => (k2 (r.extra e) (by rw [hu, hrec, hr]; rfl)).congr ?_ ?_⟩
    · have : SameFault b (s.setEngine b e) (v.setEngine b ((u.engine b).inserting (u.firstLeg b))) := by
        refine SameFault.of_resumed ?_ (by rw [hu]; rfl) (by rw [hu]; rfl)
        exact faultStep_held hst hres
      rw [State.setEngine_self] at this
      rw [State.inserting, State.setEngine_setEngine]
      exact this
    · exact (EngineMoves.of_resumed s b).trans ((EngineMoves.of_setEngine v b _ (by rw [hv]; rfl)).trans (.of_beginStrokes u b))
  · have hb := hopen fun k => h.elim (fun hh => by simp [hh] at k) fun hn => absurd hn.1 (Nat.not_lt.2 k.1)
    obtain ⟨k1, k2⟩ := State.beginStrokes_open (s := u) (b := b) (by rw [hu]; rfl) (by
      rw [huc, huc]
      exact h.elim .inr fun k => .inl k.2)
    rw [hb]
    have he := k2.engine_eq (b := b) (by simp [State.inserting, Engine.inserting])
    have hi : (u.inserting b).engine b = e.resumed.settled.inserting (u.firstLeg b) := by simp [State.inserting, hu]
    rw [hi] at he
    exact ⟨k1, by rw [he]; rfl, by rw [he]; rfl, by rw [he]; exact hrec⟩

end

end

end Sys2Proof.Machine
end

section
/-! PROOF. RESUME (R43, R44): the request. -/
namespace Sys2Proof.Machine

/-- Settles O20. -/
theorem resumeRestoresStep : Obligations.ResumeRestoresStep := by
  unfold Obligations.ResumeRestoresStep
  intro q b s st h hm e
  refine ⟨_, exec_resume q h hm, ?_⟩
  let f := s.frameTaken
  let w := (f.resumed b).resumeStep b st
  have hfe : f.engine b = e := State.frameTaken_engine s b
  have hfm : f.sensing b = s.sensing b := State.frameTaken_sensing s b
  have hfc (i : SwitchId) : f.closed i = s.closed i := State.frameTaken_closed s i
  have hwe : (w.relink s.link).engine b = w.engine b := State.relink_engine _ _ b
  have hwr (x : Event) : (w.relink s.link).raised x = w.raised x := rfl
  have hst : (f.engine b).state = .hold := by rw [hfe]; exact hm.1
  have hres : (f.engine b).resume = some st := by rw [hfe]; exact hm.2.1
  have hset (x : Engine) : (f.setEngine b x).relink s.link = s.setEngine b x := by cases b <;> rfl
  have hmoves := ((EngineMoves.of_resumed f b).trans (.of_resumeStep _ b st)).relink s.link
  have hfailed (k : ResinFailed w b) : ResinFailed (w.relink s.link) b := by
    obtain ⟨k1, k2, k3, k4⟩ := k
    exact ⟨by rwa [hwe], by rwa [hwe], k3.relink s.link, k4⟩
  obtain ⟨hjog, hcauses⟩ := f.resumed_rest b st
  intro noResin extra
  refine ⟨hmoves, by rw [hwe]; exact hcauses, by rw [hwe]; exact hjog, fun hd => ?_, fun hr hh => ?_, fun hp => ?_, fun hr hh => ?_,
    fun ha hb => ?_, fun ha hb => ?_, fun ht => ?_, fun hi ha hn => ?_, fun hr hh => ?_, fun r hr hh hrec => ?_, fun hi ha hn => ?_,
    fun hi ha hh => ?_, fun hi ha hh => ?_⟩
  · obtain ⟨k1, k2⟩ := State.resumed_drilling (s := f) (b := b) hd
    rw [hfe] at k2
    rw [hwe]
    exact ⟨k1.relink s.link, k2⟩
  · subst hr
    exact ((State.resumed_retract hst hres).1 ((hfc _).trans hh)).relink s.link
  · subst hp
    exact State.resumed_push.relink s.link
  · subst hr
    exact (State.resumed_release.1 ((hfc _).trans hh)).relink s.link
  · subst ha
    obtain ⟨k1, k2⟩ := State.resumed_awaitBolt.1 (show (f.engine b).boltLoaded = true by rw [hfe]; exact hb)
    rw [hwe]
    exact ⟨k1.relink s.link, k2⟩
  · subst ha
    obtain ⟨k1, k2, k3⟩ := State.resumed_awaitBolt.2 (show (f.engine b).boltLoaded = false by rw [hfe]; exact hb)
    rw [hwe]
    exact ⟨k1, k2.relink s.link, k3⟩
  · subst ht
    obtain ⟨k1, k2⟩ := State.resumed_torque (s := f) (b := b)
    rw [hfe] at k2
    rw [hwe]
    exact ⟨k1.relink s.link, k2⟩
  · subst hi
    obtain ⟨k1, k2, k3, k4⟩ := (State.resumed_awaiting hst hres (by rw [hfe]; exact ha)).1 (by rw [hfe, hfm]; exact hn)
    rw [hwe]
    exact ⟨k1, k2, k3.relink s.link, k4⟩
  · subst hr
    have k := (State.resumed_retract hst hres).2 ((hfc _).trans hh)
    rw [hfe, hfm, hfc, hfc] at k
    obtain ⟨k1, k2, k3⟩ := k
    refine ⟨fun hn => ?_, fun hn ho => ?_, fun hn hi ho => ?_⟩
    · obtain ⟨j1, j2, j3, j4, j5⟩ := k1 hn
      rw [hwe]
      exact ⟨j1, j2, j3, j4.relink s.link, j5⟩
    · rw [hwe]
      exact ⟨(k2 hn ho).1.relink s.link, (k2 hn ho).2⟩
    · obtain ⟨j1, j2⟩ := k3 hn hi ho
      refine ⟨hfailed j1, fun r hr => ?_⟩
      have := (j2 r hr).relink s.link
      rwa [hset] at this
  · subst hr
    exact ((State.resumed_release.2 ((hfc _).trans hh)) r (by rw [hfe]; exact hrec)).relink s.link
  · subst hi
    have k := (State.resumed_awaiting hst hres (by rw [hfe]; exact ha)).2 (by rw [hfe, hfm]; exact hn)
    rw [hfe, hfc, hfc] at k
    obtain ⟨k1, k2⟩ := k
    refine ⟨fun ho => (k1 ho).relink s.link, fun hi ho => ⟨fun h0 => hfailed ((k2 hi ho).1 h0), fun r hr => ?_⟩⟩
    have := ((k2 hi ho).2 r hr).relink s.link
    rwa [hset] at this
  · subst hi
    obtain ⟨k, kopen⟩ := State.resumed_insert hst hres (by rw [hfe]; exact ha)
    rw [hfe] at k kopen
    obtain ⟨k1, k2⟩ := k ((hfc _).trans hh)
    intro done
    have hdone : done = e.settled.completed := (Engine.settled_completed e).symm
    rw [hdone]
    refine ⟨fun hn => ?_, fun hn ho => ?_, fun hn ho => ?_⟩
    · obtain ⟨j1, j2, j3, j4⟩ := k1 hn
      rw [hwe]
      exact ⟨j1, j2.relink s.link, j3, j4⟩
    · obtain ⟨j1, j2, -, j4⟩ := kopen (.inr ⟨hn, (hfc _).trans ho⟩)
      rw [hwe]
      exact ⟨j1.relink s.link, j2, j4⟩
    · obtain ⟨j1, j2⟩ := k2 hn ((hfc _).trans ho)
      exact ⟨hfailed j1, fun r hr => (j2 r hr).relink s.link⟩
  · subst hi
    obtain ⟨-, kopen⟩ := State.resumed_insert hst hres (by rw [hfe]; exact ha)
    rw [hfe] at kopen
    obtain ⟨j1, j2, j3, j4⟩ := kopen (.inl ((hfc _).trans hh))
    rw [hwe]
    refine ⟨j1.relink s.link, j4, ?_, j2.trans (Engine.settled_completed e)⟩
    rw [j3]
    simp [Engine.settled, Engine.passed?]

/-! ## The resin clock's catch-up -/

section
variable {s : State} {b : BoomId} {r : InstRecord}

theorem SameFiling.symm {u : State} (h : SameFiling b s u) : SameFiling b u s := by
  obtain ⟨h1, h2, h3, h4, h5, h6, h7, h8⟩ := h
  exact ⟨h1.symm, h2.symm, h3.symm, h4.symm, h5.symm, h6.symm, h7.symm, h8.symm⟩

/-- R44, R36: the GEL_HOLD line of a RESUME. -/
theorem State.resumeGel_spec (hj : (s.engine b).jog = none) (hr : (s.engine b).record = some r) :
    let t := s.resumeGel b
    let p := s.activePlan b
    let n := (s.engine b).resinClock
    (n < p.gelTime → StepBegun t b .gelHold 2) ∧
    (p.gelTime ≤ n → n < p.gelTime + p.torqueWindow →
      StepBegun t b .torque 2 ∧ (t.engine b).torqueTimer = 0 ∧ (t.engine b).highest = 0 ∧ (t.engine b).consecutive = 0) ∧
    (p.gelTime ≤ n → p.gelTime + p.torqueWindow ≤ n →
      (s.closed (.home b) = false →
        StepBegun t b .release 4 ∧ (t.engine b).record = some { r with outcome := some .torqueSkipped }) ∧
      (s.closed (.home b) = true → FilingEntered s t b { r with outcome := some .torqueSkipped })) ∧
    (n < p.gelTime ∨ n < p.gelTime + p.torqueWindow → (t.engine b).record = some r) := by
  intro t p n
  have hval : t = if n < p.gelTime then s.enterGelHold b else if n < p.gelTime + p.torqueWindow then s.enterTorque b
      else (s.modRecord b (fun r => { r with outcome := some .torqueSkipped })).enterRelease b := rfl
  obtain ⟨g1, g2⟩ := State.beginStep_spec s b
    (x := { s.engine b with state := .gelHold, sub := .none, leg := none, resume := none }) (e := .gelHold) rfl hj
  obtain ⟨q1, q2⟩ := s.enterTorque_spec hj
  have hrel := State.release_written (f := fun r => { r with outcome := some .torqueSkipped }) hj hr
  have hgel (h : n < p.gelTime) : t = s.enterGelHold b := hval.trans (if_pos h)
  have htorque (h : p.gelTime ≤ n) (h2 : n < p.gelTime + p.torqueWindow) : t = s.enterTorque b := by
    rw [hval, if_neg (Nat.not_lt.2 h), if_pos h2]
  have hte := q1.engine_eq (b := b) (by simp [Engine.torquing])
  rw [State.setEngine_engine, if_pos rfl] at hte
  refine ⟨fun h => by rw [hgel h]; exact g2, fun h h2 => ?_, fun h h2 => ?_, fun h => ?_⟩
  · rw [htorque h h2]
    exact ⟨q2, by rw [hte]; rfl, by rw [hte]; rfl, by rw [hte]; rfl⟩
  · rw [hval, if_neg (Nat.not_lt.2 h), if_neg (Nat.not_lt.2 h2)]
    exact hrel
  · rcases Nat.lt_or_ge n p.gelTime with hn | hn
    · have he := g1.engine_eq (b := b) (by simp)
      rw [State.setEngine_engine, if_pos rfl] at he
      rw [hgel hn, show s.enterGelHold b = _ from rfl, State.enterGelHold, State.goto, he]
      exact hr
    · rw [htorque hn (h.resolve_left (Nat.not_lt.2 hn)), hte]
      exact hr

/-- R44, R35: the MIX line of a RESUME goes on mixing. -/
theorem State.resumeMix_mixing (hj : (s.engine b).jog = none) (hq : (s.engine b).q < (s.activePlan b).mixCount)
    (hc : (s.engine b).resinClock < (s.activePlan b).mixLimit) :
    let t := s.resumeMix b
    StepBegun t b .mix 2 ∧ (t.engine b).q = (s.engine b).q ∧ (t.engine b).resinClock = (s.engine b).resinClock := by
  intro t
  obtain ⟨k1, k2⟩ := State.beginStep_spec s b
    (x := { s.engine b with state := .mix, sub := .none, leg := none, resume := none }) (e := .mix) rfl hj
  have ht : t = (s.setEngine b { s.engine b with state := .mix, sub := .none, leg := none, resume := none }).beginFlow b (.step .mix) := by
    show s.resumeMix b = _
    unfold State.resumeMix
    dsimp only
    rw [if_neg (Nat.not_le.2 hq), if_pos hc]
    rfl
  rw [ht]
  have he := k1.engine b
  rw [State.setEngine_engine, if_pos rfl] at he
  exact ⟨k2, congrArg (·.q) he, congrArg (·.resinClock) he⟩

/-- R44, R35: the MIX line of a RESUME writes its q and goes on with the GEL_HOLD line. -/
theorem State.resumeMix_ended (h : ¬((s.engine b).q < (s.activePlan b).mixCount ∧ (s.engine b).resinClock < (s.activePlan b).mixLimit)) :
    s.resumeMix b =
      (s.setEngine b
        { s.engine b with
          record := (s.engine b).record.map (mixRecord (s.engine b).q (decide ((s.engine b).q < (s.activePlan b).mixCount))) }).resumeGel
        b := by
  unfold State.resumeMix
  dsimp only
  by_cases hq : (s.engine b).q < (s.activePlan b).mixCount
  · rw [if_neg (Nat.not_le.2 hq), if_neg (fun k => h ⟨hq, k⟩), State.mixEnded_eq, decide_eq_true hq]
  · rw [if_pos (Nat.not_lt.1 hq), State.mixEnded_eq, decide_eq_false hq]

end

/-- Settles O21. -/
theorem resumeCatchesUpResin : Obligations.ResumeCatchesUpResin := by
  unfold Obligations.ResumeCatchesUpResin
  intro q b s st p r h hm hp hr e mixing caught
  refine ⟨_, exec_resume q h hm, ?_⟩
  let f := s.frameTaken
  let v := f.resumed b
  let w := v.resumeStep b st
  have hfe : f.engine b = e := State.frameTaken_engine s b
  have hv : v.engine b = e.resumed := by rw [← hfe]; exact f.resumed_engine b
  have hvp : v.activePlan b = p := (f.resumed_activePlan b).trans ((State.relink_activePlan s _ b).trans hp)
  have hvc : v.closed (.home b) = s.closed (.home b) := (f.resumed_closed b _).trans (State.frameTaken_closed s _)
  have hwe : (w.relink s.link).engine b = w.engine b := State.relink_engine _ _ b
  have hmoves : EngineMoves b f w := (EngineMoves.of_resumed f b).trans (.of_resumeStep _ b st)
  refine ⟨hmoves.relink s.link, fun hmix => ?_, fun hst => ?_⟩
  · obtain ⟨rfl, hq, hc⟩ := hmix
    obtain ⟨k1, k2⟩ := State.resumeMix_mixing (s := v) (b := b) (by rw [hv]; rfl) (by rw [hv, hvp]; exact hq) (by rw [hv, hvp]; exact hc)
    rw [hv] at k2
    rw [hwe]
    exact ⟨k1.relink s.link, k2⟩
  · let u := v.setEngine b { e.resumed with record := some caught }
    have hu : u.engine b = { e.resumed with record := some caught } := by simp [u]
    have hup : u.activePlan b = p := by
      rw [← hvp]
      simp [u, State.activePlan, State.activeJob]
    have huc : u.closed (.home b) = s.closed (.home b) := by
      rw [← hvc]
      simp [u, State.closed]
    have hw : w = u.resumeGel b := by
      rcases hst with ⟨rfl, hst⟩ | rfl
      · have hmix := State.resumeMix_ended (s := v) (b := b) (by rw [hv, hvp]; exact fun k => hst ⟨rfl, k⟩)
        rw [hv, hvp] at hmix
        refine hmix.trans ?_
        rw [show e.resumed.record = some r from hr]
        rfl
      · have : e.resumed = { e.resumed with record := some caught } := by
          rw [show caught = r from rfl, ← hr]
          rfl
        show v.resumeGel b = u.resumeGel b
        rw [show u = v by rw [← State.setEngine_self v b, hv, this]]
    obtain ⟨k1, k2, k3, k4⟩ := State.resumeGel_spec (s := u) (b := b) (r := caught) (by rw [hu]; rfl) (by rw [hu])
    rw [hup, hu, ← hw] at k1 k2 k3 k4
    rw [huc] at k3
    refine ⟨fun hn => (k1 hn).relink s.link, fun hn h2 => ?_, fun hn h2 => ⟨fun hc => ?_, fun hc => ?_⟩, fun hn => by rw [hwe]; exact k4 hn⟩
    · rw [hwe]
      exact ⟨(k2 hn h2).1.relink s.link, (k2 hn h2).2⟩
    · rw [hwe]
      exact ⟨((k3 hn h2).1 hc).1.relink s.link, ((k3 hn h2).1 hc).2⟩
    · have hz : (f.setEngine b { e with jog := none }).relink s.link = s.setEngine b { e with jog := none } := by cases b <;> rfl
      have hsame : SameFiling b (f.setEngine b { e with jog := none }) u := by
        refine SameFiling.trans (t := f) (SameFiling.symm (.of_setEngine ?_ ?_ ?_ ?_))
          ((SameFiling.of_resumed f b).trans (.of_setEngine ?_ ?_ ?_ ?_))
        iterate 4 rw [hfe]
        all_goals
          rw [show f.resumed b = v from rfl, hv]
      have := (((k3 hn h2).2 hc).congr hsame (hmoves.from_setEngine (by rw [hfe]))).relink s.link
      rwa [hz] at this

end Sys2Proof.Machine
end

section
/-! PROOF. RELEASE RECORD (R191, R188, R187). -/
namespace Sys2Proof.Machine

section
variable {s : State} {b : BoomId} {x r : InstRecord} {rest : List InstRecord} {more : List BoomId}

/-- R191: the store without its oldest record and with the room queue `q`. -/
def State.released (s : State) (rest : List InstRecord) (q : List BoomId) : State :=
  { s with store := { s.store with records := rest, room := q } }

theorem State.release_filed (hs : s.store.records = r :: rest) (hq : s.store.room = b :: more) (hx : (s.engine b).record = some x) :
    s.release =
      ((({ s with store := ({ s.store with records := rest, room := more } : RecordStore).filed x } : State).raise
        .recordReady).filed b x.outcome) := by
  have h : s.release = (s.released rest more).file b := by
    unfold State.release
    rw [hq, hs]
    rfl
  rw [h, State.file, show ((s.released rest more).engine b).record = some x by cases b <;> exact hx]
  rfl

/-- R187, R188: the head of the room queue is filed. -/
theorem State.release_spec (hs : s.store.records = r :: rest) (hq : s.store.room = b :: more) (hx : (s.engine b).record = some x) :
    let t := s.release
    EngineEffect b s t ∧
      t.store =
        { s.store with
          records := rest ++ [{ x with number := some s.store.next }], next := s.store.next + 1, room := more } ∧
      t.raised .recordReady = true ∧ (t.boom b).active = none ∧ (t.engine b).record = none ∧
      (t.engine b).resinRunning = false ∧
      ((s.engine b).state = .filing →
        (t.engine b).state = chosen (s.boom b) ∧ t.raised (.jobDone b) = true ∧
          (t.engine b).lastFault = if x.outcome = some .good then none else (s.engine b).lastFault) ∧
      ((s.engine b).state ≠ .filing → (t.engine b).state = (s.engine b).state) := by
  intro t
  have ht : t = _ := State.release_filed hs hq hx
  have hmoves : EngineMoves b s t := by
    rw [ht]
    exact ((EngineMoves.of_store s b _).trans (.of_raise _ b _)).trans (.of_filed _ b _)
  by_cases hf : (s.engine b).state = .filing
  · rw [State.filed_filing _ (by cases b <;> exact hf)] at ht
    have hstate : (t.engine b).state = chosen (s.boom b) := by rw [ht]; cases b <;> rfl
    refine ⟨hmoves.effect (.inr (by rw [hstate]; exact chosen_not_engaged _)), ?_, ?_, ?_, ?_, ?_,
      fun _ => ⟨hstate, ?_, ?_⟩, fun h => absurd hf h⟩
    · rw [ht]; cases b <;> rfl
    · rw [ht, State.setBoom_raised]
      exact State.raised_of_raised (State.raised_raise _ (by decide)) _
    · rw [ht]; cases b <;> rfl
    · rw [ht]; cases b <;> rfl
    · rw [ht]; cases b <;> rfl
    · rw [ht, State.setBoom_raised]
      exact State.raised_raise _ (by cases b <;> decide)
    · rw [ht]; cases b <;> rfl
  · rw [State.filed_elsewhere _ (by cases b <;> exact hf)] at ht
    have hstate : (t.engine b).state = (s.engine b).state := by rw [ht]; cases b <;> rfl
    refine ⟨⟨hmoves, by rw [hstate]; exact id⟩, ?_, ?_, ?_, ?_, ?_, fun h => absurd h hf, fun _ => hstate⟩
    · rw [ht]; cases b <;> rfl
    · rw [ht, State.setBoom_raised]
      exact State.raised_raise _ (by decide)
    · rw [ht]; cases b <;> rfl
    · rw [ht]; cases b <;> rfl
    · rw [ht]; cases b <;> rfl

end

/-- Settles O51. -/
theorem releaseFilesRoomQueue : Obligations.ReleaseFilesRoomQueue := by
  unfold Obligations.ReleaseFilesRoomQueue
  intro q hi lo s h n i
  have hexec : exec i s = .next (s.serveFixed q 0x27 2 [hi, lo] (decideRelease [hi, lo])) := rfl
  have hn : u16At [hi, lo] 0 = n := rfl
  refine ⟨fun h0 => ?_, fun r rest hs => ⟨fun hr => ?_, fun hr h0 => ?_, fun b more x hr hq hx => ?_⟩⟩
  · refine exec_of_refuse h hexec rfl (by decide) ?_
    rw [decideRelease, show s.frameTaken.store.records = [] from h0]
    rfl
  · refine exec_of_refuse h hexec rfl (by decide) ?_
    rw [decideRelease, show s.frameTaken.store.records = r :: rest from hs]
    exact if_pos hr
  all_goals
    have hd : decideRelease [hi, lo] s.frameTaken =
        ⟨s.frameTaken.release, .accepted ([.u16 n, .u8 s.frameTaken.release.store.records.length] ++
          Wire.opt16 (if s.store.room.isEmpty then none else some s.store.next.toNat))⟩ := by
      rw [decideRelease, show s.frameTaken.store.records = r :: rest from hs]
      exact if_neg (not_not.2 hr)
  · have hrel : s.frameTaken.release = s.frameTaken.released rest [] := by
      unfold State.release
      rw [show s.frameTaken.store.room = [] from h0, show s.frameTaken.store.records = r :: rest from hs]
      exact congrArg (fun x => { s.frameTaken with store := { s.store with records := rest, room := x } }) h0
    rw [exec_relinked h hexec rfl (by decide) hd (by rw [hrel]; rfl), hrel, h0]
    have : (s.frameTaken.released rest []).relink s.link = { s with store := { s.store with records := rest } } :=
      congrArg (fun x => { s with store := { s.store with records := rest, room := x } }) h0.symm
    rw [this]
    rfl
  · have hk := State.release_spec (s := s.frameTaken) hs hq (by rw [State.frameTaken_engine]; exact hx)
    obtain ⟨k1, k2, k3, k4, k5, k6, k7, k8⟩ := hk
    refine ⟨_, ?_, k1.relink s.link, k2, k3, ?_, ?_, ?_, ?_, ?_⟩
    · rw [exec_relinked h hexec rfl (by decide) hd k1.1.link, k2, hq]
      simp
      rfl
    exacts [by simpa using k4, by simpa using k5, by simpa using k6, by simpa using k7, by simpa using k8]

end Sys2Proof.Machine
end

section
/-! PROOF. The two resets and the write of the store (R203, R205, R206). -/
namespace Sys2Proof.Machine

/-! ## The warm reset -/

section
variable {s : State}

/-- R206: a warm reset looks neither at the events nor at what the port was doing. -/
theorem State.warmReset_forgets (s : State) (e : BitVec 96) (x : Bool) (y : ResetStage) :
    ({ s with events := e, link := { s.link with sending := x, resetStage := y } } : State).warmReset = s.warmReset := rfl

theorem State.raise_warmReset (s : State) (e : Event) : (s.raise e).warmReset = s.warmReset := rfl

/-- R91, R123: all seven pairs are handed an off request. -/
def State.releaseAll (s : State) : State := ((s.boomOff .A false).boomOff .B false).releasePair .canopy

theorem State.releaseAll_eq (s : State) : allPairs.foldl State.releasePair s = s.releaseAll := rfl

theorem State.releaseAll_pair (s : State) (p : PairId) : s.releaseAll.pair p = (s.releasePair p).pair p := by
  unfold State.releaseAll State.releasePair
  rw [State.boomOff_eq, State.boomOff_eq]
  rcases p with ⟨_ | _, f⟩ | _
  · rw [State.request_pair, if_neg (by simp), State.requestBoom_other _ _ _ (by simp), State.requestBoom_pair]
  · rw [State.request_pair, if_neg (by simp), State.requestBoom_pair]
    exact (PairsOnly.of_requestBoom s .A _).request_pair (s.requestBoom_other _ _ (by simp)) _
  · exact ((PairsOnly.of_requestBoom s .A _).trans (.of_requestBoom _ _ _)).request_pair
      ((State.requestBoom_other _ _ _ (by simp)).trans (State.requestBoom_other _ _ _ (by simp))) _

/-- R91, R123: the release touches the pairs alone. -/
theorem State.releaseAll_parts (s : State) : PairsOnly s s.releaseAll :=
  ((PairsOnly.of_requestBoom s .A fun _ => .off false).trans (.of_requestBoom _ .B fun _ => .off false)).trans
    (.of_request _ .canopy (.off false))

/-- R17, R55, R56, R172: a boom at a warm reset. -/
def BoomState.warm (x : BoomState) (restricted : Bool) (threshold : Nat) : BoomState :=
  { x with
    queue := [], active := none, engine := { restricted := restricted }, logger := {}
    sensing := { x.sensing.cleared with setting := .s1, restart := false, threshold := threshold } }

theorem State.warmBoom_restricted (s : State) (b c : BoomId) : (s.warmBoom b).restrictedNow c = s.restrictedNow c := by
  unfold State.restrictedNow State.warmBoom
  cases b <;> cases c <;> rfl

theorem State.warmBooms_eq (s : State) :
    (s.warmBoom .A).warmBoom .B =
      { s with
        boomA := { s.boomA with queue := [], active := none, engine := { restricted := s.restrictedNow .A }, logger := {} }
        boomB := { s.boomB with queue := [], active := none, engine := { restricted := s.restrictedNow .B }, logger := {} } } := by
  have h := s.warmBoom_restricted .A .B
  have h2 : (s.warmBoom .A).warmBoom .B = (s.warmBoom .A).setBoom .B
      { (s.warmBoom .A).boomB with queue := [], active := none, engine := { restricted := s.restrictedNow .B }, logger := {} } := by
    rw [← h]
    rfl
  rw [h2]
  unfold State.warmBoom
  generalize s.restrictedNow .A = x
  generalize s.restrictedNow .B = y
  rfl

theorem State.warmBus_eq (s : State) :
    s.warmBus =
      { s with
        bus :=
          { s.bus with
            schedule := .polling, txn := some (pollRead .A), round := some .A, manual := {}, pollTimer := s.cal.pollPeriod } } := rfl

theorem State.restartSensings_eq (s : State) :
    (s.restartSensing .A).restartSensing .B =
      { s with
        boomA := { s.boomA with
          sensing := { s.boomA.sensing.cleared with setting := .s1, restart := false, threshold := s.cal.threshold .A } }
        boomB := { s.boomB with
          sensing := { s.boomB.sensing.cleared with setting := .s1, restart := false, threshold := s.cal.threshold .B } } } := rfl

theorem PairsOnly.restrictedNow {v : State} (h : PairsOnly s v) (b : BoomId) : v.restrictedNow b = s.restrictedNow b := by
  have hh : v.head b = s.head b := (congrArg BoomState.head (h.boom b)).trans rfl
  simp only [State.restrictedNow, h.analog, hh]

/-- R91, R104, R182, R193, R199, R206: the blocks that a warm reset leaves empty, with the port as it begins. -/
def State.portReset (s : State) : State :=
  { s with
    arb := { budget := s.arb.budget }
    canopy := s.canopy.warmReset
    monitors := s.monitors.map Monitor.warmReset
    store := { s.store with room := [] }
    events := 0
    link :=
      { s.link with
        live := true, timeout := s.cal.linkTimeout, silence := 0, receiver := .hunting, sending := false
        resetStage := .none } }

/-- R17, R55, R56, R161, R172: the booms and the head bus that a warm reset leaves. -/
def State.boomsReset (s : State) (x y : BoomState) (z : Pair) : State :=
  { s with
    boomA := x
    boomB := y
    canopyPair := z
    bus :=
      { s.bus with
        schedule := .polling, txn := some (pollRead .A), round := some .A, manual := {}, pollTimer := s.cal.pollPeriod } }

theorem State.boomsReset_eq {v : State} (h : PairsOnly s v) :
    (((v.warmBoom .A).warmBoom .B).warmBus.restartSensing .A).restartSensing .B =
      s.boomsReset { s.boomA.warm (s.restrictedNow .A) (s.cal.threshold .A) with pairs := v.boomA.pairs }
        { s.boomB.warm (s.restrictedNow .B) (s.cal.threshold .B) with pairs := v.boomB.pairs } v.canopyPair := by
  rw [State.warmBooms_eq, State.warmBus_eq, State.restartSensings_eq, h.restrictedNow .A, h.restrictedNow .B]
  generalize s.restrictedNow .A = x
  generalize s.restrictedNow .B = y
  unfold PairsOnly at h
  generalize v.boomA.pairs = a at h ⊢
  generalize v.boomB.pairs = b at h ⊢
  generalize v.canopyPair = c at h ⊢
  subst h
  rfl

/-- R206: the state that a warm reset leaves. -/
theorem State.warmReset_eq (s : State) :
    s.warmReset =
      (s.boomsReset { s.boomA.warm (s.restrictedNow .A) (s.cal.threshold .A) with pairs := s.releaseAll.boomA.pairs }
        { s.boomB.warm (s.restrictedNow .B) (s.cal.threshold .B) with pairs := s.releaseAll.boomB.pairs }
        s.releaseAll.canopyPair).portReset := by
  rw [← State.boomsReset_eq s.releaseAll_parts]
  rfl

theorem State.warmReset_pair (s : State) (p : PairId) : s.warmReset.pair p = (s.releasePair p).pair p := by
  rw [← State.releaseAll_pair, State.warmReset_eq]
  generalize s.releaseAll = v
  rcases p with ⟨_ | _, _ | _ | _⟩ | _ <;> rfl

/-- R106, R107: the dead time that an off request leaves. -/
theorem State.request_off_dead (s : State) (p : PairId) (hold : Bool) :
    ((s.request p (.off hold)).pair p).last = (s.pair p).last ∧
      ((s.request p (.off hold)).pair p).dead =
        (match (s.pair p).coil with
          | .driving _ => s.cal.deadTime p
          | _ => (s.pair p).dead) := by
  rw [State.request_pair, if_pos rfl, Pair.settle_off (.inl rfl)]
  refine ⟨rfl, ?_⟩
  obtain ⟨_, _, _, coil, _, _, _, _⟩ := s.pair p
  cases coil <;> simp [Pair.loaded, Pair.stops, Pair.record]

theorem State.warmReset_takesFrames (h : s.phase = .running) : s.warmReset.takesFrames = true := by
  rw [State.warmReset_eq]
  show (s.phase == .running && !false && ResetStage.none == .none) = true
  rw [h]
  rfl

end

theorem exec_warmReset {s : State} (hrun : s.phase = .running) :
    exec .warmReset s =
      .next (if s.cal.writing = none then s.warmReset
        else { s with link := { s.link with sending := false, resetStage := .due } }) := by
  show Host.Outcome.next (s.whenRunning _) = _
  rw [State.whenRunning_of_running hrun, State.resetIfDue]
  by_cases h : s.cal.writing = none
  · rw [if_pos ⟨rfl, h⟩, if_pos h]
    rfl
  · rw [if_neg fun k => h k.2, if_neg h]

/-- Settles O8. -/
theorem warmResetClearsAndKeeps : Obligations.WarmResetClearsAndKeeps := by
  unfold Obligations.WarmResetClearsAndKeeps
  intro s hrun hw
  have hpair (p : PairId) : (s.warmReset.pair p).dir = none ∧ (s.warmReset.pair p).coil = .off ∧
      (s.warmReset.pair p).monitor = .disarmed ∧ (s.warmReset.pair p).last = (s.pair p).last ∧
      (s.warmReset.pair p).dead = (match (s.pair p).coil with
        | .driving _ => s.cal.deadTime p
        | _ => (s.pair p).dead) := by
    rw [State.warmReset_pair]
    obtain ⟨h1, h2, h3⟩ := s.request_off p false
    obtain ⟨h4, h5⟩ := s.request_off_dead p false
    exact ⟨h1, h2, h3, h4, h5⟩
  have hframes := State.warmReset_takesFrames hrun
  refine ⟨s.warmReset, by rw [exec_warmReset hrun, if_pos hw], ?_⟩
  rw [State.warmReset_eq] at hpair hframes ⊢
  refine ⟨hrun, rfl, rfl, rfl, rfl, rfl, rfl, rfl, rfl, rfl, rfl, rfl, rfl, rfl, rfl, rfl, rfl,
    rfl, rfl, rfl, rfl, rfl, rfl, rfl, hframes, rfl, rfl, rfl, rfl, rfl, hpair, fun b => ?_⟩
  cases b <;> exact ⟨rfl, rfl, rfl, rfl, rfl, rfl, rfl, rfl⟩

/-! ## The store's write -/

/-- Settles O53. -/
theorem storeWritesCopy : Obligations.StoreWritesCopy := by
  unfold Obligations.StoreWritesCopy
  have hconf (s : State) (vals : List Nat) (hrun : s.phase = .running) (hw : s.cal.writing = some vals) :
      exec .storeWriteConfirmed s = .next (s.storeConfirmed vals).resetIfDue := by
    show Host.Outcome.next (s.whenRunning _) = _
    rw [State.whenRunning_of_running hrun, hw]
  have hfail (s : State) (vals : List Nat) (hrun : s.phase = .running) (hw : s.cal.writing = some vals) :
      exec .storeWriteTimeout s = .next s.storeFailed.resetIfDue := by
    show Host.Outcome.next (s.whenRunning _) = _
    rw [State.whenRunning_of_running hrun, if_pos (by rw [hw]; rfl)]
  refine ⟨fun q s h => ⟨fun hw => ?_, fun hw => ?_⟩, fun s vals hrun hw => ⟨?_, fun hdue => ⟨?_, ?_⟩⟩, fun s hrun hdue => ⟨fun hw => ?_, fun vals hw => ⟨?_, ?_⟩⟩⟩
  · refine exec_of_refuse h (show exec _ s = .next (s.serveFixed q 0x2A 0 [] decideStore) from rfl) rfl (by decide) ?_
    exact if_pos (Option.isSome_iff_ne_none.2 hw)
  · have hd : decideStore s.frameTaken =
        ⟨{ s.frameTaken with cal := { s.cal with writing := some s.cal.working, writeTimer := 0, copyValid := false } },
          .accepted [.u8 1]⟩ := if_neg (by show ¬s.cal.writing.isSome = true; simp [hw])
    exact exec_relinked h (show exec _ s = .next (s.serveFixed q 0x2A 0 [] decideStore) from rfl) rfl (by decide) hd rfl
  · rw [exec_warmReset hrun, if_neg (by simp [hw])]
  · let u : State :=
      { s with
        cal :=
          { s.cal with
            image := calBytes vals, crc := crc16 (calBytes vals), copyValid := true, writing := none, writeTimer := 0
            last := .done } }
    refine ⟨u.warmReset, ?_, State.warmReset_takesFrames hrun, rfl, by rw [exec_warmReset (s := u) hrun, if_pos rfl]⟩
    rw [hconf s vals hrun hw, State.resetIfDue, if_pos ⟨hdue, rfl⟩]
    exact congrArg Host.Outcome.next (u.raise_warmReset .storeDone)
  · let u : State :=
      { s with
        cal :=
          { s.cal with
            image := Config.tornImage s.freeCount, crc := Config.tornCrc s.freeCount, copyValid := false, writing := none
            writeTimer := 0, last := .failed }
        freeCount := s.freeCount + 1 }
    refine ⟨u.warmReset, _, _, ?_, State.warmReset_takesFrames hrun, rfl, by rw [exec_warmReset (s := u) hrun, if_pos rfl]⟩
    rw [hfail s vals hrun hw, State.resetIfDue, if_pos ⟨hdue, rfl⟩]
    exact congrArg Host.Outcome.next (u.raise_warmReset .storeFailed)
  · refine ⟨?_, ?_⟩
    · show Host.Outcome.next (s.whenRunning _) = _
      rw [State.whenRunning_of_running hrun, hw]
    · show Host.Outcome.next (s.whenRunning _) = _
      rw [State.whenRunning_of_running hrun, if_neg (by simp [hw])]
  · rw [hconf s vals hrun hw, State.resetIfDue, if_neg fun k => hdue k.1]
    rfl
  · refine ⟨Config.tornImage s.freeCount, Config.tornCrc s.freeCount, ?_⟩
    rw [hfail s vals hrun hw, State.resetIfDue, if_neg fun k => hdue k.1]
    rfl

/-! ## Power-on and the load -/

section
variable {s : State}

theorem State.powerOn_torn (x y : Bool) (h : s.cal.writing ≠ none) :
    s.powerOn x y = { s.powerOn x y with
      cal := { image := Config.tornImage s.freeCount, crc := Config.tornCrc s.freeCount, copyValid := false }
      freeCount := s.freeCount + 1 } := by
  unfold State.powerOn
  dsimp only
  rw [if_pos (Option.isSome_iff_ne_none.2 h)]
  rfl

theorem State.powerOn_kept (x y : Bool) (h : s.cal.writing = none) :
    s.powerOn x y = { s.powerOn x y with
      cal := { image := s.cal.image, crc := s.cal.crc, copyValid := s.cal.copyValid }, freeCount := s.freeCount } := by
  unfold State.powerOn
  dsimp only
  rw [if_neg (by simp [h])]

theorem CalStore.load_matching {c : CalStore} (h : crc16 c.image = c.crc) :
    c.load = { image := c.image, crc := c.crc, working := calValues c.image, absent := false, copyValid := true } :=
  if_pos (by simp [CalStore.copyMatches, h])

theorem CalStore.load_else {c : CalStore} (h : crc16 c.image ≠ c.crc) : c.load = { image := c.image, crc := c.crc } :=
  if_neg (by simp [CalStore.copyMatches, h])

theorem CalStore.load_keeps (c : CalStore) :
    c.load.image = c.image ∧ c.load.crc = c.crc ∧ c.load.writing = none ∧ c.load.last = .none := by
  unfold CalStore.load
  split <;> exact ⟨rfl, rfl, rfl, rfl⟩

end

/-- Settles O54. -/
theorem powerOnLoadsCalibration : Obligations.PowerOnLoadsCalibration := by
  unfold Obligations.PowerOnLoadsCalibration
  refine ⟨fun x y s => ⟨s.powerOn x y, rfl, rfl, fun h => ?_, fun h => ?_, rfl, rfl, rfl, rfl, rfl, rfl, rfl, ?_, rfl, rfl, rfl, rfl,
    rfl, rfl, rfl, rfl, rfl, rfl, rfl, rfl, fun i => ?_, fun i => ?_, fun b => ?_⟩, fun b i q s h => ?_, fun s => ⟨fun h => ?_, fun h => ?_⟩⟩
  · rw [State.powerOn_kept x y h]
    exact ⟨rfl, rfl, rfl, rfl⟩
  · rw [State.powerOn_torn x y h]
    exact ⟨rfl, rfl⟩
  · cases x <;> cases y <;> rfl
  · rcases i with ⟨_ | _, _ | _ | _⟩ | _ <;> rfl
  · rcases i with _ | c | c | c | c | _ <;> (try cases c) <;> rfl
  · cases b <;> exact ⟨rfl, rfl, rfl, rfl, rfl, rfl, rfl⟩
  · show Host.Outcome.next (if s.running = true then _ else _) = _
    rw [if_neg (by simp [State.running, h])]
  · show Host.Outcome.next (if s.running = true then _ else _) = _
    rw [if_pos (by simp [State.running, h])]
  · have hx : exec .powerOnLoadComplete s = .next s.loadComplete := by
      show Host.Outcome.next (if s.running = true then _ else _) = _
      rw [if_neg (by simp [State.running, h])]
    obtain ⟨h1, h2, h3, h4⟩ := s.cal.load_keeps
    refine ⟨s.loadComplete, hx, rfl, rfl, rfl, rfl, rfl, rfl, ?_, ?_, ?_, fun hc => ?_, fun hc => ?_, fun i => ?_, fun b => ?_, fun i => ?_, ?_, rfl,
      rfl, rfl, rfl, rfl, rfl, rfl, rfl, rfl, rfl, rfl, rfl, rfl, rfl⟩
    · exact h1
    · exact h2
    · exact h3
    · exact ⟨congrArg CalStore.working (CalStore.load_matching hc), congrArg CalStore.absent (CalStore.load_matching hc),
        congrArg CalStore.copyValid (CalStore.load_matching hc)⟩
    · exact ⟨congrArg CalStore.working (CalStore.load_else hc), congrArg CalStore.absent (CalStore.load_else hc),
        congrArg CalStore.copyValid (CalStore.load_else hc)⟩
    · rcases i with _ | c | c | c | c | _ <;> (try cases c) <;> rfl
    · cases b <;> rfl
    · rcases i with ⟨_ | _, _ | _ | _⟩ | _ <;> rfl
    · exact h4

end Sys2Proof.Machine
end

section
/-! PROOF. The trip latch (R111, R112, R41, R53, R100). -/
namespace Sys2Proof.Machine

section
variable {s t u : State} {b : BoomId}

/-! ## The hold cause TRIP -/

theorem Unasked.of_endJog {c : BoomId} (h : b ≠ c) (s : State) : Unasked b s (s.endJog c) := by
  unfold State.endJog
  split
  · exact (of_setEngine h s _).trans (of_noFlow h _)
  · exact .of_eq rfl rfl

theorem State.endJog_raised {e : Event} (h : s.raised e = true) : (s.endJog b).raised e = true := by
  unfold State.endJog
  split
  · rw [(FlowEffect.of_noFlow _ b).raised]
    cases b <;> exact h
  · exact h

theorem State.endJog_engine (s : State) (b : BoomId) :
    ((s.endJog b).engine b).jog = none ∧ ((s.endJog b).engine b).state = (s.engine b).state ∧
      ((s.endJog b).engine b).resume = (s.engine b).resume ∧ ((s.endJog b).engine b).causes = (s.engine b).causes := by
  by_cases hj : (s.engine b).jog = none
  · rw [State.endJog_none hj]
    exact ⟨hj, rfl, rfl, rfl⟩
  · have he := (State.endJog_spec hj).1.engine b
    rw [State.setEngine_engine, if_pos rfl] at he
    exact ⟨congrArg (·.jog) he, congrArg (·.state) he, congrArg (·.resume) he, congrArg (·.causes) he⟩

/-- R53: ending the jog of a boom that the arbiter has told something. -/
theorem FlowTouches.endJog (h : FlowTouches s u b) :
    FlowTouches (s.setEngine b { s.engine b with jog := none }) (u.endJog b) b := by
  have hset := h.setEngine (fun e => { e with jog := none }) (fun _ _ _ => rfl) (fun _ => rfl) (fun _ => rfl)
  by_cases hj : (u.engine b).jog = none
  · rw [State.endJog_none hj]
    have hu : { u.engine b with jog := none } = u.engine b := by rw [← hj]
    rwa [hu, State.setEngine_self] at hset
  · exact hset.trans ((State.endJog_spec hj).1.boom b)

/-- R42, R53: TRIP has reached boom `b`, and its jog is ended once the other boom is served. -/
theorem HoldReached.of_trip (h : CauseTaken s t b .trip) (ht : FlowTouches t u b) (hr : ∀ e, t.raised e = true → u.raised e = true)
    (hu : Unasked b t u) : HoldReached s (u.endJog b) b .trip := by
  have hres : (u.engine b).resume = (t.engine b).resume := congrArg (·.resume) ht.engine
  have hcau : (u.engine b).causes = (t.engine b).causes := congrArg (·.causes) ht.engine
  obtain ⟨-, e2, e3, e4⟩ := u.endJog_engine b
  obtain ⟨h1, h2, h3⟩ := h
  refine ⟨fun he => ?_, fun he => ?_, fun he => ?_⟩
  · obtain ⟨k1, k2, k3, k4, k5⟩ := h1 he
    refine ⟨e2.trans (ht.state.trans k1), e3.trans (hres.trans k2), e4.trans (hcau.trans k3), State.endJog_raised (hr _ k4), ?_⟩
    by_cases hj : (u.engine b).jog = none
    · rw [State.endJog_none hj]
      exact hu.atRest k5
    · exact (State.endJog_spec hj).2
  · obtain ⟨k1, k2, k3⟩ := h2 he
    exact ⟨e2.trans (ht.state.trans k1), e3.trans (hres.trans k2), e4.trans (hcau.trans k3)⟩
  · obtain ⟨k1, k2⟩ := h3 he
    refine ⟨e2.trans (ht.state.trans k1), ?_⟩
    have := (k2.trans ht).endJog
    rwa [State.setEngine_engine, if_pos rfl, State.setEngine_setEngine] at this

/-! ## The canopy -/

theorem Unasked.of_canopyStop (s : State) : Unasked b s s.canopyStop :=
  (Unasked.of_eq (PairsOnly.of_request s .canopy _).arb (by cases b <;> rfl)).trans
    (of_withdraw_other (by simp) (s.request .canopy (.off false)))

/-- R100: the canopy at a trip. -/
theorem State.canopyTrip_spec (s : State) :
    (s.canopy.state = .raising ∨ s.canopy.state = .lowering →
      s.canopyTrip.canopy.state = .lost ∧ s.canopyTrip.raised .canopyLost = true ∧ HoldsNone s.canopyTrip .canopy) ∧
    (s.canopy.state ≠ .raising → s.canopy.state ≠ .lowering → s.canopyTrip = s) ∧
    (∀ b, FlowTouches s s.canopyTrip b ∧ Unasked b s s.canopyTrip) ∧
    (∀ e, s.raised e = true → s.canopyTrip.raised e = true) ∧ s.canopyTrip.estop = s.estop := by
  let v := s.canopyGoto .lost .none
  obtain ⟨k1, k2, k3, -, -⟩ := v.canopyStop_spec
  have hv (b : BoomId) : v.boom b = s.boom b := by cases b <;> rfl
  have hmove (h : s.canopy.state = .raising ∨ s.canopy.state = .lowering) : s.canopyTrip = v.canopyStop.raise .canopyLost := by
    unfold State.canopyTrip
    rcases h with h | h <;> rw [h]
  have hstay (h1 : s.canopy.state ≠ .raising) (h2 : s.canopy.state ≠ .lowering) : s.canopyTrip = s := by
    unfold State.canopyTrip
    split
    · next h => exact absurd h h1
    · next h => exact absurd h h2
    · rfl
  refine ⟨fun h => ?_, hstay, fun b => ?_, fun e he => ?_, ?_⟩
  · rw [hmove h]
    exact ⟨congrArg Canopy.state k3, State.raised_raise _ (by decide), k2⟩
  · by_cases h : s.canopy.state = .raising ∨ s.canopy.state = .lowering
    · have hraise (w : State) : FlowTouches w (w.raise .canopyLost) b := ⟨by cases b <;> rfl, .inl (by cases b <;> rfl)⟩
      have hgoto : FlowTouches s v b := ⟨by cases b <;> rfl, .inl (by cases b <;> rfl)⟩
      rw [hmove h]
      exact ⟨(hgoto.trans (k1.boom b)).trans (hraise _), ((Unasked.of_eq rfl (hv b)).trans (.of_canopyStop v)).trans (.of_raise _ _)⟩
    · rw [hstay (fun k => h (.inl k)) fun k => h (.inr k)]
      exact ⟨.refl _ _, .of_eq rfl rfl⟩
  · by_cases h : s.canopy.state = .raising ∨ s.canopy.state = .lowering
    · rw [hmove h]
      refine State.raised_of_raised ?_ _
      rw [k1.raised]
      exact he
    · rwa [hstay (fun k => h (.inl k)) fun k => h (.inr k)]
  · by_cases h : s.canopy.state = .raising ∨ s.canopy.state = .lowering
    · rw [hmove h]
      have := congrArg State.estop k1.1
      exact this
    · rw [hstay (fun k => h (.inl k)) fun k => h (.inr k)]

/-! ## Coils behind closed gates -/

/-- R111, R107: every gate is closed by the latch, and the pairs stand as closing them left the pairs of `s`. -/
def CoilsHeld (s t : State) : Prop :=
  t.trip = true ∧ ∀ i, (t.pair i).coil = .off ∧ (t.pair i).last = (s.pair i).last ∧
    (t.pair i).dead = (match (s.pair i).coil with
      | .driving _ => s.cal.deadTime i
      | _ => (s.pair i).dead)

theorem State.gateOpen_of_trip (h : s.trip = true) (p : PairId) : s.gateOpen p = false := by
  cases p <;> simp [State.gateOpen, h]

theorem CoilsHeld.kept (s : State) : EngineKept (CoilsHeld s) where
  same h k := ⟨h.trip.trans k.1, fun i => by rw [h.pair]; exact k.2 i⟩
  engine b e _ k := ⟨by simpa using k.1, by simpa using k.2⟩
  clearActive b k := ⟨by simpa using k.1, by simpa using k.2⟩
  request {u} p r k := by
    refine ⟨(PairsOnly.of_request u p r).trip.trans k.1, fun i => ?_⟩
    rw [State.request_pair]
    split
    · next hi =>
      subst hi
      obtain ⟨h1, h2, h3⟩ := k.2 i
      rw [Pair.settle_off (.inr (u.gateOpen_of_trip k.1 i)), Pair.loaded_of_off (by cases r <;> exact h1)]
      cases r <;> exact ⟨rfl, h2, h3⟩
    · exact k.2 i
  submit _ _ _ k := k
  remove _ k := k
  filing _ _ k := k
  room _ k := k

theorem CoilsHeld.of_canopyTrip {u : State} (h : CoilsHeld s u) : CoilsHeld s u.canopyTrip := by
  unfold State.canopyTrip
  split
  · exact (CoilsHeld.kept s).raise _ ((CoilsHeld.kept s).withdraw _ ((CoilsHeld.kept s).request .canopy _ (by exact h)))
  · exact (CoilsHeld.kept s).raise _ ((CoilsHeld.kept s).withdraw _ ((CoilsHeld.kept s).request .canopy _ (by exact h)))
  · exact h

theorem State.settlePair_pair_trip (h : s.trip = true) (i : PairId) :
    ((s.settlePair i).pair i).coil = .off ∧ ((s.settlePair i).pair i).last = (s.pair i).last ∧
      ((s.settlePair i).pair i).dead = (match (s.pair i).coil with
        | .driving _ => s.cal.deadTime i
        | _ => (s.pair i).dead) := by
  rw [State.settlePair_pair, if_pos rfl, Pair.settle_off (.inr (s.gateOpen_of_trip h i)), s.gateOpen_of_trip h i]
  refine ⟨rfl, rfl, ?_⟩
  obtain ⟨_, _, _, coil, _, _, _, _⟩ := s.pair i
  cases coil <;> simp [Pair.loaded, Pair.stops]

end

/-- Settles O40. -/
theorem tripLatchStopsTheRig : Obligations.TripLatchStopsTheRig := by
  unfold Obligations.TripLatchStopsTheRig
  intro s hrun lv
  have hexec : exec (.switchQualifiedChange .estop) s = .next (s.qualify .estop) := by
    show Host.Outcome.next (s.whenRunning _) = _
    rw [State.whenRunning_of_running hrun]
  have hval : s.qualify .estop = if s.estop.level then lv false else (lv true).latchTrip := by
    show (lv (!s.estop.level)).switchChanged .estop (!s.estop.level) = _
    cases s.estop.level <;> rfl
  refine ⟨fun hl => by rw [hexec, hval, if_pos hl], fun hl ht => ?_, fun hl ht => ?_⟩
  · rw [hexec, hval, if_neg (by simp [hl]), State.latchTrip, if_pos ht]
  · let u : State := { lv true with trip := true }
    let s1 := u.settleAll
    let v1 := s1.holdCause .A .trip
    let v2 := v1.holdCause .B .trip
    let v3 := v2.endJog .A
    let v4 := v3.endJog .B
    let v5 := v4.canopyTrip
    have hlatch : exec (.switchQualifiedChange .estop) s = .next (v5.raise .tripLatched) := by
      rw [hexec, hval, if_neg (by simp [hl]), State.latchTrip, if_neg (by show ¬s.trip = true; simp [ht])]
    have hp : PairsOnly u s1 := .of_settleAll u
    have hcoils : CoilsHeld s (v5.raise .tripLatched) := by
      have k := CoilsHeld.kept s
      refine k.raise _ (CoilsHeld.of_canopyTrip (k.endJog .B (k.endJog .A (k.holdCause .B _ (k.holdCause .A _ ⟨hp.trip, fun i => ?_⟩)))))
      have hpair : u.pair i = s.pair i := by rcases i with ⟨_ | _, _ | _ | _⟩ | _ <;> rfl
      rw [State.settleAll_pair]
      have := u.settlePair_pair_trip rfl i
      rw [hpair] at this
      exact this
    obtain ⟨c1, c2, c3, c4, c5⟩ := v4.canopyTrip_spec
    have m1 := EngineMoves.of_holdCause s1 .A .trip
    have m2 := EngineMoves.of_holdCause v1 .B .trip
    have m3 := EngineMoves.of_endJog v2 .A
    have m4 := EngineMoves.of_endJog v3 .B
    have hstate {b : BoomId} {x y : State} (h : EngineMoves b x y) : y.canopy.state = x.canopy.state := congrArg (·.canopy.state) h.1
    have hestop {b : BoomId} {x y : State} (h : EngineMoves b x y) : y.estop = x.estop := by
      have := congrArg State.estop h.1
      exact this
    have hcanopy : v4.canopy.state = s.canopy.state :=
      (hstate m4).trans ((hstate m3).trans ((hstate m2).trans ((hstate m1).trans (congrArg (·.canopy.state) hp))))
    have hlast (b : BoomId) : FlowTouches v4 (v5.raise .tripLatched) b ∧ Unasked b v4 (v5.raise .tripLatched) :=
      ⟨(c3 b).1.trans ⟨by cases b <;> rfl, .inl (by cases b <;> rfl)⟩, (c3 b).2.trans (.of_raise _ _)⟩
    have hraise (e : Event) (h : v4.raised e = true) : (v5.raise .tripLatched).raised e = true := State.raised_of_raised (c4 e h) _
    have hfirst (b : BoomId) : FlowTouches s s1 b := by
      have hb : u.boom b = s.boom b := by cases b <;> rfl
      have h1 := hp.boom b
      have h2 := hp.engine b
      rw [hb] at h1
      rw [show u.engine b = s.engine b from congrArg BoomState.engine hb] at h2
      refine ⟨?_, .inl (congrArg Engine.record h2)⟩
      rw [h1, h2]
      rfl
    have hA : HoldReached s (v5.raise .tripLatched) .A .trip := by
      have h3 : HoldReached s1 v3 .A .trip :=
        .of_trip (s1.holdCause_taken .A .trip) m2.2.2.1 (fun e he => v1.holdCause_raised .B .trip he) (.of_holdCause (by decide) v1 .trip)
      have h4 : HoldReached s1 v4 .A .trip :=
        h3.followed m4.2.2.1 (fun e he => State.endJog_raised he) (.of_endJog (by decide) v3)
      exact (h4.followed (hlast .A).1 hraise (hlast .A).2).of_touched (hfirst .A)
    have hB : HoldReached s (v5.raise .tripLatched) .B .trip := by
      have h4 : HoldReached v1 v4 .B .trip :=
        .of_trip (v1.holdCause_taken .B .trip) m3.2.2.1 (fun e he => State.endJog_raised he) (.of_endJog (by decide) v2)
      exact ((h4.followed (hlast .B).1 hraise (hlast .B).2).of_touched m1.2.2.1).of_touched (hfirst .B)
    have hjog : ∀ b, (v4.engine b).jog = none
      | .A => (congrArg (·.jog) m4.2.2.1.engine).trans (v2.endJog_engine .A).1
      | .B => (v3.endJog_engine .B).1
    refine ⟨_, hlatch, hcoils.1, ?_, State.raised_raise _ (by decide), hA, hB, fun b => ?_, hcoils.2, fun hc => ?_, fun h1 h2 => ?_⟩
    · have hs : s1.estop = u.estop := by
        have := congrArg State.estop hp
        exact this
      have h : v5.estop = u.estop :=
        c5.trans ((hestop m4).trans ((hestop m3).trans ((hestop m2).trans ((hestop m1).trans hs))))
      exact congrArg SwitchInput.level h
    · exact (congrArg (·.jog) (hlast b).1.engine).trans (hjog b)
    · obtain ⟨k1, k2, k3⟩ := c1 (by rw [hcanopy]; exact hc)
      exact ⟨k1, State.raised_of_raised k2 _, k3⟩
    · show v5.canopy.state = _
      rw [show v5 = v4 from c2 (by rwa [hcanopy]) (by rwa [hcanopy]), hcanopy]

end Sys2Proof.Machine
end

section
/-! PROOF. Cartridge measurements (R162 to R166, R171). -/
namespace Sys2Proof.Machine

/-- R166: the two counts that a passage moves. -/
def Sensing.counting (x : Sensing) (passages : BitVec 16) (magazine : Nat) : Sensing := { x with passages := passages, magazine := magazine }

theorem Sensing.get_counting (x : Sensing) (p : BitVec 16) (m : Nat) (i : Setting) : (x.counting p m).get i = x.get i := by cases i <;> rfl

theorem Sensing.decide_get (x : Sensing) (m : Bool) (i : Setting) : (x.decide m).get i = x.get i := by
  rw [Sensing.decide_eq]
  cases i <;> rfl

theorem Sensing.twoOfThree_iff (x : Sensing) :
    x.twoOfThree = true ↔ 2 ≤ (if x.s1.mark then 1 else 0) + (if x.s2.mark then 1 else 0) + (if x.s3.mark then 1 else 0) := by
  unfold Sensing.twoOfThree
  cases x.s1.mark <;> cases x.s2.mark <;> cases x.s3.mark <;> decide

theorem marked_iff (k : Option Nat) (threshold c : Nat) : marked k threshold c = true ↔ ∃ b, k = some b ∧ c < b - threshold := by
  cases k <;> simp [marked]

theorem baselineStep_eq (k : Option Nat) (c : Nat) :
    baselineStep k c = (match k with
      | none => c
      | some b => ((b : Int) + Int.tdiv ((c : Int) - b) 16).toNat) := by
  cases k <;> rfl

/-- R165: the presence in fixed mode, by a run of two. -/
theorem Sensing.decide_fixed {x : Sensing} (h : x.hop = false) (m : Bool) :
    (m = x.present → (x.decide m).present = x.present ∧ (x.decide m).agree = 0) ∧
      (m ≠ x.present → x.agree = 0 → (x.decide m).present = x.present ∧ (x.decide m).agree = 1) ∧
      (m ≠ x.present → 1 ≤ x.agree → (x.decide m).present = m ∧ (x.decide m).agree = 0) := by
  unfold Sensing.decide
  rw [if_neg (by simp [h])]
  refine ⟨fun hm => ?_, fun hm h0 => ?_, fun hm h1 => ?_⟩
  · rw [if_pos hm]
    exact ⟨rfl, rfl⟩
  · rw [if_neg hm, if_neg (by omega), h0]
    exact ⟨rfl, rfl⟩
  · rw [if_neg hm, if_pos (by omega)]
    exact ⟨by cases m <;> cases hx : x.present <;> simp_all, rfl⟩

/-- R163, R164: the state of the measured setting after a measurement. -/
def Sensing.taken (x : Sensing) (home : Bool) (c : Nat) : SettingState :=
  let y := x.get x.setting
  { baseline := if home && !x.present then some (baselineStep y.baseline c) else y.baseline
    lastC := some c
    mark := if x.hop then marked y.baseline x.threshold c else y.mark }

/-- R162 to R164, R171: the block as the presence is decided. -/
def Sensing.settled (x : Sensing) (threshold : Nat) (home : Bool) (c : Nat) : Sensing :=
  { x.put x.setting (x.taken home c) with
    setting := if x.restart then Setting.s1 else x.setting.next x.hop
    restart := false
    threshold := threshold }

theorem Sensing.measured_eq (x : Sensing) (threshold : Nat) (home : Bool) (c : Nat) :
    x.measured threshold home c = (x.settled threshold home c).decide (marked (x.get x.setting).baseline x.threshold c) := rfl

theorem Sensing.settled_keeps (x : Sensing) (threshold : Nat) (home : Bool) (c : Nat) :
    (x.settled threshold home c).hop = x.hop ∧ (x.settled threshold home c).window = x.window ∧
      (x.settled threshold home c).present = x.present ∧ (x.settled threshold home c).agree = x.agree := by
  unfold Sensing.settled Sensing.put
  cases x.setting <;> exact ⟨rfl, rfl, rfl, rfl⟩

theorem Sensing.settled_get (x : Sensing) (threshold : Nat) (home : Bool) (c : Nat) (i : Setting) :
    (x.settled threshold home c).get i = if i = x.setting then x.taken home c else x.get i := by
  have hput : (x.settled threshold home c).get i = (x.put x.setting (x.taken home c)).get i := by
    unfold Sensing.settled
    cases i <;> rfl
  rw [hput]
  split
  · next h =>
    rw [h]
    exact Sensing.get_put_self x _ _
  · next h => exact Sensing.get_put_of_ne x h _

/-- R164: the baseline kept, or moved at home with the tube ABSENT. -/
def Sensing.nextBaseline (x : Sensing) (home : Bool) (c : Nat) : Option Nat :=
  if home = true ∧ x.present = false then some (baselineStep (x.get x.setting).baseline c) else (x.get x.setting).baseline

/-- R162 to R165: a block after a measurement, whatever the two counts of passages have become. -/
theorem Sensing.measured_spec (x : Sensing) (threshold : Nat) (home : Bool) (c : Nat) (p : BitVec 16)
    (q : Nat) (m : Bool) (z : Sensing)
    (hm : m = marked (x.get x.setting).baseline x.threshold c) (hz : z = (x.measured threshold home c).counting p q) :
    z.threshold = threshold ∧ z.hop = x.hop ∧ z.window = x.window ∧ z.restart = false ∧
      (z.setting = if x.restart then Setting.s1 else x.setting.next x.hop) ∧
      (z.get x.setting).lastC = some c ∧ (z.get x.setting).baseline = x.nextBaseline home c ∧
      (∀ i, i ≠ x.setting → z.get i = x.get i) ∧
      (x.hop = true → (z.get x.setting).mark = m ∧ (z.present = true ↔
        2 ≤ (if z.s1.mark then 1 else 0) + (if z.s2.mark then 1 else 0) + (if z.s3.mark then 1 else 0))) ∧
      (x.hop = false → (m = x.present → z.present = x.present ∧ z.agree = 0) ∧
        (m ≠ x.present → x.agree = 0 → z.present = x.present ∧ z.agree = 1) ∧
        (m ≠ x.present → 1 ≤ x.agree → z.present = m ∧ z.agree = 0)) := by
  obtain ⟨hhop, hwin, hpre, hagr⟩ := Sensing.settled_keeps x threshold home c
  have hget : ∀ i, z.get i = (x.settled threshold home c).get i := fun i => by
    rw [hz, Sensing.get_counting, Sensing.measured_eq, Sensing.decide_get]
  have hown := (hget x.setting).trans (Sensing.settled_get x threshold home c x.setting)
  rw [if_pos rfl] at hown
  rw [Sensing.measured_eq, ← hm] at hz
  generalize hu : x.settled threshold home c = u at *
  have hkeeps := Sensing.decide_eq u m
  have hset : u.setting = if x.restart then Setting.s1 else x.setting.next x.hop := by rw [← hu]; rfl
  have hthr : u.threshold = threshold ∧ u.restart = false := by rw [← hu]; exact ⟨rfl, rfl⟩
  have hfix := fun h => Sensing.decide_fixed (x := u) (hhop.trans h) m
  rw [hpre, hagr] at hfix
  have hzp : z.present = (u.decide m).present ∧ z.agree = (u.decide m).agree := by rw [hz]; exact ⟨rfl, rfl⟩
  rw [← hzp.1, ← hzp.2] at hfix
  rw [hkeeps] at hz
  refine ⟨?_, ?_, ?_, ?_, ?_, by rw [hown]; rfl, ?_, fun i hi => ?_, fun h => ⟨?_, ?_⟩, hfix⟩
  · rw [hz]; exact hthr.1
  · rw [hz]; exact hhop
  · rw [hz]; exact hwin
  · rw [hz]; exact hthr.2
  · rw [hz]; exact hset
  · rw [hown]
    cases hhome : home <;> cases hp : x.present <;> simp [Sensing.nextBaseline, Sensing.taken, hp]
  · rw [hget, ← hu, Sensing.settled_get, if_neg hi]
  · rw [hown, hm]
    exact if_pos h
  · have hdec : (u.decide m).present = u.twoOfThree := by
      unfold Sensing.decide
      rw [if_pos (hhop.trans h)]
    rw [hzp.1, hdec, Sensing.twoOfThree_iff, hz]
    exact Iff.rfl

/-- R165, R166: the presence ends away from home. -/
def State.passed (s : State) (b : BoomId) (z : Sensing) : Prop :=
  (s.sensing b).present = true ∧ z.present = false ∧ s.closed (.ihome b) = false

theorem State.setSensing_setSensing (s : State) (b : BoomId) (x y : Sensing) :
    (s.setSensing b x).setSensing b y = s.setSensing b y := by
  cases b <;> rfl

theorem State.measurementEnd_passage (s : State) (b : BoomId) (n : Nat) (z : Sensing)
    (hz : (s.sensing b).measured (s.cal.threshold b) (s.closed (.ihome b)) (min n 65535) = z) (h : s.passed b z) :
    s.measurementEnd b n =
      (s.setSensing b (z.counting (z.passages + 1) (z.magazine - 1))).enginePassage b := by
  obtain ⟨h1, h2, h3⟩ := h
  unfold State.measurementEnd State.passage
  dsimp only
  rw [hz, if_pos (by simp [h1, h2, h3])]
  rw [State.setSensing_sensing, if_pos rfl, State.setSensing_setSensing]
  rfl

theorem State.measurementEnd_quiet (s : State) (b : BoomId) (n : Nat) (z : Sensing)
    (hz : (s.sensing b).measured (s.cal.threshold b) (s.closed (.ihome b)) (min n 65535) = z) (h : ¬s.passed b z) :
    s.measurementEnd b n = s.setSensing b z := by
  unfold State.measurementEnd
  dsimp only
  rw [hz, if_neg]
  simpa [State.passed] using h

/-- R170: the engines that count a passage. -/
def Engine.strokes (e : Engine) : Prop :=
  e.sub ≠ .awaitingResin ∧ (e.state = .insert ∨ e.state = .hold ∧ e.resume = some .insert)

theorem State.enginePassage_engine (s : State) (b : BoomId) :
    ((s.engine b).strokes → (s.enginePassage b).engine b =
        { s.engine b with tally := (s.engine b).tally + 1, passed := min ((s.engine b).passed + 1) 255 }) ∧
      (¬(s.engine b).strokes → (s.enginePassage b).engine b = s.engine b) ∧
      (s.enginePassage b).sensing b = s.sensing b ∧ (s.enginePassage b).events = s.events ∧ (s.enginePassage b).arb = s.arb := by
  unfold State.enginePassage Engine.strokes
  dsimp only
  split
  · next h => exact ⟨fun _ => by simp, fun hn => absurd ⟨h.2, h.1⟩ hn, by simp, by simp, by simp⟩
  · next h => exact ⟨fun hy => absurd ⟨hy.2, hy.1⟩ h, fun _ => rfl, rfl, rfl, rfl⟩

theorem Setting.next_hop (i : Setting) : (i.next true = match i with
      | .s1 => .s2
      | .s2 => .s3
      | .s3 => .s1) ∧ i.next false = .s1 := by
  cases i <;> exact ⟨rfl, rfl⟩

/-- Settles O47. -/
theorem measurementEndsAndPassages : Obligations.MeasurementEndsAndPassages := by
  unfold Obligations.MeasurementEndsAndPassages
  intro b n s hrun x e c y home
  have hexec : exec (.cartridgeMeasurementEnd b n) s = .next (s.measurementEnd b n) := by
    show Host.Outcome.next (s.whenRunning _) = _
    rw [State.whenRunning_of_running hrun]
  obtain ⟨-, -, -, -, hmag, hpass⟩ := Sensing.measured_frame x (s.cal.threshold b) home c
  obtain ⟨w, hw⟩ : ∃ w, x.measured (s.cal.threshold b) home c = w := ⟨_, rfl⟩
  have hcounts : w.passages = x.passages ∧ w.magazine = x.magazine := by
    rw [← hw]
    exact ⟨hpass, hmag⟩
  have hends : ∃ p q, (s.measurementEnd b n).sensing b = w.counting p q ∧
      (s.passed b w → p = x.passages + 1 ∧ q = x.magazine - 1) ∧
      (¬s.passed b w → p = x.passages ∧ q = x.magazine) ∧
      (s.passed b w ∧ e.strokes → (s.measurementEnd b n).engine b =
        { e with tally := e.tally + 1, passed := min (e.passed + 1) 255 }) ∧
      (¬(s.passed b w ∧ e.strokes) → (s.measurementEnd b n).engine b = e) ∧
      (s.measurementEnd b n).events = s.events ∧ (s.measurementEnd b n).arb = s.arb := by
    by_cases hp : s.passed b w
    · rw [State.measurementEnd_passage s b n w hw hp]
      obtain ⟨hy, hn, hsen, hev, harb⟩ :=
        State.enginePassage_engine (s.setSensing b (w.counting (w.passages + 1) (w.magazine - 1))) b
      rw [State.setSensing_engine] at hy hn
      refine ⟨w.passages + 1, w.magazine - 1, hsen.trans (by simp), fun _ => ?_, fun h => absurd hp h, fun h => hy h.2,
        fun h => hn fun hs => h ⟨hp, hs⟩, hev.trans (by simp), harb.trans (by simp)⟩
      rw [hcounts.1, hcounts.2]
      exact ⟨rfl, rfl⟩
    · rw [State.measurementEnd_quiet s b n w hw hp]
      exact ⟨w.passages, w.magazine, by simp [Sensing.counting], fun h => absurd h hp, fun _ => hcounts,
        fun h => absurd h.1 hp, fun _ => by simp [e], by simp, by simp⟩
  obtain ⟨p, q, hsen, hp, hnp, he, hne, hev, harb⟩ := hends
  obtain ⟨hthr, hhop, hwin, hres, hset, hlast, hbase, hother, hhopping, hfixed⟩ :=
    Sensing.measured_spec x (s.cal.threshold b) home c p q _ _ rfl (hsen.trans (by rw [← hw]))
  have hpres : ((s.measurementEnd b n).sensing b).present = w.present := by rw [hsen]; rfl
  have hpassed : (x.present = true ∧ ((s.measurementEnd b n).sensing b).present = false ∧ home = false) ↔ s.passed b w := by
    rw [hpres]
    exact Iff.rfl
  refine ⟨_, marked y.baseline x.threshold c, hexec, marked_iff _ _ _, hthr, hhop, hwin, hres, fun h => ?_, hlast, hbase,
    hother, fun h => ⟨(hhopping h).1, (hhopping h).2, fun hr => ?_⟩, fun h => ⟨(hfixed h).1, (hfixed h).2.1, (hfixed h).2.2, ?_⟩, ?_⟩
  · rw [hset, if_pos h]
  · rw [hset, if_neg (by simp [hr]), h]
    exact (Setting.next_hop _).1
  · rw [hset, h]
    split
    · rfl
    · exact (Setting.next_hop _).2
  · rw [hpassed, hsen]
    exact ⟨hp, hnp, fun h => he ⟨h.1, h.2⟩, fun h => hne fun hc => h ⟨hc.1, hc.2⟩, hev, harb⟩

end Sys2Proof.Machine
end

section
/-! PROOF. What a run of preemptions does (R82, R83, R85): which grants go, in which order, and where they wait. -/
namespace Sys2Proof.Machine

/-! ## Places in a list -/

theorem idxOf_filter_lt {α : Type} [DecidableEq α] {p : α → Bool} {l : List α} {x y : α} (hx : p x = true) (hy : p y = true)
    (h : (l.filter p).idxOf x < (l.filter p).idxOf y) : l.idxOf x < l.idxOf y := by
  induction l with
  | nil => simp at h
  | cons z l ih =>
    by_cases hz : p z = true
    · rw [List.filter_cons_of_pos hz] at h
      by_cases hzx : z = x
      · subst hzx
        by_cases hzy : z = y
        · subst hzy
          exact absurd h (lt_irrefl _)
        · rw [List.idxOf_cons_self, List.idxOf_cons_ne _ hzy]
          omega
      · by_cases hzy : z = y
        · subst hzy
          simp at h
        · rw [List.idxOf_cons_ne _ hzx, List.idxOf_cons_ne _ hzy] at h ⊢
          exact Nat.succ_lt_succ (ih (Nat.lt_of_succ_lt_succ h))
    · rw [List.filter_cons_of_neg hz] at h
      have hzx : z ≠ x := by rintro rfl; exact hz hx
      have hzy : z ≠ y := by rintro rfl; exact hz hy
      rw [List.idxOf_cons_ne _ hzx, List.idxOf_cons_ne _ hzy]
      exact Nat.succ_lt_succ (ih h)

/-- Where no requester holds two requests, a requester's grant is the grant itself. -/
theorem filter_who_eq {gs : List FlowReq} {r : FlowReq} (hn : (gs.map (·.who)).Nodup) (hr : r ∈ gs) :
    gs.filter (fun x => x.who != r.who) = gs.filter (fun x => x ≠ r) := by
  refine List.filter_congr fun x hx => ?_
  by_cases hxr : x = r
  · simp [hxr]
  · have hw : x.who ≠ r.who := fun h => hxr (List.inj_on_of_nodup_map hn hx hr h)
    simp [hxr, hw]

/-! ## A run of preemptions -/

/-- R82, R85: preempting from `a`, one victim of a class above `cls` after another, each while the demands granted leave it
`short`, gives `c`; the grants of `gone` go, in that order. -/
inductive Preempts (cls : Nat) (short : Nat → Prop) : Arbiter → List FlowReq → Arbiter → Prop
  | done (a : Arbiter) : Preempts cls short a [] a
  | go {a c : Arbiter} {r : FlowReq} {gone : List FlowReq} (ho : short a.grantedSum) (hv : victim cls a.grants = some r)
      (h : Preempts cls short (a.preempt r) gone c) : Preempts cls short a (r :: gone) c

/-- The notes of the grants that go. -/
def preemptNotes (gone : List FlowReq) : List FlowNote := gone.map fun r => ⟨r.who, false⟩

theorem Arbiter.preemptFor_preempts (need cls n : Nat) (a : Arbiter) :
    ∃ gone, Preempts cls (fun k => a.budget - k < need) a gone (a.preemptFor need cls n).1 ∧
      (a.preemptFor need cls n).2 = preemptNotes gone := by
  induction n generalizing a with
  | zero => exact ⟨[], .done a, rfl⟩
  | succ n ih =>
    unfold Arbiter.preemptFor
    split
    · exact ⟨[], .done a, rfl⟩
    · next hf =>
      split
      · exact ⟨[], .done a, rfl⟩
      · next r hv =>
        obtain ⟨gone, hg, hn⟩ := ih (a.preempt r)
        exact ⟨r :: gone, .go (Nat.not_le.1 hf) hv hg, congrArg (FlowNote.mk r.who false :: ·) hn⟩

theorem Arbiter.fitBudget_preempts (n : Nat) (a : Arbiter) :
    ∃ gone, Preempts 0 (fun k => a.budget < k) a gone (a.fitBudget n).1 ∧ (a.fitBudget n).2 = preemptNotes gone := by
  induction n generalizing a with
  | zero => exact ⟨[], .done a, rfl⟩
  | succ n ih =>
    unfold Arbiter.fitBudget
    split
    · exact ⟨[], .done a, rfl⟩
    · next hf =>
      split
      · exact ⟨[], .done a, rfl⟩
      · next r hv =>
        obtain ⟨gone, hg, hn⟩ := ih (a.preempt r)
        exact ⟨r :: gone, .go (Nat.not_le.1 hf) hv hg, congrArg (FlowNote.mk r.who false :: ·) hn⟩

namespace Preempts
variable {cls : Nat} {short : Nat → Prop} {a c : Arbiter} {gone : List FlowReq}

theorem budget (h : Preempts cls short a gone c) : c.budget = a.budget ∧ c.counter = a.counter := by
  induction h with
  | done a => exact ⟨rfl, rfl⟩
  | go _ _ _ ih => exact ih

theorem keeps (h : Preempts cls short a gone c) (hn : (a.held.map (·.who)).Nodup) : ArbKeeps a c := by
  induction h with
  | done a => exact .refl a
  | go _ hv _ ih =>
    have hk := Arbiter.preempt_keeps hn (victim_mem hv).1
    exact hk.trans (ih (hk.nodup hn))

theorem mem (h : Preempts cls short a gone c) : ∀ r ∈ gone, r ∈ a.grants ∧ cls < r.cls := by
  induction h with
  | done a => exact fun r hr => nomatch hr
  | go _ hv _ ih =>
    exact List.forall_mem_cons.2 ⟨victim_mem hv, fun r hr => ⟨(List.mem_filter.1 (ih r hr).1).1, (ih r hr).2⟩⟩

theorem grants (h : Preempts cls short a gone c) (hn : (a.held.map (·.who)).Nodup) :
    c.grants = a.grants.filter (fun r => r ∉ gone) := by
  induction h with
  | done a => simp
  | @go a c r gone _ hv _ ih =>
    have hr := (victim_mem hv).1
    rw [ih ((Arbiter.preempt_keeps hn hr).nodup hn)]
    show (a.grants.filter _).filter _ = _
    rw [filter_who_eq (Arbiter.held_nodup_grants hn) hr, List.filter_filter]
    refine List.filter_congr fun x _ => ?_
    simp [Bool.and_comm]

theorem waits (h : Preempts cls short a gone c) : c.waits.Perm (a.waits ++ gone.map FlowReq.waiting) := by
  induction h with
  | done a => simp
  | @go a c r gone _ _ _ ih =>
    have hj : (joinWaits r.waiting a.waits ++ gone.map FlowReq.waiting).Perm
        ((r.waiting :: a.waits) ++ gone.map FlowReq.waiting) := (joinWaits_perm _ _).append_right _
    exact (ih.trans hj).trans List.perm_middle.symm

/-- Each grant that goes is preempted before those that go later and before those of its classes that stay. -/
theorem before (h : Preempts cls short a gone c) (hn : (a.held.map (·.who)).Nodup) :
    gone.Pairwise (PreemptedBefore a) ∧ ∀ r ∈ gone, ∀ x ∈ c.grants, cls < x.cls → PreemptedBefore a r x := by
  induction h with
  | done a => exact ⟨.nil, fun r hr => nomatch hr⟩
  | @go a c r gone _ hv h ih =>
    have hr := (victim_mem hv).1
    have hn' := (Arbiter.preempt_keeps hn hr).nodup hn
    obtain ⟨h1, h2⟩ := ih hn'
    have hsub : (a.preempt r).grants = a.grants.filter (fun x => x ≠ r) := filter_who_eq (Arbiter.held_nodup_grants hn) hr
    have hlift : ∀ {x y}, x ∈ (a.preempt r).grants → y ∈ (a.preempt r).grants → PreemptedBefore (a.preempt r) x y →
        PreemptedBefore a x y := by
      intro x y hx hy hb
      rw [hsub] at hx hy
      refine hb.imp id fun hb => ⟨hb.1, ?_⟩
      rw [hsub] at hb
      exact idxOf_filter_lt (List.mem_filter.1 hy).2 (List.mem_filter.1 hx).2 hb.2
    have hfirst : ∀ x ∈ (a.preempt r).grants, cls < x.cls → PreemptedBefore a r x := by
      intro x hx hc
      rw [hsub] at hx
      obtain ⟨hxa, hxr⟩ := List.mem_filter.1 hx
      exact (victim_first (Arbiter.held_nodup_grants hn).of_map hv x hxa hc (by simpa using hxr)).imp id
        fun k => ⟨k.1.symm, k.2⟩
    have hstay : ∀ x ∈ c.grants, x ∈ (a.preempt r).grants := fun x hx =>
      (List.mem_filter.1 ((h.grants hn') ▸ hx)).1
    refine ⟨List.pairwise_cons.2 ⟨fun x hx => hfirst x (h.mem x hx).1 (h.mem x hx).2, ?_⟩,
      List.forall_mem_cons.2 ⟨fun x hx => hfirst x (hstay x hx), fun y hy x hx hc => ?_⟩⟩
    · exact h1.imp_of_mem fun hx hy => hlift (h.mem _ hx).1 (h.mem _ hy).1
    · exact hlift (h.mem y hy).1 (hstay x hx) (h2 y hy x hx hc)

/-- With the grant preempted last, the flow was still short. -/
theorem last (h : Preempts cls short a gone c) (hn : (a.held.map (·.who)).Nodup) (hg : gone ≠ []) :
    ∃ front v, gone = front ++ [v] ∧ short (c.grantedSum + v.demand) := by
  induction h with
  | done a => exact absurd rfl hg
  | @go a c r gone ho hv h ih =>
    have hr := (victim_mem hv).1
    rcases gone.eq_nil_or_concat with rfl | ⟨_, _, hgone⟩
    · cases h
      refine ⟨[], r, rfl, ?_⟩
      rwa [Arbiter.preempt_sum hn hr]
    · obtain ⟨front, v, hf, hov⟩ := ih ((Arbiter.preempt_keeps hn hr).nodup hn) (by simp [hgone])
      exact ⟨r :: front, v, by rw [hf]; rfl, hov⟩

theorem lastPreempted (h : Preempts cls short a gone c) (hn : (a.held.map (·.who)).Nodup) (hg : gone ≠ []) :
    ∃ v ∈ gone, LastPreempted a c.grants v ∧ short (c.grantedSum + v.demand) := by
  obtain ⟨front, v, hf, hov⟩ := h.last hn hg
  have hv : v ∈ gone := by simp [hf]
  have hpair := (h.before hn).1
  rw [hf, List.pairwise_append] at hpair
  refine ⟨v, hv, ⟨(h.mem v hv).1, fun hc => ?_, fun x hx hxc => ?_⟩, hov⟩
  · rw [h.grants hn] at hc
    simpa [hv] using (List.mem_filter.1 hc).2
  · have hxg : x ∈ gone := by
      by_contra hxg
      exact hxc (h.grants hn ▸ List.mem_filter.2 ⟨hx, by simpa using hxg⟩)
    rw [hf] at hxg
    rcases List.mem_append.1 hxg with hxf | hxv
    · exact .inr ((hpair.2.2 x hxf v (by simp)).imp id fun k => ⟨k.1.symm, k.2⟩)
    · exact .inl (by simpa using hxv)

end Preempts

/-! ## A new budget -/

theorem clampBudget_eq (v : Nat) : clampBudget v = if v < 20 then 20 else if v ≤ 240 then v else 240 := by
  unfold clampBudget
  split_ifs <;> omega

/-- R84, R85: the preemptions of a new budget. -/
theorem Arbiter.setBudget_fitted {a : Arbiter} (h : ArbiterOk a) (v : Nat) :
    ∃ gone, BudgetFitted a (clampBudget v) (a.setBudget v).1 gone ∧ (a.setBudget v).2 = preemptNotes gone := by
  let b : Arbiter := { a with budget := clampBudget v }
  obtain ⟨gone, hp, hnotes⟩ := Arbiter.fitBudget_preempts a.grants.length b
  have hn : (b.held.map (·.who)).Nodup := h.2.1
  have hok := Arbiter.setBudget_ok h v
  have hb : (a.setBudget v).1.budget = clampBudget v := hp.budget.1
  have hclass : ∀ x ∈ (a.setBudget v).1.grants, 0 < x.cls := fun x hx =>
    (hok.2.2 x (List.mem_append_left _ hx)).1
  refine ⟨gone, ⟨hb, hp.budget.2, fun r hr => (hp.mem r hr).1, hp.grants hn, (hp.before hn).1,
    fun r hr x hx => (hp.before hn).2 r hr x hx (hclass x hx), hb ▸ hok.1, fun hg => hp.lastPreempted hn hg, hp.waits,
    fun hs => ?_⟩, hnotes⟩
  have ho : b.Ordered := (Arbiter.ordered_iff b).2 ⟨hn, hs⟩
  exact ((Arbiter.ordered_iff _).1 (ho.fitBudget a.grants.length)).2

/-- With nobody waiting and the demands within the new budget, nothing but the budget changes. -/
theorem State.setBudget_within {s : State} {v : Nat} (hw : s.arb.waits = [])
    (hs : (s.arb.grants.map (·.demand)).sum ≤ clampBudget v) :
    s.setBudget v = { s with arb := { s.arb with budget := clampBudget v } } := by
  have hfit : s.arb.setBudget v = ({ s.arb with budget := clampBudget v }, []) := by
    unfold Arbiter.setBudget
    cases s.arb.grants.length with
    | zero => rfl
    | succ n => exact if_pos hs
  have hpass : ({ s.arb with budget := clampBudget v } : Arbiter).pass = ({ s.arb with budget := clampBudget v }, []) := by
    unfold Arbiter.pass Arbiter.passFuel
    simp only [hw]
  unfold State.setBudget
  rw [hfit]
  show State.runPass { s with arb := _ } = _
  unfold State.runPass
  rw [hpass]
  rfl

theorem State.setBudget_eq (s : State) (v : Nat) : s.setBudget v = (s.arb.setBudget v).1.pass.2.foldl State.tell
    { (s.arb.setBudget v).2.foldl State.tell { s with arb := (s.arb.setBudget v).1 } with arb := (s.arb.setBudget v).1.pass.1 } := by
  unfold State.setBudget State.runPass
  dsimp only
  rw [State.tells_arb]

theorem State.setBudget_spec {s : State} (v : Nat) :
    (s.setBudget v).arb = (s.arb.setBudget v).1.pass.1 ∧
      FlowEffect { s with arb := { s.arb with budget := clampBudget v } } (s.setBudget v) := by
  have harb : (s.setBudget v).arb = (s.arb.setBudget v).1.pass.1 := by
    rw [State.setBudget_eq, State.tells_arb]
  refine ⟨harb, ?_⟩
  have h1 : FlowEffect { s with arb := { s.arb with budget := clampBudget v } } { s with arb := (s.arb.setBudget v).1 } :=
    .of_arb _ _ (Arbiter.fitBudget_budget _ _)
  exact (h1.trans (.of_tells _ _)).trans (.of_runPass _)

/-! ## The link stands apart from what a requester is told -/

section
variable (s : State) (l : Link)

theorem State.relink_setPair (p : PairId) (x : Pair) : (s.relink l).setPair p x = (s.setPair p x).relink l := by
  rcases p with ⟨_ | _, _ | _ | _⟩ | _ <;> rfl

@[simp] theorem State.relink_gateOpen (p : PairId) : (s.relink l).gateOpen p = s.gateOpen p := by
  cases p with
  | boom b f => simp [State.gateOpen, State.relink]; cases b <;> rfl
  | canopy => rfl

theorem State.relink_request (p : PairId) (r : PairRequest) : (s.relink l).request p r = (s.request p r).relink l := by
  have href : (s.relink l).armRef p = s.armRef p := by cases p <;> simp [State.armRef]
  unfold State.request
  rw [State.relink_setPair, State.relink_pair, State.relink_gateOpen, href, State.relink_cal]

theorem State.relink_issueStep (b : BoomId) (m : Arming) : (s.relink l).issueStep b m = (s.issueStep b m).relink l := by
  unfold State.issueStep
  simp only [State.relink_stepDrive, State.relink_request]

theorem State.relink_issueJog (b : BoomId) (j : Jog) : (s.relink l).issueJog b j = (s.issueJog b j).relink l := by
  unfold State.issueJog
  simp only [State.relink_engine, State.relink_request]

theorem State.relink_onBoomGrant (b : BoomId) : (s.relink l).onBoomGrant b = (s.onBoomGrant b).relink l := by
  unfold State.onBoomGrant
  rw [State.relink_engine]
  split
  · exact s.relink_issueJog l b _
  · dsimp only
    rw [State.relink_issueStep, State.relink_engine, State.relink_setEngine]

theorem State.relink_onBoomPreempt (b : BoomId) : (s.relink l).onBoomPreempt b = (s.onBoomPreempt b).relink l := by
  unfold State.onBoomPreempt State.boomOff
  simp only [State.relink_engine, State.relink_request]
  split
  · simp only [State.flagRecord, State.modRecord, State.relink_engine, State.relink_setEngine]
  · rfl

theorem State.relink_onCanopyGrant : (s.relink l).onCanopyGrant = s.onCanopyGrant.relink l := by
  unfold State.onCanopyGrant
  rw [show (s.relink l).canopy = s.canopy from rfl]
  split
  · dsimp only
    rw [State.relink_request]
    rfl
  · exact s.relink_request l _ _
  · rfl

theorem State.relink_tell (n : FlowNote) : (s.relink l).tell n = (s.tell n).relink l := by
  obtain ⟨who, g⟩ := n
  cases who with
  | boom b =>
    cases g
    · exact s.relink_onBoomPreempt l b
    · exact s.relink_onBoomGrant l b
  | canopy =>
    cases g
    · exact s.relink_request l .canopy (.off true)
    · exact s.relink_onCanopyGrant l

theorem State.relink_tells (ns : List FlowNote) : ns.foldl State.tell (s.relink l) = (ns.foldl State.tell s).relink l := by
  induction ns generalizing s with
  | nil => rfl
  | cons n ns ih => exact (congrArg (ns.foldl State.tell) (s.relink_tell l n)).trans (ih _)

theorem State.relink_setBudget (v : Nat) : (s.relink l).setBudget v = (s.setBudget v).relink l := by
  rw [State.setBudget_eq, State.setBudget_eq, State.relink_arb]
  have h1 := State.relink_tells { s with arb := (s.arb.setBudget v).1 } l (s.arb.setBudget v).2
  have h2 := State.relink_tells { (s.arb.setBudget v).2.foldl State.tell { s with arb := (s.arb.setBudget v).1 } with
    arb := (s.arb.setBudget v).1.pass.1 } l (s.arb.setBudget v).1.pass.2
  refine Eq.trans ?_ h2
  exact congrArg (fun u : State => (s.arb.setBudget v).1.pass.2.foldl State.tell { u with arb := (s.arb.setBudget v).1.pass.1 }) h1

end

/-! ## Starvation -/

/-- R89: the event set after a mark. -/
def State.starvedEvents (s : State) : Requester → BitVec 96
  | .boom b => s.events ||| (1#96 <<< (Event.flowStarved b).bit)
  | .canopy => s.events

/-- R89: a mark, with the wait time then at or above the limit (log 3). -/
theorem State.starve_eq (s : State) (who : Requester) (h : ∃ w ∈ s.arb.waits, w.req.who = who ∧ w.starved = false) :
    s.starve who = { s with
      arb := s.arb.markStarved who s.cal.starvation
      events := s.starvedEvents who } := by
  obtain ⟨w, hw, hq, hm⟩ := h
  unfold State.starve
  rw [if_pos (List.any_eq_true.2 ⟨w, hw, by simp [hq, hm]⟩)]
  cases who <;> rfl

theorem State.starve_none (s : State) (who : Requester) (h : ∀ w ∈ s.arb.waits, w.req.who = who → w.starved = true) :
    s.starve who = s := by
  unfold State.starve
  rw [if_neg]
  rw [List.any_eq_true]
  rintro ⟨w, hw, hm⟩
  simp only [Bool.and_eq_true, beq_iff_eq, Bool.not_eq_true'] at hm
  simp [h w hw hm.1] at hm

/-- Settles O36. -/
theorem pumpBudgetAndStarvation : Obligations.PumpBudgetAndStarvation := by
  unfold Obligations.PumpBudgetAndStarvation
  refine ⟨?_, fun who s hrun => ?_⟩
  · intro q hi lo s h hok v n
    have hn : clampBudget v = n := clampBudget_eq v
    obtain ⟨gone, hfit, hnotes⟩ := Arbiter.setBudget_fitted hok v
    obtain ⟨harb, heff⟩ := State.setBudget_spec (s := s) v
    have hpass := Arbiter.pass_ok (Arbiter.setBudget_ok hok v)
    have hbud : (s.arb.setBudget v).1.pass.1.budget = n := by
      rw [Arbiter.pass_budget, hfit.1, hn]
    have hd : decideSetBudget [hi, lo] s.frameTaken = ⟨(s.setBudget v).relink s.frameTaken.link, .accepted [.u8 n, .u8 gone.length,
        .u8 (n - ((s.setBudget v).arb.grants.map (·.demand)).sum)]⟩ := by
      have hb : s.frameTaken.setBudget v = (s.setBudget v).relink s.frameTaken.link := by
        rw [State.frameTaken_relink, State.relink_setBudget]
        rfl
      have hu : u16At [hi, lo] 0 = v := rfl
      unfold decideSetBudget State.accept
      dsimp only
      rw [hu, hb, show s.frameTaken.arb = s.arb from rfl, hnotes]
      simp only [State.relink_arb, harb, preemptNotes, List.length_map, Arbiter.free, hbud]
      rfl
    rw [hn] at hfit heff
    refine ⟨(s.arb.setBudget v).1, gone, s.setBudget v, hfit, ?_, ?_, harb, ?_, heff, fun hw hs => ?_⟩
    · exact exec_of_decides h rfl rfl (by decide) hd heff.link
    · rw [State.setBudget_eq, hnotes]
      rfl
    · rw [harb, ← hbud]
      exact hpass.1
    · exact hn ▸ State.setBudget_within hw (hn.symm ▸ hs)
  · have hexec : exec (.flowStarved who) s = .next (s.starve who) := by
      show Host.Outcome.next (s.whenRunning _) = _
      rw [State.whenRunning_of_running hrun]
    refine ⟨fun hm => by rw [hexec, State.starve_none s who hm], fun hm => ?_⟩
    rw [hexec, State.starve_eq s who hm]
    cases who <;> rfl

end Sys2Proof.Machine
end

section
/-! PROOF. The drill logger and the sizing of the resin (R58 to R71): a closing, a scan that gains depth, the bond zone and the
cartridge count. -/
namespace Sys2Proof.Machine

/-! ## A closing slice -/

section
variable (p : HolePlan) (len time se : Nat)

/-- R64: the time by which a full slice is a void. -/
def dropsIn (p : HolePlan) (len time : Nat) : Prop := len = 20 ∧ ∃ m, p.dropTime = some m ∧ time < m

theorem dropsIn_iff : (len = 20 ∧ p.dropTime.any (fun t => time < t) = true) ↔ dropsIn p len time := by
  unfold dropsIn
  cases p.dropTime <;> simp

/-- R64: the four classes part the strata index, a dropped slice aside. -/
theorem classify_iff (h1 : p.voidMax < p.softMax) (h2 : p.softMax < p.hardMin) :
    (classify p len time se = .void ↔ dropsIn p len time ∨ se ≤ p.voidMax) ∧
      (classify p len time se = .soft ↔ ¬dropsIn p len time ∧ p.voidMax < se ∧ se ≤ p.softMax) ∧
      (classify p len time se = .firm ↔ ¬dropsIn p len time ∧ p.softMax < se ∧ se < p.hardMin) ∧
      (classify p len time se = .hard ↔ ¬dropsIn p len time ∧ p.hardMin ≤ se) := by
  rw [← dropsIn_iff]
  unfold classify
  split
  · next hd => simp [hd]
  · next hd =>
    simp only [hd, false_or, not_false_eq_true, true_and]
    split_ifs <;> simp <;> omega

end

/-- R67: a slice of at least 1 mm that reaches into the bond zone. -/
theorem zonePart_pos (i len hl bond : Nat) (h : 1 ≤ len) :
    0 < zonePart i len (bondZone hl bond) hl ↔ hl - bond < min (20 * i + len) hl ∧ 20 * i < hl := by
  unfold zonePart bondZone
  omega

theorem closingEntry_se (p : HolePlan) (x : Slice) (len : Nat) (v : ScanValues) :
    (closingEntry p x len v).se = min (((if x.n = 0 then v.rotFilt else x.rotSum / x.n) * (if len = 20 then x.q else x.q * 20 / len) +
      p.kf * (if x.n = 0 then v.feedFilt else x.feedSum / x.n)) / 64) 65535 := by
  unfold closingEntry Slice.means strataIndex scaledQ
  cases h : decide (x.n = 0) <;> simp_all

/-! ## A scan -/

/-- R60: `k + 1` full slices close: the open one with its contributions, then empty ones. -/
theorem Logger.closeFull_succ (p : HolePlan) (hl : Nat) (v : ScanValues) (k : Nat) (l : Logger) :
    (Logger.closeFull p hl v (k + 1) l).log =
        l.log ++ closingEntry p l.slice 20 v :: List.replicate k (closingEntry p { openedAt := v.stamp } 20 v) ∧
      (Logger.closeFull p hl v (k + 1) l).slice = { index := l.slice.index + k + 1, openedAt := v.stamp } ∧
      (Logger.closeFull p hl v (k + 1) l).h = l.h ∧ (Logger.closeFull p hl v (k + 1) l).tally = l.tally := by
  induction k generalizing l with
  | zero => exact ⟨rfl, rfl, rfl, rfl⟩
  | succ k ih =>
    obtain ⟨h1, h2, h3, h4⟩ := ih { l.close p hl 20 v with slice := { index := l.slice.index + 1, openedAt := v.stamp } }
    refine ⟨h1.trans ?_, h2.trans ?_, h3, h4⟩
    · exact List.append_assoc l.log [_] _
    · rw [show l.slice.index + 1 + k + 1 = l.slice.index + (k + 1) + 1 by omega]

/-- R59: the open slice after the contribution of a scan. -/
theorem Slice.contribute_eq (x : Slice) (tally : Nat) (v : ScanValues) : x.contribute tally v = { x with
      rotSum := x.rotSum + v.rot, feedSum := x.feedSum + v.feed, n := x.n + 1
      q := min (x.q + tally) 4095, time := min (v.stamp - x.openedAt).toNat 65535 } := rfl

/-- R58 to R60: a scan that gains depth, with the logger's log as long as its slices are counted. -/
theorem Logger.take_deeper {l : Logger} {p : HolePlan} {hl : Nat} {d : Int} {v : ScanValues} (hlog : l.log.length = l.slice.index)
    (hidx : 20 * l.slice.index ≤ l.h) (hh : l.h ≤ hl) (hd : (l.h : Int) < d) (t : Logger) (ht : l.take p hl d v = t) :
    t.h = min d.toNat hl ∧ t.tally = 0 ∧ t.log.length = t.slice.index ∧ t.slice.index = max l.slice.index (t.h / 20) ∧
      (∀ i, i < l.log.length → t.log[i]? = l.log[i]?) ∧
      (t.h / 20 = l.slice.index → t.slice = l.slice.contribute l.tally v ∧ t.log = l.log) ∧
      (l.slice.index < t.h / 20 →
        t.slice = { index := t.h / 20, openedAt := v.stamp } ∧
          t.log[l.slice.index]? = some (closingEntry p (l.slice.contribute l.tally v) 20 v) ∧
          ∀ i, l.slice.index < i → i < t.h / 20 →
            t.log[i]? = some (closingEntry p { index := i, openedAt := v.stamp } 20 v)) := by
  unfold Logger.take at ht
  rw [if_pos hd] at ht
  dsimp only at ht
  have hidx' : (l.slice.contribute l.tally v).index = l.slice.index := rfl
  rw [hidx'] at ht
  have hge : l.slice.index ≤ min d.toNat hl / 20 := by omega
  obtain ⟨k, hk⟩ : ∃ k, min d.toNat hl / 20 = l.slice.index + k := ⟨_, (Nat.add_sub_cancel' hge).symm⟩
  rw [hk, Nat.add_sub_cancel_left] at ht
  cases k with
  | zero =>
    subst ht
    refine ⟨rfl, rfl, hlog, ?_, fun i _ => rfl, fun _ => ⟨rfl, rfl⟩, fun h => ?_⟩
    · show l.slice.index = max l.slice.index (min d.toNat hl / 20)
      omega
    · have : l.slice.index < min d.toNat hl / 20 := h
      omega
  | succ k =>
    obtain ⟨hlogs, hslice, hth, htally⟩ : t.log = l.log ++ closingEntry p (l.slice.contribute l.tally v) 20 v ::
          List.replicate k (closingEntry p { openedAt := v.stamp } 20 v) ∧
        t.slice = { index := l.slice.index + k + 1, openedAt := v.stamp } ∧ t.h = min d.toNat hl ∧ t.tally = 0 := by
      subst ht
      exact Logger.closeFull_succ p hl v k { l with slice := l.slice.contribute l.tally v, tally := 0, h := min d.toNat hl }
    have hdiv : t.h / 20 = l.slice.index + k + 1 := by rw [hth]; exact hk
    have hlen : t.log.length = l.slice.index + k + 1 := by
      rw [hlogs]
      simp [hlog]
      omega
    refine ⟨hth, htally, ?_, ?_, fun i hi => ?_, fun h => ?_, fun _ => ⟨?_, ?_, fun i hi hi' => ?_⟩⟩
    · rw [hlen, hslice]
    · rw [hslice, hdiv]
      show l.slice.index + k + 1 = _
      omega
    · rw [hlogs]
      exact List.getElem?_append_left hi
    · omega
    · rw [hslice, hdiv]
    · rw [hlogs, ← hlog]
      simp
    · obtain ⟨j, rfl⟩ : ∃ j, i = l.log.length + (j + 1) := ⟨i - l.log.length - 1, by omega⟩
      rw [hlogs, List.getElem?_append_right (by omega), Nat.add_sub_cancel_left, List.getElem?_cons_succ,
        List.getElem?_replicate, if_pos (by omega)]
      rfl

theorem Logger.take_level (l : Logger) (p : HolePlan) (hl : Nat) {d : Int} (v : ScanValues) (hd : d = l.h) : l.take p hl d v = l := by
  unfold Logger.take
  rw [if_neg (by omega), if_pos hd]

theorem Logger.take_back (l : Logger) (p : HolePlan) (hl : Nat) {d : Int} (v : ScanValues) (hd : d < l.h) :
    l.take p hl d v = { l with tally := 0 } := by
  unfold Logger.take
  rw [if_neg (by omega), if_neg (by omega)]

/-! ## Sizing -/

theorem zoneSum_eq (c : SliceClass) (z d i : Nat) (log : List SliceEntry) : zoneSum c z d i log =
    ((log.zipIdx i).map (fun x =>
      if x.1.cls = c then min (20 * x.2 + min 20 (d - 20 * x.2)) d - max (20 * x.2) z else 0)).sum := by
  induction log generalizing i with
  | nil => rfl
  | cons e es ih =>
    rw [List.zipIdx_cons, List.map_cons, List.sum_cons, ← ih (i + 1)]
    rfl

/-- R71: the raw count is the least that carries the fill. -/
theorem rawCount_le_iff (p : HolePlan) (rf k : Nat) (h : 0 < p.fill) : rawCount p rf ≤ k ↔ rf ≤ k * p.fill := by
  unfold rawCount
  rw [← Nat.lt_succ_iff, Nat.div_lt_iff_lt_mul h, Nat.succ_mul]
  omega

theorem cartridgeCount_spec (p : HolePlan) (base rf : Nat) (hf : 0 < p.fill) (hb : base ≤ p.maxCart) :
    base ≤ (cartridgeCount p base rf).1 ∧ (cartridgeCount p base rf).1 ≤ p.maxCart ∧
      ((cartridgeCount p base rf).2 = false → rf ≤ (cartridgeCount p base rf).1 * p.fill ∧
        ∀ k, base ≤ k → rf ≤ k * p.fill → (cartridgeCount p base rf).1 ≤ k) ∧
      ((cartridgeCount p base rf).2 = true ↔ p.maxCart * p.fill < rf) ∧
      ((cartridgeCount p base rf).2 = true → (cartridgeCount p base rf).1 = p.maxCart) := by
  have hmax := rawCount_le_iff p rf p.maxCart hf
  unfold cartridgeCount
  dsimp only
  split
  · next h => exact ⟨hb, le_rfl, (nomatch ·), ⟨fun _ => by omega, fun _ => rfl⟩, fun _ => rfl⟩
  · next h =>
    refine ⟨le_max_right _ _, by omega, fun _ => ⟨?_, fun k hbk hk => ?_⟩, ⟨(nomatch ·), fun _ => by omega⟩, (nomatch ·)⟩
    · exact (rawCount_le_iff p rf _ hf).1 (le_max_left _ _)
    · exact max_le ((rawCount_le_iff p rf k hf).2 hk) hbk

/-! ## The logger in the part -/

theorem State.setBoom_raise (s : State) (b : BoomId) (x : BoomState) (e : Event) : (s.raise e).setBoom b x = (s.setBoom b x).raise e := by
  cases b <;> rfl

/-- R68: a logger stored, with what a first void of the bond zone does, whether a record stands or not. -/
theorem State.putLogger_found (s : State) (b : BoomId) (l : Logger) (u : State)
    (hu : u = if l.voidFound = true ∧ (s.logger b).voidFound = false then
        ((s.setLogger b l).setEngine b
          { s.engine b with
            record := (s.engine b).record.map (fun r => { r with flags := { r.flags with voidInBond := true } }) }).raise (.voidFound b)
      else s.setLogger b l) : s.putLogger b l = u := by
  subst hu
  unfold State.putLogger
  by_cases h : l.voidFound = true ∧ (s.logger b).voidFound = false
  · rw [if_pos h, if_pos (by simp [h.1, h.2])]
    have he : ((s.setLogger b l).raise (.voidFound b)).engine b = s.engine b := by simp
    unfold State.flagRecord State.modRecord
    rw [he]
    cases b <;> rfl
  · rw [if_neg h, if_neg (by simpa using h)]

theorem State.loggerScan_taken (s : State) (b : BoomId) (l : Logger)
    (ht : ((s.engine b).state = .collar ∧ (s.engine b).sub ≠ .approach) ∨ (s.engine b).state = .drill)
    (hl : (s.logger b).take (s.activePlan b) (s.activeValues b).holeLength (s.scanDepth b) (s.scanValues b) = l) :
    s.loggerScan b =
      if (s.engine b).state = .drill ∧ (s.engine b).sub ≠ .backoff ∧ l.log.length ≠ (s.logger b).log.length ∧
        s.granted (.boom b) = true then (s.putLogger b l).reissueFeed b else s.putLogger b l := by
  have hg : (s.putLogger b l).granted (.boom b) = s.granted (.boom b) := by
    unfold State.putLogger
    dsimp only
    split <;> simp [State.granted, State.flagRecord, State.modRecord]
  unfold State.loggerScan
  dsimp only
  rw [if_pos ht, hl, hg]

/-- Settles O35. -/
theorem slicesLoggedAndResinSized : Obligations.SlicesLoggedAndResinSized := by
  unfold Obligations.SlicesLoggedAndResinSized
  refine ⟨?_, ?_, ?_, ?_, zoneSum_eq, ?_⟩
  · intro l p hl len v h1 h20 hv hs x pr pf qs se dropped t
    obtain ⟨hvoid, hsoft, hfirm, hhard⟩ := classify_iff p len x.time se hv hs
    have hcls : (closingEntry p x len v).cls = classify p len x.time se := by
      rw [← show (closingEntry p x len v).se = se from closingEntry_se p x len v]
      rfl
    rw [← hcls] at hvoid hsoft hfirm hhard
    refine ⟨closingEntry p x len v, rfl, closingEntry_se p x len v, rfl, rfl, hvoid, hsoft, hfirm, hhard, ?_, rfl, ?_, rfl, rfl, rfl⟩
    · show feedChoiceOf p (closingEntry p x len v).cls = _
      cases (closingEntry p x len v).cls <;> rfl
    · show (l.voidFound || _) = _
      congr 1
      rw [decide_eq_decide]
      exact and_congr Iff.rfl (zonePart_pos _ _ _ _ h1)
  · intro l p hl d v hlog hidx hh t x
    exact ⟨fun hd => Logger.take_deeper hlog hidx hh hd t rfl, fun hd => Logger.take_level l p hl v hd,
      fun hd => Logger.take_back l p hl v hd⟩
  · intro b s e l taken
    refine ⟨fun h => if_neg h, ?_⟩
    intro z ht hz rot feed l' u chooses
    have hdepth : s.scanDepth b = ((s.motion b).scanPos : Int) - z := by
      unfold State.scanDepth
      rw [hz]
    have hscan := State.loggerScan_taken s b l' ht (by rw [hdepth]; rfl)
    rw [State.putLogger_found s b l' u rfl] at hscan
    refine ⟨fun hc => ?_, fun hc => hscan.trans (if_neg hc)⟩
    rw [hscan, if_pos hc]
    exact State.reissueFeed_spec u b
  · intro l p hl v len
    exact ⟨fun h => if_pos h, fun h => if_neg (show ¬len = 0 by omega)⟩
  · intro p base void soft hf hb rf c
    exact ⟨rfl, cartridgeCount_spec p base rf hf hb⟩

end Sys2Proof.Machine
end

section
/-! PROOF. What the limit monitors send the booms (R173 to R176, R41, R42): hold causes, taken in any order, and the monitors and
event flags of a test. -/
namespace Sys2Proof.Machine

/-! ## The hold cause MONITOR, once or more -/

section
variable {s t u : State} {b : BoomId} {c : HoldCause}

theorem FlowTouches.of_boom (h : t.boom b = s.boom b) : FlowTouches s t b := by
  have he : t.engine b = s.engine b := congrArg BoomState.engine h
  refine ⟨?_, .inl (by rw [he])⟩
  rw [he, h]
  rfl

theorem HoldCauses.add_add (x : HoldCauses) (c : HoldCause) : (x.add c).add c = x.add c := by cases c <;> rfl

/-- R42: a cause that reaches a boom again changes nothing. -/
theorem HoldReached.again (h : HoldReached s t b c) : HoldReached s (t.holdCause b c) b c := by
  obtain ⟨h1, h2, h3⟩ := h
  have hheld (hh : (t.engine b).state = .hold) : t.holdCause b c = t.setEngine b { t.engine b with causes := (t.engine b).causes.add c } := by
    simp [State.holdCause, hh, EngineState.engaged]
  refine ⟨fun he => ?_, fun he => ?_, fun he => ?_⟩
  · obtain ⟨k1, k2, k3, k4, k5⟩ := h1 he
    rw [hheld k1, State.setEngine_engine, if_pos rfl]
    refine ⟨k1, k2, ?_, by cases b <;> exact k4, k5.congr (by simp) (by simp)⟩
    show (t.engine b).causes.add c = _
    rw [k3, HoldCauses.add_add]
  · obtain ⟨k1, k2, k3⟩ := h2 he
    rw [hheld k1, State.setEngine_engine, if_pos rfl]
    refine ⟨k1, k2, ?_⟩
    show (t.engine b).causes.add c = _
    rw [k3, HoldCauses.add_add]
  · obtain ⟨k1, k2⟩ := h3 he
    by_cases hh : (s.engine b).state = .hold
    · have hth := k1.trans hh
      rw [hheld hth, State.setEngine_engine, if_pos rfl]
      refine ⟨k1, ?_⟩
      have hf := k2.setEngine (fun e => { e with causes := if e.state = .hold then e.causes.add c else e.causes })
        (fun _ _ _ => rfl) (fun _ => rfl) (fun _ => rfl)
      simpa [hh, hth, HoldCauses.add_add] using hf
    · have hs : t.holdCause b c = t := by
        unfold State.holdCause
        rw [if_neg (by rw [k1, he]; decide), if_neg (by rwa [k1])]
      rw [hs]
      exact ⟨k1, k2⟩

end

/-! ## What monitors send -/

/-- R173: the boom drills, or is held out of COLLAR or DRILL: the booms that HOLD_DRILL acts on. -/
def drills (s : State) (b : BoomId) : Prop :=
  (s.engine b).state = .collar ∨ (s.engine b).state = .drill ∨
    (s.engine b).state = .hold ∧ ((s.engine b).resume = some .collar ∨ (s.engine b).resume = some .drill)

/-- R173, R176: an action set sends the hold cause to boom `b`. -/
def Actions.hold (a : Actions) (s : State) (b : BoomId) : Prop := a.holdAny = true ∨ a.holdDrill = true ∧ drills s b

/-- R176: from `s`, the hold cause MONITOR has been sent to the booms of `held` and to no other; the sources stand. -/
structure Sent (s t : State) (held : BoomId → Prop) : Prop where
  analogs : t.analogs = s.analogs
  link : t.link = s.link
  sources : ∀ b, t.motion b = s.motion b ∧ t.head b = s.head b
  reached : ∀ b, held b → HoldReached s t b .monitor
  touched : ∀ b, ¬held b → FlowTouches s t b

namespace Sent
variable {s t u : State} {p q : BoomId → Prop}

theorem refl (s : State) : Sent s s (fun _ => False) :=
  ⟨rfl, rfl, fun _ => ⟨rfl, rfl⟩, fun _ h => h.elim, fun b _ => .refl s b⟩

theorem congr (h : Sent s t p) (k : ∀ b, p b ↔ q b) : Sent s t q :=
  ⟨h.analogs, h.link, h.sources, fun b hb => h.reached b ((k b).2 hb), fun b hb => h.touched b fun hp => hb ((k b).1 hp)⟩

/-- Whatever leaves the booms, the arbiter and the channels alone and clears no event sends nothing. -/
theorem same (h : Sent s t p) (ha : u.analogs = t.analogs) (hl : u.link = t.link) (hb : ∀ b, u.boom b = t.boom b) (harb : u.arb = t.arb)
    (hr : ∀ e, t.raised e = true → u.raised e = true) : Sent s u p := by
  refine ⟨ha.trans h.analogs, hl.trans h.link, fun b => ?_, fun b hp => ?_, fun b hp => ?_⟩
  · have hm : u.motion b = t.motion b := congrArg BoomState.motion (hb b)
    have hh : u.head b = t.head b := congrArg BoomState.head (hb b)
    rw [hm, hh]
    exact h.sources b
  · exact (h.reached b hp).followed (.of_boom (hb b)) hr (.of_eq harb (hb b))
  · exact (h.touched b hp).trans (.of_boom (hb b))

theorem setMonitorAt (h : Sent s t p) (n : Nat) (m : Monitor) : Sent s (t.setMonitorAt n m) p :=
  h.same rfl rfl (fun b => by cases b <;> rfl) rfl fun _ he => he

theorem raise (h : Sent s t p) (e : Event) : Sent s (t.raise e) p :=
  h.same rfl rfl (fun b => by cases b <;> rfl) rfl fun _ he => State.raised_of_raised he e

/-- A hold keeps what HOLD_DRILL acts on. -/
theorem drills_iff (h : Sent s t p) (b : BoomId) : drills t b ↔ drills s b := by
  by_cases hp : p b
  · obtain ⟨h1, h2, h3⟩ := h.reached b hp
    unfold drills
    by_cases he : (s.engine b).state.engaged = true
    · obtain ⟨k1, k2, -⟩ := h1 he
      have hh : (s.engine b).state ≠ .hold := fun hh => by simp [hh, EngineState.engaged] at he
      simp [k1, k2, hh]
    · by_cases hh : (s.engine b).state = .hold
      · obtain ⟨k1, k2, -⟩ := h2 hh
        rw [k1, k2, hh]
      · obtain ⟨k1, -⟩ := h3 (by simpa using he)
        rw [k1]
        simp [hh]
  · have hf := h.touched b hp
    unfold drills
    rw [hf.state, show (t.engine b).resume = (s.engine b).resume from congrArg (·.resume) hf.engine]

theorem hold (h : Sent s t p) (x : BoomId) : Sent s (t.holdCause x .monitor) (fun b => p b ∨ b = x) := by
  have hm := EngineMoves.of_holdCause t x .monitor
  have hother : ∀ b, b ≠ x → FlowTouches t (t.holdCause x .monitor) b := fun b hb => by
    have : b = otherBoom x := by cases b <;> cases x <;> simp_all [otherBoom]
    rw [this]
    exact hm.2.2.1
  refine ⟨?_, (EngineMoves.link hm).trans h.link, fun b => ?_, fun b hb => ?_, fun b hb => ?_⟩
  · have ha := congrArg State.analogs hm.1
    exact ha.trans h.analogs
  · rw [EngineMoves.motion hm, EngineMoves.head hm]
    exact h.sources b
  · by_cases hbx : b = x
    · subst hbx
      by_cases hp : p b
      · exact (h.reached b hp).again
      · exact (t.holdCause_reached b (by decide)).of_touched (h.touched b hp)
    · have hp : p b := hb.resolve_right hbx
      exact (h.reached b hp).followed (hother b hbx) (fun e he => t.holdCause_raised x .monitor he) (.of_holdCause hbx t .monitor)
  · obtain ⟨hp, hbx⟩ := not_or.1 hb
    exact (h.touched b hp).trans (hother b hbx)

theorem actOn (h : Sent s t p) (x : BoomId) (a : Actions) :
    Sent s (t.actOn x a) (fun b => p b ∨ b = x ∧ a.hold s x) := by
  have hd : drills t x ↔ drills s x := h.drills_iff x
  by_cases hw : a.hold s x
  · have hs : t.actOn x a = t.holdCause x .monitor := by
      unfold State.actOn
      rcases hw with hw | hw
      · exact if_pos hw
      · dsimp only
        split
        · rfl
        · exact if_pos ⟨hw.1, hd.2 hw.2⟩
    rw [hs]
    exact (h.hold x).congr fun b => by simp [hw]
  · have hs : t.actOn x a = t := by
      unfold State.actOn
      dsimp only
      rw [if_neg fun ha => hw (.inl ha), if_neg fun ha => hw (.inr ⟨ha.1, hd.1 ha.2⟩)]
    rw [hs]
    exact h.congr fun b => by simp [hw]

theorem act (h : Sent s t p) (scope : Scope) (a : Actions) :
    Sent s (t.act scope a) (fun b => p b ∨ scope.has b = true ∧ a.hold s b) := by
  have hA : Sent s (if scope.has .A then t.actOn .A a else t) (fun b => p b ∨ b = .A ∧ scope.has .A = true ∧ a.hold s .A) := by
    split
    · next hs => exact (h.actOn .A a).congr fun b => by simp [hs]
    · next hs => exact h.congr fun b => by simp [hs]
  have hB : Sent s (t.act scope a) (fun b => (p b ∨ b = .A ∧ scope.has .A = true ∧ a.hold s .A) ∨
      b = .B ∧ scope.has .B = true ∧ a.hold s .B) := by
    show Sent s (if scope.has .B then (if scope.has .A then t.actOn .A a else t).actOn .B a
      else if scope.has .A then t.actOn .A a else t) _
    split
    · next hs => exact (hA.actOn .B a).congr fun b => by simp [hs]
    · next hs => exact hA.congr fun b => by simp [hs]
  exact hB.congr fun b => by cases b <;> simp

theorem source (h : Sent s t p) (x : Source) : t.sourceValue x = s.sourceValue x ∧ t.sourceValid x = s.sourceValid x := by
  have ha : ∀ c, t.analog c = s.analog c := fun c => by cases c <;> simp [State.analog, h.analogs]
  cases x <;> simp [State.sourceValue, State.sourceValid, ha, h.sources]

end Sent

/-! ## A test -/

theorem monitor_ne_holdEntered (n : Nat) (l : Bool) (b : BoomId) : (Event.monitor n l).bit ≠ (Event.holdEntered b).bit := by
  simp only [Event.bit]
  cases b <;> simp only [BoomId.num] <;> omega

section
variable (s : State)

theorem State.holdCause_monitors (b : BoomId) (c : HoldCause) : (s.holdCause b c).monitors = s.monitors := by
  have h := congrArg State.monitors (EngineMoves.of_holdCause s b c).1
  exact h

theorem State.holdCause_raised_monitor (b : BoomId) (c : HoldCause) (n : Nat) (l : Bool) :
    (s.holdCause b c).raised (.monitor n l) = s.raised (.monitor n l) := by
  have hset (x : Engine) : (s.setEngine b x).raised (.monitor n l) = s.raised (.monitor n l) := by cases b <;> rfl
  unfold State.holdCause
  dsimp only
  split
  · rw [State.enterHold_eq, State.raise_raised, (FlowEffect.of_noFlow _ b).raised, hset]
    simp [monitor_ne_holdEntered n l b]
  · split
    · exact hset _
    · rfl

theorem State.act_keeps (x : Scope) (a : Actions) : (s.act x a).monitors = s.monitors ∧
    ∀ n l, (s.act x a).raised (.monitor n l) = s.raised (.monitor n l) := by
  have hon (t : State) (b : BoomId) : (t.actOn b a).monitors = t.monitors ∧
      ∀ n l, (t.actOn b a).raised (.monitor n l) = t.raised (.monitor n l) := by
    unfold State.actOn
    dsimp only
    split_ifs
    · exact ⟨t.holdCause_monitors b _, t.holdCause_raised_monitor b _⟩
    · exact ⟨t.holdCause_monitors b _, t.holdCause_raised_monitor b _⟩
    · exact ⟨rfl, fun _ _ => rfl⟩
  have hif (t : State) (b : BoomId) (p : Bool) : (if p then t.actOn b a else t).monitors = t.monitors ∧
      ∀ n l, (if p then t.actOn b a else t).raised (.monitor n l) = t.raised (.monitor n l) := by
    cases p
    · exact ⟨rfl, fun _ _ => rfl⟩
    · exact hon t b
  obtain ⟨h1, h2⟩ := hif s .A (x.has .A)
  obtain ⟨k1, k2⟩ := hif (if x.has .A then s.actOn .A a else s) .B (x.has .B)
  exact ⟨k1.trans h1, fun n l => (k2 n l).trans (h2 n l)⟩

/-- R176: a level entered. -/
def State.enterLevel (n : Nat) (l : Bool) (x : Scope) (a : Actions) (entered : Bool) : State :=
  if entered then (s.raise (.monitor n l)).act x a else s

theorem State.testMonitor_eq (n : Nat) (x : Int) : s.testMonitor n x =
    (((s.setMonitorAt n ((s.monitor n).tested x)).enterLevel n false (s.monitor n).cfg.scope (s.monitor n).cfg.warnActs
      ((s.monitor n).entersWarn x)).enterLevel n true (s.monitor n).cfg.scope (s.monitor n).cfg.tripActs
      ((s.monitor n).entersTrip x)) := rfl

theorem State.enterLevel_keeps {n : Nat} (hn : n < 12) (l : Bool) (x : Scope) (a : Actions) (entered : Bool) :
    (s.enterLevel n l x a entered).monitors = s.monitors ∧ ∀ k i, (s.enterLevel n l x a entered).raised (.monitor k i) =
      (s.raised (.monitor k i) || (entered && decide (k = n ∧ i = l))) := by
  have hbit : (Event.monitor n l).bit < 96 := by
    simp only [Event.bit]
    cases l <;> simp <;> omega
  have hsame (k : Nat) (i : Bool) : (Event.monitor k i).bit = (Event.monitor n l).bit ↔ k = n ∧ i = l := by
    simp only [Event.bit]
    cases i <;> cases l <;> simp <;> omega
  cases entered
  · exact ⟨rfl, fun k i => by simp [State.enterLevel]⟩
  · obtain ⟨h1, h2⟩ := (s.raise (.monitor n l)).act_keeps x a
    refine ⟨h1, fun k i => (h2 k i).trans ?_⟩
    rw [State.raise_raised]
    simp [hsame, hbit]

/-- R175, R176: the monitors and the event flags after a test. -/
theorem State.testMonitor_keeps {n : Nat} (hn : n < 12) (x : Int) :
    (s.testMonitor n x).monitors = s.monitors.set n ((s.monitor n).tested x) ∧
      ∀ k, ((s.testMonitor n x).raised (.monitor k false) =
          (s.raised (.monitor k false) || ((s.monitor n).entersWarn x && decide (k = n)))) ∧
        ((s.testMonitor n x).raised (.monitor k true) =
          (s.raised (.monitor k true) || ((s.monitor n).entersTrip x && decide (k = n)))) := by
  let m := s.monitor n
  let u := s.setMonitorAt n (m.tested x)
  let v := u.enterLevel n false m.cfg.scope m.cfg.warnActs (m.entersWarn x)
  obtain ⟨h1, h2⟩ := u.enterLevel_keeps hn false m.cfg.scope m.cfg.warnActs (m.entersWarn x)
  obtain ⟨k1, k2⟩ := v.enterLevel_keeps hn true m.cfg.scope m.cfg.tripActs (m.entersTrip x)
  rw [State.testMonitor_eq]
  refine ⟨k1.trans h1, fun k => ⟨(k2 k false).trans ?_, (k2 k true).trans ?_⟩⟩
  · rw [h2 k false]
    simp
    rfl
  · rw [h2 k true]
    simp
    rfl

end

theorem Sent.enterLevel {s t : State} {p : BoomId → Prop} (h : Sent s t p) (n : Nat) (l : Bool) (x : Scope) (a : Actions)
    (entered : Bool) : Sent s (t.enterLevel n l x a entered) (fun b => p b ∨ entered = true ∧ x.has b = true ∧ a.hold s b) := by
  cases entered
  · exact h.congr fun b => by simp
  · exact ((h.raise (.monitor n l)).act x a).congr fun b => by simp

/-- R176: what a test sends. -/
theorem Sent.tested {s t : State} {p : BoomId → Prop} (h : Sent s t p) (n : Nat) (x : Int) (m : Monitor) (hm : t.monitor n = m) :
    Sent s (t.testMonitor n x) (fun b => p b ∨ m.entersWarn x = true ∧ m.cfg.scope.has b = true ∧ m.cfg.warnActs.hold s b ∨
      m.entersTrip x = true ∧ m.cfg.scope.has b = true ∧ m.cfg.tripActs.hold s b) := by
  subst hm
  rw [State.testMonitor_eq]
  exact (((h.setMonitorAt n _).enterLevel n false _ _ _).enterLevel n true _ _ _).congr fun b => by simp [or_assoc]

theorem Monitor.entersWarn_iff (m : Monitor) (x : Int) :
    m.entersWarn x = true ↔ m.status = .normal ∧ (m.tested x).status ≠ .normal := by
  rw [Monitor.tested_status]
  cases h : m.status
  · rw [Monitor.entersWarn_of_normal h, Monitor.nextStatus_of_normal h]
    cases m.cfg.reaches m.cfg.warn x <;> cases m.cfg.reaches m.cfg.trip x <;> simp
  · simp [Monitor.entersWarn, h]
  · simp [Monitor.entersWarn, h]

theorem Monitor.entersTrip_iff (m : Monitor) (x : Int) :
    m.entersTrip x = true ↔ m.status ≠ .trip ∧ (m.tested x).status = .trip := by
  rw [Monitor.tested_status]
  cases h : m.status
  · rw [Monitor.entersTrip_of_normal h, Monitor.nextStatus_of_normal h]
    cases m.cfg.reaches m.cfg.warn x <;> cases m.cfg.reaches m.cfg.trip x <;> simp
  · rw [Monitor.entersTrip_of_warn h, Monitor.nextStatus_of_warn h]
    cases m.cfg.reaches m.cfg.trip x <;> cases m.cfg.returns m.cfg.warn x <;> simp
  · simp [Monitor.entersTrip_of_trip h]

/-! ## A publication -/

section
variable (srcs : List Source) (s : State) (n : Nat)

theorem State.monitor_setMonitorAt (h : n < s.monitors.length) (m : Monitor) (k : Nat) :
    (s.setMonitorAt n m).monitor k = if k = n then m else s.monitor k := by
  unfold State.monitor State.setMonitorAt
  by_cases hk : k = n
  · subst hk
    simp [List.getD, h]
  · simp [List.getD, hk, Ne.symm hk]

/-- R176: the value that monitor `n` would test. -/
def State.levelOf : Int := s.sourceValue (s.monitor n).cfg.source

/-- R174: a publication of `srcs` tests monitor `n`. -/
def State.tests : Prop :=
  (s.monitor n).cfg.source ∈ srcs ∧ (s.monitor n).cfg.enable = true ∧ s.sourceValid (s.monitor n).cfg.source = true

/-- R175: that test enters WARN, and TRIP. -/
def State.warnsAt : Prop := s.tests srcs n ∧ (s.monitor n).entersWarn (s.levelOf n) = true
def State.tripsAt : Prop := s.tests srcs n ∧ (s.monitor n).entersTrip (s.levelOf n) = true

/-- R176: that test sends the hold cause to boom `b`. -/
def State.sends (b : BoomId) : Prop :=
  let c := (s.monitor n).cfg
  s.warnsAt srcs n ∧ c.scope.has b = true ∧ c.warnActs.hold s b ∨ s.tripsAt srcs n ∧ c.scope.has b = true ∧ c.tripActs.hold s b

/-- R174, R179: monitor `n` once a publication has reached it. -/
def State.monitorReached : Monitor :=
  let m := s.monitor n
  if m.cfg.source ∈ srcs then
    if m.cfg.enable = true ∧ s.sourceValid m.cfg.source = true then { m.tested (s.levelOf n) with valid := true }
    else { m with valid := s.sourceValid m.cfg.source }
  else m

/-- R174: a publication has reached the monitors below `k`. -/
structure Published (t : State) (k : Nat) : Prop where
  length : t.monitors.length = 12
  monitor : ∀ n, t.monitor n = if n < k then s.monitorReached srcs n else s.monitor n
  warn : ∀ n, t.raised (.monitor n false) = true ↔
    s.raised (.monitor n false) = true ∨ n < k ∧ s.warnsAt srcs n
  trip : ∀ n, t.raised (.monitor n true) = true ↔
    s.raised (.monitor n true) = true ∨ n < k ∧ s.tripsAt srcs n
  sent : Sent s t (fun b => ∃ n, n < k ∧ s.sends srcs n b)

end

section
variable {srcs : List Source} {s t : State} {n k : Nat}

theorem State.reachMonitor_untested (h : ¬s.tests srcs n) : s.reachMonitor srcs true n =
    if (s.monitor n).cfg.source ∈ srcs then s.recordValid n else s := by
  unfold State.reachMonitor
  dsimp only
  split
  · next hs => exact if_neg (by simpa [State.tests, hs] using h)
  · rfl

theorem State.reachMonitor_tested (h : s.tests srcs n) : s.reachMonitor srcs true n =
    (s.setMonitorAt n { s.monitor n with valid := true }).testMonitor n (s.levelOf n) := by
  obtain ⟨h1, h2, h3⟩ := h
  unfold State.reachMonitor State.recordValid
  dsimp only
  rw [if_pos h1, if_pos (by simp [h2, h3]), h3]
  rfl

theorem State.monitorReached_untested (h : ¬s.tests srcs n) : s.monitorReached srcs n =
    if (s.monitor n).cfg.source ∈ srcs then { s.monitor n with valid := s.sourceValid (s.monitor n).cfg.source } else s.monitor n := by
  unfold State.monitorReached
  dsimp only
  split
  · next hs => exact if_neg (by simpa [State.tests, hs] using h)
  · rfl

theorem State.monitorReached_tested (h : s.tests srcs n) : s.monitorReached srcs n =
    { (s.monitor n).tested (s.levelOf n) with valid := true } := by
  unfold State.monitorReached
  dsimp only
  rw [if_pos h.1, if_pos h.2]

theorem Published.refl (srcs : List Source) (h : s.monitors.length = 12) : Published srcs s s 0 :=
  ⟨h, fun n => by simp, fun n => by simp, fun n => by simp, (Sent.refl s).congr fun b => by simp⟩

theorem exists_lt_succ {p : Nat → Prop} : (∃ n, n < k + 1 ∧ p n) ↔ (∃ n, n < k ∧ p n) ∨ p k := by
  constructor
  · rintro ⟨n, hn, hp⟩
    rcases Nat.lt_succ_iff_lt_or_eq.1 hn with h | rfl
    · exact .inl ⟨n, h, hp⟩
    · exact .inr hp
  · rintro (⟨n, hn, hp⟩ | hp)
    · exact ⟨n, by omega, hp⟩
    · exact ⟨k, by omega, hp⟩

theorem lt_succ_and (p : Nat → Prop) : (n < k + 1 ∧ p n) ↔ (n < k ∧ p n) ∨ n = k ∧ p k := by
  constructor
  · rintro ⟨hn, hp⟩
    rcases Nat.lt_succ_iff_lt_or_eq.1 hn with h | rfl
    · exact .inl ⟨h, hp⟩
    · exact .inr ⟨rfl, hp⟩
  · rintro (⟨hn, hp⟩ | ⟨rfl, hp⟩)
    · exact ⟨by omega, hp⟩
    · exact ⟨by omega, hp⟩

/-- R174: the next monitor is reached; the ones before it leave what it reads. -/
theorem Published.next (h : Published srcs s t k) (hk : k < 12) : Published srcs s (t.reachMonitor srcs true k) (k + 1) := by
  obtain ⟨hlen, hmon, hwarn, htrip, hsent⟩ := h
  have hm : t.monitor k = s.monitor k := by rw [hmon, if_neg (lt_irrefl k)]
  obtain ⟨hval, hvalid⟩ := hsent.source (s.monitor k).cfg.source
  have hlev : t.levelOf k = s.levelOf k := by
    unfold State.levelOf
    rw [hm, hval]
  have htests : t.tests srcs k ↔ s.tests srcs k := by
    unfold State.tests
    rw [hm, hvalid]
  have hlt {n : Nat} (hn : n ≠ k) : n < k + 1 ↔ n < k := by omega
  by_cases ht : s.tests srcs k
  · have hval := State.reachMonitor_tested (htests.2 ht)
    rw [hm, hlev] at hval
    let u := t.setMonitorAt k { s.monitor k with valid := true }
    have hu : u.monitor k = { s.monitor k with valid := true } := by
      rw [State.monitor_setMonitorAt _ _ (by omega), if_pos rfl]
    obtain ⟨hms, hev⟩ := u.testMonitor_keeps hk (s.levelOf k)
    rw [hu] at hms hev
    rw [hval]
    refine ⟨?_, fun n => ?_, fun n => ?_, fun n => ?_, ?_⟩
    · rw [hms, List.length_set]
      exact (List.length_set ..).trans hlen
    · have hset : (u.testMonitor k (s.levelOf k)).monitor n =
          (u.setMonitorAt k (Monitor.tested { s.monitor k with valid := true } (s.levelOf k))).monitor n := by
        exact congrArg (·.getD n default) hms
      have hul : u.monitors.length = 12 := (List.length_set ..).trans hlen
      rw [hset, State.monitor_setMonitorAt _ _ (by omega),
        State.monitor_setMonitorAt _ _ (by omega), hmon]
      by_cases hn : n = k
      · rw [if_pos hn, if_pos (by omega), hn, State.monitorReached_tested ht]
        rfl
      · rw [if_neg hn, if_neg hn, if_congr (hlt hn) rfl rfl]
    · rw [(hev n).1, Bool.or_eq_true, lt_succ_and (s.warnsAt srcs), ← or_assoc]
      refine or_congr (hwarn n) ?_
      simp only [State.warnsAt, Bool.and_eq_true, decide_eq_true_eq, ht, true_and]
      exact and_comm
    · rw [(hev n).2, Bool.or_eq_true, lt_succ_and (s.tripsAt srcs), ← or_assoc]
      refine or_congr (htrip n) ?_
      simp only [State.tripsAt, Bool.and_eq_true, decide_eq_true_eq, ht, true_and]
      exact and_comm
    · refine ((hsent.setMonitorAt k _).tested k (s.levelOf k) _ hu).congr fun b => ?_
      rw [exists_lt_succ]
      refine or_congr Iff.rfl ?_
      simp only [State.sends, State.warnsAt, State.tripsAt, ht, true_and]
      exact Iff.rfl
  · have hval := State.reachMonitor_untested (fun hc => ht (htests.1 hc))
    have hsends : ∀ b, ¬s.sends srcs k b := fun b hb => hb.elim (fun h => ht h.1.1) fun h => ht h.1.1
    have hheld : ∀ b, (∃ n, n < k ∧ s.sends srcs n b) ↔ ∃ n, n < k + 1 ∧ s.sends srcs n b := fun b => by
      rw [exists_lt_succ]
      simp [hsends b]
    have hflag {p : Nat → Prop} (hp : ¬p k) (n : Nat) : n < k ∧ p n ↔ n < k + 1 ∧ p n := by
      rw [lt_succ_and p]
      simp [hp]
    have hw := hflag (p := s.warnsAt srcs) fun h => ht h.1
    have hx := hflag (p := s.tripsAt srcs) fun h => ht h.1
    rw [hval, hm]
    split
    · next hs =>
      refine ⟨(List.length_set ..).trans hlen, fun n => ?_, fun n => (hwarn n).trans (or_congr Iff.rfl (hw n)),
        fun n => (htrip n).trans (or_congr Iff.rfl (hx n)), (hsent.setMonitorAt k _).congr hheld⟩
      show (t.setMonitorAt k _).monitor n = _
      rw [State.monitor_setMonitorAt _ _ (by omega)]
      by_cases hn : n = k
      · rw [if_pos hn, if_pos (by omega : n < k + 1), hn, State.monitorReached_untested ht, if_pos hs, hm, hvalid]
      · rw [if_neg hn, hmon, if_congr (hlt hn) rfl rfl]
    · next hs =>
      refine ⟨hlen, fun n => ?_, fun n => (hwarn n).trans (or_congr Iff.rfl (hw n)),
        fun n => (htrip n).trans (or_congr Iff.rfl (hx n)), hsent.congr hheld⟩
      rw [hmon]
      by_cases hn : n = k
      · rw [if_neg (by omega), if_pos (by omega), hn, State.monitorReached_untested ht, if_neg hs]
      · rw [if_congr (hlt hn) rfl rfl]

/-- R174: a publication reaches the twelve monitors. -/
theorem State.publish_published (srcs : List Source) (h : s.monitors.length = 12) : Published srcs s (s.publish srcs) 12 := by
  have hk : ∀ k, k ≤ 12 → Published srcs s ((List.range k).foldl (State.reachMonitor srcs true) s) k := by
    intro k
    induction k with
    | zero => exact fun _ => .refl srcs h
    | succ k ih =>
      intro hk
      rw [List.range_succ, List.foldl_append]
      exact (ih (by omega)).next (by omega)
  exact hk 12 (le_refl _)

end

theorem State.warnsAt_iff (srcs : List Source) (s : State) (n : Nat) : s.warnsAt srcs n ↔
    s.tests srcs n ∧ (s.monitor n).status = .normal ∧ ((s.monitor n).tested (s.levelOf n)).status ≠ .normal :=
  and_congr Iff.rfl (Monitor.entersWarn_iff _ _)

theorem State.tripsAt_iff (srcs : List Source) (s : State) (n : Nat) : s.tripsAt srcs n ↔
    s.tests srcs n ∧ (s.monitor n).status ≠ .trip ∧ ((s.monitor n).tested (s.levelOf n)).status = .trip :=
  and_congr Iff.rfl (Monitor.entersTrip_iff _ _)

/-- R115, R178: the horn. -/
theorem State.horn_iff (s : State) : s.horn = true ↔
    ∃ m ∈ s.monitors, m.status = .warn ∧ m.cfg.warnActs.horn = true ∨ m.status = .trip ∧ m.cfg.tripActs.horn = true := by
  unfold State.horn
  rw [List.any_eq_true]
  refine exists_congr fun m => and_congr Iff.rfl ?_
  unfold Monitor.sounds
  cases m.status <;> simp

theorem State.raiseHealth_monitors (s : State) (c : ChannelId) (o n : Health) : (s.raiseHealth c o n).monitors = s.monitors ∧
    (s.raiseHealth c o n).analogs = s.analogs := by
  unfold State.raiseHealth
  split <;> exact ⟨rfl, rfl⟩

/-- Settles O49. -/
theorem publicationTestsMonitors : Obligations.PublicationTestsMonitors := by
  unfold Obligations.PublicationTestsMonitors
  refine ⟨?_, fun oil s hrun => ?_, State.horn_iff⟩
  · intro srcs s hlen t drilling tests after warns trips holds held
    obtain ⟨htlen, hmon, hwarn, htrip, hsent⟩ := State.publish_published srcs hlen
    have hw : ∀ n, s.warnsAt srcs n ↔ warns n := s.warnsAt_iff srcs
    have hx : ∀ n, s.tripsAt srcs n ↔ trips n := s.tripsAt_iff srcs
    have hheld : ∀ b, (∃ n, n < 12 ∧ s.sends srcs n b) ↔ held b := fun b =>
      exists_congr fun n => and_congr Iff.rfl (or_congr (and_congr (hw n) Iff.rfl) (and_congr (hx n) Iff.rfl))
    refine ⟨htlen, hsent.analogs, fun n hn => ⟨fun hs => ?_, fun hs ht => ?_, fun ht => ?_, fun h => ?_, fun h => ?_, fun h => ?_,
      fun h => ?_⟩, fun b => ⟨fun h => hsent.reached b ((hheld b).2 h), fun h => hsent.touched b fun k => h ((hheld b).1 k)⟩⟩
    · rw [hmon, if_pos hn]
      exact if_neg hs
    · rw [hmon, if_pos hn, State.monitorReached_untested ht, if_pos hs]
    · rw [hmon, if_pos hn, State.monitorReached_tested ht]
      rfl
    · exact (hwarn n).2 (.inr ⟨hn, (hw n).2 h⟩)
    · exact (htrip n).2 (.inr ⟨hn, (hx n).2 h⟩)
    · rw [Bool.eq_iff_iff, hwarn n, hw n]
      simp [h]
    · rw [Bool.eq_iff_iff, htrip n, hx n]
      simp [h]
  · let v := s.takeGroup 3
    let w := v.sampleAnalog .oil oil
    have hexec : exec (.scanGroupPublished (.g3 oil)) s = .next ({ w with lastScan := scanStamp w.now }.publish [.value .oil]) := by
      show Host.Outcome.next (s.whenRunning _) = _
      rw [State.whenRunning_of_running hrun]
      rfl
    have htake : v.monitors = s.monitors ∧ v.analogs = s.analogs ∧ v.cal = s.cal := by
      unfold v State.takeGroup State.beginScan
      dsimp only
      split <;> exact ⟨rfl, rfl, rfl⟩
    obtain ⟨hm, ha⟩ := State.raiseHealth_monitors (v.setAnalog .oil ((v.analog .oil).sample .oil (v.cal.shift .oil) oil
      (v.cal.convert .oil oil))) (.analog .oil) (v.analog .oil).health ((v.analog .oil).sample .oil (v.cal.shift .oil) oil
      (v.cal.convert .oil oil)).health
    refine ⟨_, hexec, hm.trans htake.1, ?_⟩
    show (w.analogs.oil).val = _
    rw [show w.analogs = _ from ha, ← htake.2.1, ← htake.2.2]
    rfl

end Sys2Proof.Machine
end

section
/-! PROOF. SET MONITOR and CLEAR MONITOR LATCH (R177, R181). -/
namespace Sys2Proof.Machine

/-! ## SET MONITOR -/

theorem monitorFirstBad_eq_some {p : List Byte} {n : Nat} (h1 : 1 ≤ n) (h10 : n ≤ 10) (hn : monitorFieldOk p n = false)
    (hm : ∀ m, 1 ≤ m → m < n → monitorFieldOk p m = true) : monitorFirstBad p = some n := by
  refine List.find?_range'_eq_some.2 ⟨by simp [hn], by simp; omega, fun j h1 hj => ?_⟩
  simp [hm j h1 hj]

theorem monitorFirstBad_eq_none {p : List Byte} (h : ∀ n, 1 ≤ n → n ≤ 10 → monitorFieldOk p n = true) :
    monitorFirstBad p = none := by
  refine List.find?_eq_none.2 fun n hn => ?_
  simp at hn
  simp [h n (by omega) (by omega)]

section
variable {s t : State}

theorem HoldReached.relink {b : BoomId} {c : HoldCause} (h : HoldReached s t b c) (l : Link) :
    HoldReached (s.relink l) (t.relink l) b c := by
  obtain ⟨h1, h2, h3⟩ := h
  simp only [HoldReached, State.relink_engine, State.relink_raised, State.relink_setEngine]
  exact ⟨fun he => (h1 he).imp_right fun k => k.imp_right fun k => k.imp_right fun k => k.imp_right fun k => k.relink l, h2,
    fun he => (h3 he).imp_right fun k => k.relink l⟩

theorem Sent.relink {p : BoomId → Prop} (h : Sent s t p) (l : Link) : Sent (s.relink l) (t.relink l) p :=
  ⟨h.analogs, rfl, fun b => by simpa using h.sources b, fun b hb => (h.reached b hb).relink l, fun b hb => (h.touched b hb).relink l⟩

end

/-- R177: monitor `n` under the new configuration, before its test. -/
def State.freshMonitor (s : State) (n : Nat) (c : MonitorConfig) : Monitor :=
  { s.monitor n with cfg := c, status := .normal, last := none, valid := s.sourceValid c.source }

theorem State.configureMonitor_eq {s : State} {n : Nat} (hn : n < s.monitors.length) (c : MonitorConfig) : s.configureMonitor n c =
    if c.enable = true ∧ s.sourceValid c.source = true then
      (s.setMonitorAt n (s.freshMonitor n c)).testMonitor n (s.sourceValue c.source)
    else s.setMonitorAt n (s.freshMonitor n c) := by
  have hrec : (s.setMonitorAt n { s.monitor n with cfg := c, status := .normal, last := none }).recordValid n =
      s.setMonitorAt n (s.freshMonitor n c) := by
    unfold State.recordValid
    rw [State.monitor_setMonitorAt _ _ hn, if_pos rfl]
    unfold State.setMonitorAt
    rw [List.set_set]
    rfl
  unfold State.configureMonitor
  rw [hrec]
  simp only [Bool.and_eq_true]

/-- R177, R176: a configuration whose monitor tests at once. -/
theorem State.configureMonitor_tested {s : State} {n : Nat} (hn : n < 12) (hlen : s.monitors.length = 12) {c : MonitorConfig}
    (he : c.enable = true) (hv : s.sourceValid c.source = true) (t : State) (ht : s.configureMonitor n c = t) (m : Monitor)
    (hm : (s.freshMonitor n c).tested (s.sourceValue c.source) = m) :
    (∀ k, t.monitor k = if k = n then m else s.monitor k) ∧
      (t.raised (.monitor n false) = (s.raised (.monitor n false) || decide (m.status ≠ .normal))) ∧
      (t.raised (.monitor n true) = (s.raised (.monitor n true) || decide (m.status = .trip))) ∧
      Sent s t (fun b => c.scope.has b = true ∧ (m.status ≠ .normal ∧ c.warnActs.hold s b ∨ m.status = .trip ∧ c.tripActs.hold s b)) := by
  let f := s.freshMonitor n c
  let u := s.setMonitorAt n f
  have hu : u.monitor n = f := by rw [State.monitor_setMonitorAt _ _ (by omega), if_pos rfl]
  have hw : f.entersWarn (s.sourceValue c.source) = true ↔ m.status ≠ .normal := by
    rw [Monitor.entersWarn_iff, hm]
    exact and_iff_right rfl
  have hx : f.entersTrip (s.sourceValue c.source) = true ↔ m.status = .trip := by
    rw [Monitor.entersTrip_iff, hm]
    exact and_iff_right (nomatch ·)
  rw [State.configureMonitor_eq (by omega), if_pos ⟨he, hv⟩] at ht
  obtain ⟨hms, hev⟩ := u.testMonitor_keeps hn (s.sourceValue c.source)
  rw [hu] at hms hev
  have hms' : t.monitors = (s.monitors.set n f).set n m := by
    rw [← hm, ← ht]
    exact hms
  rw [List.set_set] at hms'
  refine ⟨fun k => ?_, ?_, ?_, ?_⟩
  · have hset : t.monitor k = (s.setMonitorAt n m).monitor k := congrArg (·.getD k default) hms'
    rw [hset, State.monitor_setMonitorAt _ _ (by omega)]
  · rw [← ht]
    refine (hev n).1.trans ?_
    rw [Bool.eq_iff_iff]
    simp [hw]
    exact Iff.rfl
  · rw [← ht]
    refine (hev n).2.trans ?_
    rw [Bool.eq_iff_iff]
    simp [hx]
    exact Iff.rfl
  · rw [← ht]
    refine ((((Sent.refl s).setMonitorAt n f).tested n (s.sourceValue c.source) f hu)).congr fun b => ?_
    rw [hw, hx, show f.cfg = c from rfl]
    tauto

theorem State.configureMonitor_other {s : State} {n : Nat} (hn : n < 12) (hlen : s.monitors.length = 12) (c : MonitorConfig) :
    (s.configureMonitor n c).link = s.link ∧ ∀ k, k ≠ n → (s.configureMonitor n c).monitor k = s.monitor k := by
  by_cases ht : c.enable = true ∧ s.sourceValid c.source = true
  · obtain ⟨hmon, -, -, hsent⟩ := State.configureMonitor_tested hn hlen ht.1 ht.2 _ rfl _ rfl
    exact ⟨hsent.link, fun k hk => (hmon k).trans (if_neg hk)⟩
  · rw [State.configureMonitor_eq (by omega), if_neg ht]
    refine ⟨rfl, fun k hk => ?_⟩
    rw [State.monitor_setMonitorAt _ _ (by omega), if_neg hk]

/-! ## CLEAR MONITOR LATCH -/

theorem Monitor.clearLatch_eq (m : Monitor) : m.clearLatch =
    { m with warnSeen := m.warnSeen && decide (m.status ≠ .normal), tripSeen := m.tripSeen && decide (m.status = .trip) } := by
  unfold Monitor.clearLatch
  cases m.status <;> rfl

/-- R181: the latches of the first `k` monitors cleared, one after another. -/
theorem State.clearLatches_eq (s : State) (k : Nat) (hk : k ≤ s.monitors.length) :
    (List.range k).foldl (fun t n => t.setMonitorAt n (t.monitor n).clearLatch) s =
      { s with monitors := (s.monitors.take k).map Monitor.clearLatch ++ s.monitors.drop k } := by
  induction k with
  | zero => simp
  | succ k ih =>
    rw [List.range_succ, List.foldl_append, ih (by omega)]
    have hlen : ((s.monitors.take k).map Monitor.clearLatch).length = k := by simp; omega
    have hdrop := List.drop_eq_getElem_cons (show k < s.monitors.length by omega)
    have htake := List.take_succ_eq_append_getElem (show k < s.monitors.length by omega)
    simp only [List.foldl_cons, List.foldl_nil, State.setMonitorAt, State.monitor, List.getD]
    congr 1
    rw [List.getElem?_append_right (by omega), hlen, Nat.sub_self, hdrop, List.getElem?_cons_zero, Option.getD_some,
      List.set_append_right _ _ (by omega), hlen, Nat.sub_self, List.set_cons_zero, htake, List.map_append,
      List.append_assoc]
    rfl

theorem State.clearLatches_all (s : State) (h : s.monitors.length = 12) :
    (List.range 12).foldl (fun t n => t.setMonitorAt n (t.monitor n).clearLatch) s =
      { s with monitors := s.monitors.map Monitor.clearLatch } := by
  rw [State.clearLatches_eq s 12 (by omega), List.take_of_length_le (by omega), List.drop_of_length_le (by omega),
    List.append_nil]

theorem State.map_monitors {α : Type} (s : State) (h : s.monitors.length = 12) (f : Monitor → α) :
    (List.range 12).map (fun n => f (s.monitor n)) = s.monitors.map f := by
  refine List.ext_getElem (by simp [h]) fun i hi _ => ?_
  simp only [List.length_map, List.length_range] at hi
  simp [State.monitor, List.getD, List.getElem?_eq_getElem (show i < s.monitors.length by omega)]

/-- Settles O50. -/
theorem setMonitorAndClearLatch : Obligations.SetMonitorAndClearLatch := by
  unfold Obligations.SetMonitorAndClearLatch
  refine ⟨fun q p n s h hp h1 h10 hn hm => ?_, ?_, ?_⟩
  · refine exec_of_refuse h rfl hp (by decide) ?_
    rw [decideSetMonitor, monitorFirstBad_eq_some h1 h10 hn hm]
    rfl
  · intro q p s h hp hlen hok n c fresh
    have hn : n = byteAt p 0 := by
      cases p with
      | nil => rfl
      | cons x xs => rfl
    have hn11 : n ≤ 11 := by
      have := hok 1 (by omega) (by omega)
      rw [hn]
      simpa [monitorFieldOk] using this
    let w := s.frameTaken.configureMonitor n c
    obtain ⟨hlink, hother⟩ := State.configureMonitor_other (s := s.frameTaken) (n := n) (by omega) hlen c
    have hd : decideSetMonitor p s.frameTaken =
        ⟨w, .accepted [.u8 n, .u8 (w.monitor n).status.num, .flag (w.monitor n).warnSeen, .flag (w.monitor n).tripSeen]⟩ := by
      rw [decideSetMonitor, monitorFirstBad_eq_none hok, ← hn]
      rfl
    have hconf := State.configureMonitor_eq (s := s.frameTaken) (n := n) (show n < s.monitors.length by omega) c
    refine ⟨w.relink s.link, exec_relinked h rfl hp (by decide) hd hlink, fun k hk => hother k hk, fun hc => ?_, ?_⟩
    · have hw : w = s.frameTaken.setMonitorAt n (s.frameTaken.freshMonitor n c) := hconf.trans (if_neg (by
        rintro ⟨h1, h2⟩
        rcases hc with hc | hc
        · simp [h1] at hc
        · have : s.sourceValid c.source = true := h2
          simp [this] at hc))
      rw [hw]
      rfl
    · intro he hv after drilling holds held
      obtain ⟨hmon, hwarn, htrip, hsent⟩ := State.configureMonitor_tested (s := s.frameTaken) (by omega) hlen he hv w rfl after rfl
      have hs := hsent.relink s.link
      exact ⟨(hmon n).trans (if_pos rfl), hwarn, htrip, fun b => ⟨hs.reached b, hs.touched b⟩⟩
  · intro q k s h hlen i kept
    have hkept : kept = Monitor.clearLatch := funext fun m => (Monitor.clearLatch_eq m).symm
    have hb : byteAt [k] 0 = k.toNat := rfl
    have hl : s.frameTaken.monitors.length = 12 := hlen
    have hexec : exec i s = .next (s.serveFixed q 0x20 1 [k] (decideClearLatch [k])) := rfl
    rw [hkept]
    refine ⟨fun h12 h255 => ?_, fun h255 => ?_, fun h11 => ?_⟩
    · refine exec_of_refuse h hexec rfl (by decide) ?_
      rw [decideClearLatch, hb, namedMonitors, if_neg h255, if_neg (by omega)]
      rfl
    · refine exec_of_decides h hexec rfl (by decide) ?_ rfl
      have hmap := State.map_monitors s hlen fun m =>
        [Wire.flag m.warnSeen, .flag m.tripSeen, .flag m.clearLatch.warnSeen, .flag m.clearLatch.tripSeen]
      rw [decideClearLatch, hb, namedMonitors, if_pos h255]
      dsimp only
      rw [State.clearLatches_all _ hl, ← hmap]
      refine congrArg (fun x => (⟨_, .accepted (.u8 12 :: List.flatten x)⟩ : Decision)) (List.map_congr_left fun n hn => ?_)
      have hn : n < s.monitors.length := by rw [hlen]; exact List.mem_range.1 hn
      have hcleared : State.monitor { s.frameTaken with monitors := s.monitors.map Monitor.clearLatch } n =
          (s.monitor n).clearLatch := by
        simp [State.monitor, List.getD, List.getElem?_eq_getElem hn]
      exact congrArg (fun m : Monitor => (s.monitor n).latchWire ++ m.latchWire) hcleared
    · refine exec_of_decides h hexec rfl (by decide) ?_ rfl
      have hcleared : (s.frameTaken.setMonitorAt k.toNat (s.monitor k.toNat).clearLatch).monitor k.toNat =
          (s.monitor k.toNat).clearLatch := by
        rw [State.monitor_setMonitorAt _ _ (by omega), if_pos rfl]
      rw [decideClearLatch, hb, namedMonitors, if_neg (by omega), if_pos h11]
      exact congrArg (fun m : Monitor => (⟨_, .accepted (.u8 1 :: ((s.monitor k.toNat).latchWire ++ m.latchWire))⟩ : Decision))
        hcleared

end Sys2Proof.Machine
end

section
/-! PROOF. A boom's engine follows its channels (R48, R49, R142): the turn of the restricted flag, and the entry of a channel to
FAILED. -/
namespace Sys2Proof.Machine

section
variable {s t u v : State} {b : BoomId} {r : Bool}

/-! ## The restricted flag -/

/-- R48: an engine whose restricted flag has become `r`; turned on, it marks the record. -/
def Engine.turned (e : Engine) (r : Bool) : Engine :=
  { e with
    restricted := r
    record := if r && !e.restricted then e.record.map (fun x => { x with flags := { x.flags with restrictedRun := true } }) else e.record }

theorem Engine.turned_self (e : Engine) : e.turned e.restricted = e := by
  unfold Engine.turned
  rw [Bool.and_not_self]
  rfl

/-- R48, R22: from `s`, the restricted flag of boom `b` has become `r`, and nothing else but its feed pair has been touched. -/
structure Turned (s v : State) (b : BoomId) (r : Bool) : Prop where
  rest : v = { s with boomA := v.boomA, boomB := v.boomB, events := v.events }
  boom : v.boom b = { s.boom b with engine := (s.engine b).turned r, pairs := (v.boom b).pairs }
  other : v.boom (otherBoom b) = s.boom (otherBoom b)
  raised : ∀ e, v.raised e = (s.raised e || (r && !(s.engine b).restricted && decide (e.bit = (Event.restricted b).bit)))

theorem restricted_bit (b : BoomId) : (Event.restricted b).bit < 96 := by cases b <;> decide

theorem Turned.refl (h : (s.engine b).restricted = r) : Turned s s b r := by
  subst h
  refine ⟨rfl, ?_, rfl, fun e => by simp⟩
  rw [Engine.turned_self]
  rfl

theorem FeedReissued.request (h : FeedReissued s t b) : t = s ∨ ∃ q, t = s.request (.boom b .feed) q := by
  obtain ⟨h1, h2⟩ := h
  by_cases hd : (s.pair (.boom b .feed)).dir = none
  · exact .inl (h1 (.inl hd))
  · cases hf : fullFeed s b with
    | none => exact .inl (h1 (.inr hf))
    | some x => exact .inr ⟨_, h2 x.1 x.2 hd hf⟩

/-- A request to a pair of boom `b` leaves everything but that boom's pairs. -/
theorem State.request_boom (s : State) (b : BoomId) (f : PairFn) (q : PairRequest) :
    s.request (.boom b f) q = { s with boomA := (s.request (.boom b f) q).boomA, boomB := (s.request (.boom b f) q).boomB } ∧
      (s.request (.boom b f) q).boom b = { s.boom b with pairs := ((s.request (.boom b f) q).boom b).pairs } ∧
      (s.request (.boom b f) q).boom (otherBoom b) = s.boom (otherBoom b) := by
  unfold State.request
  generalize Pair.settle _ _ _ _ = x
  cases b <;> cases f <;> exact ⟨rfl, rfl, rfl⟩

theorem restrictedTo_turned (s : State) (b : BoomId) (hr : (s.engine b).restricted ≠ r) : Turned s (restrictedTo s b r) b r := by
  have hf : (s.engine b).restricted = !r := by cases hr' : (s.engine b).restricted <;> cases r <;> simp_all
  unfold restrictedTo
  cases r with
  | true =>
    have ht : (s.engine b).turned true =
        { s.engine b with
          restricted := true
          record := (s.engine b).record.map (fun x => { x with flags := { x.flags with restrictedRun := true } }) } := by
      simp [Engine.turned, hf]
    rw [if_pos rfl]
    refine ⟨by cases b <;> rfl, ?_, by cases b <;> rfl, fun e => ?_⟩
    · rw [ht]
      cases b <;> rfl
    · rw [State.raise_raised, hf]
      have hset (x : Engine) : (s.setEngine b x).raised e = s.raised e := by cases b <;> rfl
      rw [hset]
      simp [restricted_bit]
  | false =>
    have ht : (s.engine b).turned false = { s.engine b with restricted := false } := rfl
    rw [if_neg (by decide)]
    refine ⟨by cases b <;> rfl, ?_, by cases b <;> rfl, fun e => ?_⟩
    · rw [ht]
      cases b <;> rfl
    · have hset (x : Engine) : (s.setEngine b x).raised e = s.raised e := by cases b <;> rfl
      rw [hset]
      simp

theorem RestrictedFollows.turned (h : RestrictedFollows s v b r) : Turned s v b r := by
  obtain ⟨h1, h2⟩ := h
  by_cases hr : (s.engine b).restricted = r
  · rw [h1 hr]
    exact .refl hr
  · obtain ⟨k1, k2, k3, k4⟩ := restrictedTo_turned s b hr
    have h2 := h2 hr
    generalize restrictedTo s b r = w at k1 k2 k3 k4 h2
    rcases h2.request with rfl | ⟨q, rfl⟩
    · exact ⟨k1, k2, k3, k4⟩
    · obtain ⟨q1, q2, q3⟩ := w.request_boom b .feed q
      generalize w.request (.boom b .feed) q = x at q1 q2 q3
      refine ⟨?_, ?_, q3.trans k3, fun e => ?_⟩
      · rw [q1]
        rw [k1]
      · rw [q2, k2]
      · refine Eq.trans ?_ (k4 e)
        unfold State.raised
        rw [q1]

theorem State.updateRestricted_turned (s : State) (b : BoomId) : Turned s (s.updateRestricted b) b (s.restrictedNow b) :=
  (s.updateRestricted_spec b).turned

namespace Turned
variable (h : Turned s v b r)
include h

theorem engine : v.engine b = (s.engine b).turned r := congrArg BoomState.engine h.boom |>.trans rfl
theorem arb : v.arb = s.arb := by rw [h.rest]
theorem analogs : v.analogs = s.analogs := by rw [h.rest]
theorem monitors : v.monitors = s.monitors := by rw [h.rest]
theorem raised_mono {e : Event} (he : s.raised e = true) : v.raised e = true := by rw [h.raised, he, Bool.true_or]

theorem head (c : BoomId) : v.head c = s.head c := by
  by_cases hc : c = b
  · subst hc
    exact (congrArg BoomState.head h.boom).trans rfl
  · have : c = otherBoom b := by revert hc; cases b <;> cases c <;> decide
    rw [this]
    exact congrArg BoomState.head h.other

theorem sameFault : SameFault b s v := by
  have he := h.engine
  have hl : v.logger b = s.logger b := (congrArg BoomState.logger h.boom).trans rfl
  have hact : (v.boom b).active = (s.boom b).active := (congrArg BoomState.active h.boom).trans rfl
  have hrest := h.rest
  exact ⟨by rw [hrest], by rw [hrest], by rw [hrest], by rw [hrest], hact, hl, by rw [he]; rfl, fun hj => by rw [he]; exact hj,
    by rw [he]; rfl, by rw [he]; rfl, by rw [he]; rfl, by rw [he]; rfl, by rw [he]; rfl⟩

end Turned

end

/-! ## A channel fails -/

section
variable {s t u v : State} {b : BoomId}

/-- R184, R185: the record that the failure of a channel has marked on the way to FAULTED. -/
def InstRecord.marked (r : InstRecord) (mix run : Bool) : InstRecord :=
  { r with
    flags := { r.flags with mixInterrupted := r.flags.mixInterrupted || mix, restrictedRun := r.flags.restrictedRun || run } }

/-- R184: marks that a record bears already when FAULTED is entered stand in the record offered. -/
theorem FaultedRecord.unmarked {r x : InstRecord} {c : FaultCause} {mix run : Bool}
    (h : FaultedRecord s b (r.marked mix run) c x) : ∃ y, FaultedRecord s b r c y ∧ x = y.marked mix run := by
  obtain ⟨h1, h2, h3, h4, h5⟩ := h
  by_cases hv : closingFindsVoid s b
  · refine ⟨{ x with flags := { r.flags with voidInBond := true } }, ⟨?_, h2, h3, fun _ => rfl, fun hn => absurd hv hn⟩, ?_⟩
    · rw [h1]
      rfl
    · have := h4 hv
      rw [h1, this]
      rfl
  · refine ⟨{ x with flags := r.flags }, ⟨?_, h2, h3, fun h => absurd h hv, fun _ => rfl⟩, ?_⟩
    · rw [h1]
      rfl
    · have := h5 hv
      rw [h1, this]
      rfl

theorem State.channelFailed_idle (h : (s.engine b).state.engaged = false) (hh : (s.engine b).state ≠ .hold) :
    s.channelFailed b = s := by
  unfold State.channelFailed
  dsimp only
  rw [if_neg]
  simp [h, hh]

theorem State.channelFailed_eq (h : (s.engine b).state.engaged = true ∨ (s.engine b).state = .hold) :
    s.channelFailed b = (s.holdCause b .channel).enterFaulted b .channelFailed := by
  unfold State.channelFailed
  exact if_pos (by simpa using h)

theorem SameFault.of_holdCause (s : State) (b : BoomId) (c : HoldCause) : SameFault b s (s.holdCause b c) := by
  unfold State.holdCause
  dsimp only
  split
  · next he =>
    rw [State.enterHold_eq]
    refine ((SameFault.of_setEngine (x := (s.engine b).heldBy c) ?_).trans (.of_flow (.of_noFlow _ b))).trans (.of_raise _ _)
    have hh : (s.engine b).state ≠ .hold := fun h => by simp [h, EngineState.engaged] at he
    simp [Engine.faultFields, Engine.heldBy, faultStep, stepLeft, hh]
  · split
    · exact .of_setEngine rfl
    · exact ⟨rfl, rfl, rfl, rfl, rfl, rfl, rfl, id, rfl, rfl, rfl, rfl, rfl⟩

/-- R41, R184: the record once the hold of a failed channel stands. -/
theorem State.holdCause_record (s : State) (b : BoomId) (c : HoldCause) :
    ((s.holdCause b c).engine b).record = (s.engine b).record.map (·.marked ((s.engine b).state == .mix) false) := by
  have hid : (s.engine b).record = (s.engine b).record.map (·.marked false false) := by
    have : (fun r : InstRecord => r.marked false false) = id := funext fun r => by simp [InstRecord.marked]
    rw [this, Option.map_id]
    rfl
  unfold State.holdCause
  dsimp only
  split
  · rw [show ((s.enterHold b c).engine b).record = _ from congrArg Engine.record
      ((s.enterHold_spec b c).1.engine_eq (by cases b <;> exact (nomatch ·)))]
    have he : (((s.setEngine b ((s.engine b).heldBy c)).raise (.holdEntered b)).engine b).record = ((s.engine b).heldBy c).record := by
      simp
    refine he.trans ?_
    unfold Engine.heldBy
    dsimp only
    by_cases hm : (s.engine b).state = .mix
    · rw [if_pos hm, hm]
      simp [InstRecord.marked]
    · rw [if_neg hm, beq_false_of_ne hm, ← hid]
  · next he =>
    have hm : ((s.engine b).state == .mix) = false := by
      cases hs : (s.engine b).state <;> simp_all [EngineState.engaged]
    rw [hm, ← hid]
    split
    · simp
    · rfl

/-- R48, R49, R142: a channel of boom `b` fails, its restricted flag set first. -/
theorem ChannelFault.of_turned (h : Turned s v b true) : ChannelFault s (v.channelFailed b) b := by
  have he := h.engine
  have hst : (v.engine b).state = (s.engine b).state := by rw [he]; rfl
  refine ⟨fun hs => ?_, fun h1 h2 => ?_⟩
  · have hv : (v.engine b).state.engaged = true ∨ (v.engine b).state = .hold := by rwa [hst]
    let u := v.holdCause b .channel
    have hsame : SameFault b s u := h.sameFault.trans (.of_holdCause v b .channel)
    rw [State.channelFailed_eq hv]
    obtain ⟨k1, k2, k3, k4, k5, k6⟩ := u.enterFaulted_stands b .channelFailed
    refine ⟨k1, k2, k3, k4, fun hg => ?_, fun hj => k5 (hsame.jog hj), fun hf => k6 (by rwa [hsame.finds]), fun r hr => ?_⟩
    · refine State.enterFaulted_raised _ ?_
      obtain ⟨q1, -⟩ := v.holdCause_taken b .channel
      exact (q1 (by rwa [hst])).2.2.2.1
    · have hrec : (u.engine b).record = some (r.marked ((s.engine b).state == .mix) (!(s.engine b).restricted)) := by
        rw [State.holdCause_record, hst, he]
        cases hq : (s.engine b).restricted <;> simp [Engine.turned, hq, hr, InstRecord.marked]
      obtain ⟨-, -, -, -, -, -, -, x, hx, ho⟩ := State.enterFaulted_spec .channelFailed hrec
      obtain ⟨y, hy, rfl⟩ := (hx.congr hsame).unmarked
      exact ⟨y, _, hy, ho.congr hsame.store hsame.active hsame.resinRunning, rfl⟩
  · rw [State.channelFailed_idle (by rwa [hst]) (by rwa [hst])]
    exact hst

/-! ## Pairs of a boom that holds and jogs -/

theorem State.modRecord_pair (s : State) (b : BoomId) (f : InstRecord → InstRecord) (i : PairId) :
    (s.modRecord b f).pair i = s.pair i := by simp [State.modRecord]

theorem State.putLogger_pair (s : State) (b : BoomId) (l : Logger) (i : PairId) : (s.putLogger b l).pair i = s.pair i := by
  unfold State.putLogger
  dsimp only
  split <;> simp [State.flagRecord, State.modRecord]

theorem State.closeLog_pair (s : State) (b : BoomId) (i : PairId) : (s.closeLog b).pair i = s.pair i := by
  unfold State.closeLog
  dsimp only
  rw [State.modRecord_pair, State.putLogger_pair]

theorem State.offer_pair (s : State) (b : BoomId) (i : PairId) : (s.offer b).pair i = s.pair i := by
  have hstore (t : State) (x : RecordStore) : ({ t with store := x } : State).pair i = t.pair i := by
    rcases i with ⟨_ | _, _ | _ | _⟩ | _ <;> rfl
  have hfiled (t : State) (o : Option JobOutcome) : (t.filed b o).pair i = t.pair i := by
    unfold State.filed State.choose
    dsimp only
    split_ifs <;> simp [State.goto]
  unfold State.offer
  dsimp only
  split
  · unfold State.file
    split
    · exact State.modRecord_pair _ _ _ _
    · dsimp only
      rw [hfiled, State.raise_pair, hstore, State.modRecord_pair]
  · rw [State.raise_pair, hstore, State.modRecord_pair]

/-- R45, R53: FAULTED leaves the pair of a jog. -/
theorem State.enterFaulted_jogging (c : FaultCause) (h : (s.engine b).jog ≠ none) (i : PairId) :
    (s.enterFaulted b c).pair i = s.pair i := by
  have hw : (s.faultWritten b c).pair i = s.pair i := by
    rw [State.faultWritten, State.raise_pair, State.modRecord_pair, State.faultRest, if_pos (Option.isSome_iff_ne_none.2 h),
      State.setEngine_pair]
  rw [State.enterFaulted_eq, State.offer_pair]
  split
  · rw [State.closeLog_pair, hw]
  · exact hw

theorem State.channelFailed_jogging (h1 : (s.engine b).state.engaged = false) (h2 : (s.engine b).state = .hold → (s.engine b).jog ≠ none)
    (i : PairId) : (s.channelFailed b).pair i = s.pair i := by
  by_cases hh : (s.engine b).state = .hold
  · have hc : s.holdCause b .channel = s.setEngine b { s.engine b with causes := (s.engine b).causes.add .channel } := by
      simp [State.holdCause, hh, EngineState.engaged]
    rw [State.channelFailed_eq (.inr hh), State.enterFaulted_jogging, hc, State.setEngine_pair]
    rw [hc, State.setEngine_engine, if_pos rfl]
    exact h2 hh
  · rw [State.channelFailed_idle h1 hh]

end

end Sys2Proof.Machine
end

section
/-! PROOF. What the limit monitors leave alone when they are reached (R174 to R179). -/
namespace Sys2Proof.Machine

/-- R176: the monitors, what they raise and the holds that they send: all that a monitor that is reached may touch. -/
structure Beside (s t : State) : Prop where
  rest : t =
    { s with
      boomA := t.boomA, boomB := t.boomB, arb := t.arb, canopy := { s.canopy with armOnGrant := t.canopy.armOnGrant }
      canopyPair := t.canopyPair, events := t.events, monitors := t.monitors }
  booms : ∀ b, t.boom b = { s.boom b with engine := t.engine b, pairs := (t.boom b).pairs }
  restricted : ∀ b, (t.engine b).restricted = (s.engine b).restricted
  raised : ∀ e, s.raised e = true → t.raised e = true
  quiet : ∀ e : Event, (∀ b, e.bit ≠ (Event.holdEntered b).bit) → (∀ n l, e.bit ≠ (Event.monitor n l).bit) → t.raised e = s.raised e
  idle : ∀ b, (s.engine b).state.engaged = false → (s.engine b).state ≠ .hold → FlowTouches s t b ∧ Unasked b s t

namespace Beside
variable {s t u : State}

theorem refl (s : State) : Beside s s :=
  ⟨rfl, fun _ => rfl, fun _ => rfl, fun _ h => h, fun _ _ _ => rfl, fun b _ _ => ⟨.refl s b, .of_eq rfl rfl⟩⟩

theorem trans (h : Beside s t) (k : Beside t u) : Beside s u := by
  refine ⟨?_, fun b => ?_, fun b => (k.restricted b).trans (h.restricted b), fun e he => k.raised e (h.raised e he),
    fun e h1 h2 => (k.quiet e h1 h2).trans (h.quiet e h1 h2), fun b h1 h2 => ?_⟩
  · have hk := k.rest
    rw [h.rest] at hk
    exact hk
  · have hk := k.booms b
    rw [h.booms b] at hk
    exact hk
  · obtain ⟨f1, u1⟩ := h.idle b h1 h2
    obtain ⟨f2, u2⟩ := k.idle b (by rwa [f1.state]) (by rwa [f1.state])
    exact ⟨f1.trans f2, u1.trans u2⟩

/-- What leaves the booms, the arbiter and the canopy, and raises nothing but a monitor's event. -/
theorem of_same (h : t = { s with events := t.events, monitors := t.monitors }) (hr : ∀ e, s.raised e = true → t.raised e = true)
    (hq : ∀ e : Event, (∀ n l, e.bit ≠ (Event.monitor n l).bit) → t.raised e = s.raised e) : Beside s t := by
  have hb : ∀ b, t.boom b = s.boom b := fun b => by rw [h]; cases b <;> rfl
  have he : ∀ b, t.engine b = s.engine b := fun b => congrArg BoomState.engine (hb b)
  have harb : t.arb = s.arb := by rw [h]
  refine ⟨?_, fun b => ?_, fun b => by rw [he], hr, fun e _ h2 => hq e h2, fun b _ _ => ⟨.of_boom (hb b), .of_eq harb (hb b)⟩⟩
  · rw [h]
  · rw [hb, he]
    rfl

theorem of_setMonitorAt (s : State) (n : Nat) (m : Monitor) : Beside s (s.setMonitorAt n m) :=
  of_same rfl (fun _ h => h) fun _ _ => rfl

theorem of_raise_monitor (s : State) (n : Nat) (l : Bool) : Beside s (s.raise (.monitor n l)) :=
  of_same rfl (fun _ h => State.raised_of_raised h _) fun e h => by simp [State.raise_raised, h]

theorem of_holdCause (s : State) (x : BoomId) (c : HoldCause) : Beside s (s.holdCause x c) := by
  by_cases he : (s.engine x).state.engaged = true
  · let w := (s.setEngine x ((s.engine x).heldBy c)).raise (.holdEntered x)
    have hs : s.holdCause x c = s.enterHold x c := by simp [State.holdCause, he]
    have hf : FlowEffect w (s.holdCause x c) := by rw [hs]; exact (s.enterHold_spec x c).1
    have hm := EngineMoves.of_holdCause s x c
    have hset (y : Engine) (e : Event) : (s.setEngine x y).raised e = s.raised e := by cases x <;> rfl
    have hwr (e : Event) : (s.holdCause x c).raised e = (s.raised e || decide (e.bit = (Event.holdEntered x).bit)) := by
      rw [hf.raised, State.raise_raised, hset]
      simp [holdEntered_bit]
    refine ⟨?_, fun b => ?_, fun b => EngineMoves.restricted hm b, fun e h => by rw [hwr, h, Bool.true_or], fun e h1 _ => ?_,
      fun b h1 h2 => ?_⟩
    · have h := hf.1
      have hev : (s.holdCause x c).events = w.events := hf.events
      have hmon := s.holdCause_monitors x c
      generalize s.holdCause x c = v at h hev hmon
      rw [hev, hmon]
      refine h.trans ?_
      cases x <;> rfl
    · have h := (hf.boom b).1
      have hl : w.boom b = { s.boom b with engine := w.engine b } := by cases b <;> cases x <;> rfl
      have hen := (hf.boom b).engine
      generalize s.holdCause x c = v at h hen
      rw [h, hl, hen]
    · rw [hwr]
      simp [h1 x]
    · have hb : b ≠ x := fun hb => by rw [hb, he] at h1; exact absurd h1 (by decide)
      have : b = otherBoom x := by cases b <;> cases x <;> simp_all [otherBoom]
      refine ⟨?_, .of_holdCause hb s c⟩
      rw [this]
      exact hm.2.2.1
  · by_cases hh : (s.engine x).state = .hold
    · have hs : s.holdCause x c = s.setEngine x { s.engine x with causes := (s.engine x).causes.add c } := by
        simp [State.holdCause, hh, EngineState.engaged]
      rw [hs]
      refine ⟨by cases x <;> rfl, fun b => by cases b <;> cases x <;> rfl, fun b => by cases b <;> cases x <;> rfl,
        fun e h => by cases x <;> exact h, fun e _ _ => by cases x <;> rfl, fun b h1 h2 => ?_⟩
      have hb : b ≠ x := fun hb => h2 (hb ▸ hh)
      have hbo : (s.setEngine x { s.engine x with causes := (s.engine x).causes.add c }).boom b = s.boom b := by
        rw [State.setEngine_boom, if_neg hb]
      exact ⟨.of_boom hbo, .of_eq (by simp) hbo⟩
    · have hs : s.holdCause x c = s := by
        unfold State.holdCause
        rw [if_neg he, if_neg hh]
      rw [hs]
      exact refl s

theorem of_actOn (s : State) (b : BoomId) (a : Actions) : Beside s (s.actOn b a) := by
  unfold State.actOn
  dsimp only
  split_ifs
  · exact of_holdCause s b _
  · exact of_holdCause s b _
  · exact refl s

theorem ite {p : Prop} [Decidable p] (h : Beside s t) (k : Beside s u) : Beside s (if p then t else u) := by
  split
  · exact h
  · exact k

theorem of_act (s : State) (x : Scope) (a : Actions) : Beside s (s.act x a) := by
  unfold State.act
  have hA : Beside s (if x.has .A then s.actOn .A a else s) := .ite (of_actOn s .A a) (refl s)
  exact .ite (hA.trans (of_actOn _ .B a)) hA

theorem of_enterLevel (s : State) (n : Nat) (l : Bool) (x : Scope) (a : Actions) (entered : Bool) :
    Beside s (s.enterLevel n l x a entered) := .ite ((of_raise_monitor s n l).trans (of_act _ x a)) (refl s)

theorem of_testMonitor (s : State) (n : Nat) (x : Int) : Beside s (s.testMonitor n x) := by
  rw [State.testMonitor_eq]
  exact ((of_setMonitorAt s n _).trans (of_enterLevel _ n _ _ _ _)).trans (of_enterLevel _ n _ _ _ _)

theorem of_reachMonitor (srcs : List Source) (p : Bool) (s : State) (n : Nat) : Beside s (s.reachMonitor srcs p n) := by
  unfold State.reachMonitor
  dsimp only
  exact .ite (.ite ((of_setMonitorAt s n _).trans (of_testMonitor _ n _)) (of_setMonitorAt s n _)) (refl s)

theorem of_reachMonitors (srcs : List Source) (p : Bool) (ns : List Nat) (s : State) :
    Beside s (ns.foldl (State.reachMonitor srcs p) s) := by
  induction ns generalizing s with
  | nil => exact refl s
  | cons n ns ih => exact (of_reachMonitor srcs p s n).trans (ih _)

theorem of_publish (s : State) (srcs : List Source) : Beside s (s.publish srcs) := of_reachMonitors srcs true _ s
theorem of_markValidity (s : State) (srcs : List Source) : Beside s (s.markValidity srcs) := of_reachMonitors srcs false _ s

end Beside

end Sys2Proof.Machine
end

section
/-! PROOF. A head channel takes the sample of a status block (R138 to R143, R152): its record, its boom's engine, and the monitors of
its two sources. -/
namespace Sys2Proof.Machine

/-! ## The record -/

/-- R139: a head channel after an ending that is the sample `good`, or none. -/
def Head.takes (x : Head) : Option Bool → Head
  | none => x
  | some good => x.sampled good

theorem Head.sampled_frame (x : Head) (good : Bool) :
    x.sampled good = { x with count := (x.sampled good).count, restore := (x.sampled good).restore, hasGood := (x.sampled good).hasGood } := by
  rcases Nat.lt_or_ge 255 x.count with h | h
  · rw [Head.sampled_failed h]
    split <;> rfl
  · rw [Head.sampled_counting h]

theorem Head.takes_frame (x : Head) (good : Option Bool) :
    x.takes good = { x with count := (x.takes good).count, restore := (x.takes good).restore, hasGood := (x.takes good).hasGood } := by
  cases good with
  | none => rfl
  | some g => exact x.sampled_frame g

theorem Head.sampled_hasGood (x : Head) : (x.sampled true).hasGood = true := by
  rcases Nat.lt_or_ge 255 x.count with h | h
  · rw [Head.sampled_failed h]
    split <;> simp
  · rw [Head.sampled_counting h]
    simp

/-- R152: a GOOD block of a channel that is then HEALTHY or SUSPECT is published. -/
def Head.publishes (x : Head) (good : Option Bool) : Prop := good = some true ∧ (x.takes good).count ≤ 127

theorem Head.after_published {x : Head} {e : Ending} {now : Timestamp} {good : Option Bool} {data : List Byte}
    (hs : e.sample = good) (he : e = .done data) (h : x.publishes good) :
    x.after e now = { x.takes good with data := some (headData data), published := some now, stale := false } := by
  obtain ⟨h1, h2⟩ := h
  subst h1 he
  unfold Head.after
  rw [hs]
  exact if_pos ((Health.ofCount_low _).2 h2)

theorem Head.after_kept {x : Head} {e : Ending} {now : Timestamp} {good : Option Bool} (hs : e.sample = good)
    (h : ¬x.publishes good) : x.after e now = x.takes good := by
  unfold Head.after
  rw [hs]
  cases good with
  | none => rfl
  | some g =>
    cases g with
    | false => rfl
    | true =>
      cases e with
      | done data => exact if_neg fun hh => h ⟨rfl, (Health.ofCount_low _).1 hh⟩
      | error _ _ => rfl

/-! ## The state that holds it -/

theorem State.raiseHealth_frame (s : State) (c : ChannelId) (o n : Health) :
    s.raiseHealth c o n = { s with events := (s.raiseHealth c o n).events } ∧
      (∀ e, s.raised e = true → (s.raiseHealth c o n).raised e = true) ∧
      (∀ e : Event, (∀ k, e.bit ≠ (Event.channel c k).bit) → (s.raiseHealth c o n).raised e = s.raised e) := by
  unfold State.raiseHealth
  cases healthEvent o n with
  | none => exact ⟨rfl, fun _ h => h, fun _ _ => rfl⟩
  | some k => exact ⟨rfl, fun _ h => State.raised_of_raised h _, fun e h => by simp [State.raise_raised, h k]⟩

theorem State.raiseHealth_raised (s : State) {c : ChannelId} {o n : Health} {k : ChannelEvent} (h : healthEvent o n = some k) :
    (s.raiseHealth c o n).raised (.channel c k) = true := by
  unfold State.raiseHealth
  rw [h]
  exact State.raised_raise _ (by cases c with
    | analog a => cases a <;> cases k <;> decide
    | head b => cases b <;> cases k <;> decide)

/-- R140, R152: the head record `h` stands, with the event of its health change. -/
def State.headStored (s : State) (b : BoomId) (h : Head) : State :=
  (s.setHead b h).raiseHealth (.head b) (s.head b).health h.health

theorem State.headStored_frame (s : State) (b : BoomId) (h : Head) :
    s.headStored b h = { s with boomA := (s.headStored b h).boomA, boomB := (s.headStored b h).boomB, events := (s.headStored b h).events } ∧
      (s.headStored b h).boom b = { s.boom b with head := h } ∧ (s.headStored b h).boom (otherBoom b) = s.boom (otherBoom b) ∧
      (∀ e, s.raised e = true → (s.headStored b h).raised e = true) ∧
      (∀ e : Event, (∀ k, e.bit ≠ (Event.channel (.head b) k).bit) → (s.headStored b h).raised e = s.raised e) := by
  obtain ⟨h1, h2, h3⟩ := (s.setHead b h).raiseHealth_frame (.head b) (s.head b).health h.health
  have hset (e : Event) : (s.setHead b h).raised e = s.raised e := by cases b <;> rfl
  have he : s.headStored b h = (s.setHead b h).raiseHealth (.head b) (s.head b).health h.health := rfl
  rw [← he] at h1 h2 h3
  generalize s.headStored b h = u at h1 h2 h3
  refine ⟨?_, ?_, ?_, fun e hr => h2 e (by rwa [hset]), fun e hq => (h3 e hq).trans (hset e)⟩
  · rw [h1]
    cases b <;> rfl
  · rw [h1]
    cases b <;> rfl
  · rw [h1]
    cases b <;> rfl

/-! ## The boom's engine -/

/-- R48, R142, R153: the restricted flag follows a head record that has changed. -/
def State.headFollowed (s : State) (b : BoomId) (old : Head) : State :=
  if (s.head b).health ≠ old.health ∨ (s.head b).stale ≠ old.stale then s.updateRestricted b else s

theorem State.headChanged_eq (s : State) (b : BoomId) (old : Head) : s.headChanged b old =
    if (s.head b).health = .failed ∧ old.health ≠ .failed then (s.headFollowed b old).channelFailed b else s.headFollowed b old := rfl

/-- R48: a restricted flag that was true to the channels follows a head record, changed or not. -/
theorem State.headFollowed_follows {s u : State} {b : BoomId} {h : Head} (hu : u = s.headStored b h)
    (hc : (s.engine b).restricted = s.restrictedNow b) : RestrictedFollows u (u.headFollowed b (s.head b)) b (u.restrictedNow b) := by
  obtain ⟨hrest, hboom, -, -, -⟩ := s.headStored_frame b h
  rw [← hu] at hrest hboom
  have hhead : u.head b = h := congrArg BoomState.head hboom
  have heng : u.engine b = s.engine b := (congrArg BoomState.engine hboom).trans rfl
  unfold State.headFollowed
  split
  · exact u.updateRestricted_spec b
  · next hn =>
    rw [hhead, not_or, not_not, not_not] at hn
    have ha : ∀ c, u.analog c = s.analog c := fun c => by rw [hrest]; rfl
    have hnow : u.restrictedNow b = s.restrictedNow b := by
      unfold State.restrictedNow
      rw [ha, ha, hhead, hn.1, hn.2]
    exact ⟨fun _ => rfl, fun hne => absurd (by rw [heng, hnow]; exact hc) hne⟩

theorem State.headFollowed_turned (s : State) (b : BoomId) (old : Head) :
    ∃ r, Turned s (s.headFollowed b old) b r ∧
      ((s.head b).health ≠ old.health → r = s.restrictedNow b) := by
  unfold State.headFollowed
  split
  · exact ⟨_, s.updateRestricted_turned b, fun _ => rfl⟩
  · next h => exact ⟨_, .refl rfl, fun hn => absurd (.inl hn) h⟩

/-! ## A fault of a channel, afterwards -/

section
variable {s t u : State} {b : BoomId}

/-- A channel's failure leaves no step. -/
theorem ChannelFault.state (h : ChannelFault s t b) : (t.engine b).state.engaged = false ∧ (t.engine b).state ≠ .hold := by
  by_cases hs : (s.engine b).state.engaged = true ∨ (s.engine b).state = .hold
  · have := (h.1 hs).1
    rw [this]
    exact ⟨rfl, (nomatch ·)⟩
  · rw [not_or] at hs
    rw [h.2 (by simpa using hs.1) hs.2]
    exact ⟨by simpa using hs.1, hs.2⟩

/-- What comes after a channel's failure leaves its outcome. -/
theorem ChannelFault.followed (h : ChannelFault s t b) (he : u.engine b = { t.engine b with armOnGrant := (u.engine b).armOnGrant })
    (hact : (u.boom b).active = (t.boom b).active) (hrest : AtRest t b → AtRest u b) (hstore : u.store = t.store)
    (hr : ∀ e, t.raised e = true → u.raised e = true) : ChannelFault s u b := by
  have hst : (u.engine b).state = (t.engine b).state := by rw [he]
  refine ⟨fun hs => ?_, fun h1 h2 => hst.trans (h.2 h1 h2)⟩
  obtain ⟨k1, k2, k3, k4, k5, k6, k7, k8⟩ := h.1 hs
  refine ⟨hst.trans k1, by rw [he]; exact k2, by rw [he]; exact k3, hr _ k4, fun hg => hr _ (k5 hg), fun hj => hrest (k6 hj),
    fun hv => hr _ (k7 hv), fun r hrec => ?_⟩
  obtain ⟨x, y, hx, ⟨ho1, ho2⟩, hy⟩ := k8 r hrec
  have hrecord : (u.engine b).record = (t.engine b).record := by rw [he]
  have hrun : (u.engine b).resinRunning = (t.engine b).resinRunning := by rw [he]
  refine ⟨x, y, hx, ⟨fun hn => ?_, fun hn => ?_⟩, hy⟩
  · obtain ⟨m1, m2, m3, m4, m5⟩ := ho1 hn
    exact ⟨hstore.trans m1, hact.trans m2, hrecord.trans m3, hrun.trans m4, hr _ m5⟩
  · obtain ⟨m1, m2, m3, m4, m5⟩ := ho2 hn
    exact ⟨hstore.trans m1, hact.trans m2, hrecord.trans m3, hrun.trans m4, hr _ m5⟩

theorem ChannelFault.beside (h : ChannelFault s t b) (k : Beside t u) : ChannelFault s u b := by
  obtain ⟨h1, h2⟩ := h.state
  obtain ⟨hf, hq⟩ := k.idle b h1 h2
  have hmix : (t.engine b).state ≠ .mix := fun hm => by simp [hm, EngineState.engaged] at h1
  exact h.followed (hf.engine_eq hmix) ((congrArg BoomState.active hf.1).trans rfl) hq.atRest (by rw [k.rest]) k.raised

/-- A state that faults alike. -/
theorem ChannelFault.congr (h : ChannelFault u t b) (k : SameFault b s u) (he : u.engine b = s.engine b) : ChannelFault s t b := by
  unfold ChannelFault at h ⊢
  dsimp only at h ⊢
  rw [he, k.finds] at h
  refine ⟨fun hs => ?_, h.2⟩
  obtain ⟨k1, k2, k3, k4, k5, k6, k7, k8⟩ := h.1 hs
  refine ⟨k1, k2, k3, k4, k5, k6, k7, fun r hr => ?_⟩
  obtain ⟨x, y, hx, ho, hy⟩ := k8 r hr
  exact ⟨x, y, hx.congr k, ho.congr k.store k.active k.resinRunning, hy⟩

end

end Sys2Proof.Machine
end

section
/-! PROOF. The end of the read of a status block, at its module (R139, R140, R142, R152). -/
namespace Sys2Proof.Machine

/-! ## The events that a fault raises -/

section
variable {s : State} {b : BoomId} {e : Event}

/-- The event is none that an engine raises as it holds or faults. -/
def Event.besidesFaults (e : Event) : Prop :=
  ∀ b, e.bit ≠ (Event.holdEntered b).bit ∧ e.bit ≠ (Event.jobFault b).bit ∧ e.bit ≠ (Event.voidFound b).bit ∧
    e.bit ≠ (Event.jobDone b).bit ∧ e.bit ≠ Event.recordReady.bit ∧ e.bit ≠ Event.storeFull.bit

theorem State.raised_raise_ne {f : Event} (h : e.bit ≠ f.bit) : (s.raise f).raised e = s.raised e := by
  simp [State.raise_raised, h]

theorem State.setEngine_raised (x : Engine) : (s.setEngine b x).raised e = s.raised e := by cases b <;> rfl
theorem State.setLogger_raised (x : Logger) : (s.setLogger b x).raised e = s.raised e := by cases b <;> rfl
theorem State.setActive_raised (x : Option Job) : (s.setActive b x).raised e = s.raised e := by cases b <;> rfl

section
variable (h : e.besidesFaults)
include h

theorem State.closeLog_quiet : (s.closeLog b).raised e = s.raised e := by
  have hput (l : Logger) : (s.putLogger b l).raised e = s.raised e := by
    unfold State.putLogger State.flagRecord
    dsimp only
    split
    · rw [State.modRecord_raised, State.raised_raise_ne (h b).2.2.1, State.setLogger_raised]
    · exact State.setLogger_raised l
  unfold State.closeLog
  dsimp only
  rw [State.modRecord_raised, hput]

theorem State.offer_quiet : (s.offer b).raised e = s.raised e := by
  have hstore (t : State) (x : RecordStore) : ({ t with store := x } : State).raised e = t.raised e := rfl
  have hfiled (t : State) (o : Option JobOutcome) : (t.filed b o).raised e = t.raised e := by
    unfold State.filed State.choose State.goto
    dsimp only
    split
    · split
      · rw [State.setEngine_raised, State.setEngine_raised, State.raised_raise_ne (h b).2.2.2.1, State.setLogger_raised,
          State.setActive_raised, State.setEngine_raised]
      · rw [State.setEngine_raised, State.raised_raise_ne (h b).2.2.2.1, State.setLogger_raised, State.setActive_raised,
          State.setEngine_raised]
    · rw [State.setLogger_raised, State.setActive_raised, State.setEngine_raised]
  unfold State.offer
  dsimp only
  split
  · unfold State.file
    split
    · exact State.modRecord_raised _
    · dsimp only
      rw [hfiled, State.raised_raise_ne (h b).2.2.2.2.1, hstore, State.modRecord_raised]
  · rw [State.raised_raise_ne (h b).2.2.2.2.2, hstore, State.modRecord_raised]

theorem State.enterFaulted_quiet (c : FaultCause) : (s.enterFaulted b c).raised e = s.raised e := by
  have hw : (s.faultWritten b c).raised e = s.raised e := by
    rw [State.faultWritten, State.raised_raise_ne (h b).2.1, State.modRecord_raised, (s.faultRest_flow b c).raised,
      State.setEngine_raised]
  rw [State.enterFaulted_eq, State.offer_quiet h]
  split
  · rw [State.closeLog_quiet h, hw]
  · exact hw

theorem State.holdCause_quiet (c : HoldCause) : (s.holdCause b c).raised e = s.raised e := by
  unfold State.holdCause
  dsimp only
  split
  · rw [State.enterHold_eq, State.raised_raise_ne (h b).1, (FlowEffect.of_noFlow _ b).raised, State.setEngine_raised]
  · split
    · exact State.setEngine_raised _
    · rfl

theorem State.channelFailed_quiet : (s.channelFailed b).raised e = s.raised e := by
  unfold State.channelFailed
  dsimp only
  split
  · rw [State.enterFaulted_quiet h, State.holdCause_quiet h]
  · rfl

end

theorem State.channelFailed_raised (h : s.raised e = true) : (s.channelFailed b).raised e = true := by
  unfold State.channelFailed
  dsimp only
  split
  · exact State.enterFaulted_raised _ (State.holdCause_raised s b _ h)
  · exact h

theorem headPollError_besides : Event.headPollError.besidesFaults := fun b => by cases b <;> decide

end

/-! ## The valid marks of monitors -/

section
variable (s : State) (srcs : List Source)

theorem State.reachMonitor_marked (n : Nat) : s.reachMonitor srcs false n =
    if (s.monitor n).cfg.source ∈ srcs then s.recordValid n else s := rfl

theorem State.sourceValid_monitors (ms : List Monitor) (x : Source) :
    ({ s with monitors := ms } : State).sourceValid x = s.sourceValid x := by
  cases x <;> rfl

/-- R179: the first `k` monitors on a source that has changed record its valid mark, and nothing else happens. -/
theorem State.markValidity_below (k : Nat) :
    ∃ ms, (List.range k).foldl (State.reachMonitor srcs false) s = { s with monitors := ms } ∧
      (s.monitors.length = 12 → k ≤ 12 → ms.length = 12 ∧ ∀ n, ({ s with monitors := ms } : State).monitor n =
        if n < k ∧ (s.monitor n).cfg.source ∈ srcs then { s.monitor n with valid := s.sourceValid (s.monitor n).cfg.source }
        else s.monitor n) := by
  induction k with
  | zero => exact ⟨s.monitors, rfl, fun h _ => ⟨h, fun n => by simp⟩⟩
  | succ k ih =>
    obtain ⟨ms, h1, h2⟩ := ih
    let t : State := { s with monitors := ms }
    rw [List.range_succ, List.foldl_append, h1]
    show ∃ ms', t.reachMonitor srcs false k = _ ∧ _
    rw [State.reachMonitor_marked]
    by_cases hs : (t.monitor k).cfg.source ∈ srcs
    · rw [if_pos hs]
      refine ⟨ms.set k { t.monitor k with valid := t.sourceValid (t.monitor k).cfg.source }, rfl, fun hlen hk => ?_⟩
      obtain ⟨hl, hm⟩ := h2 hlen (by omega)
      have hk' : t.monitor k = s.monitor k := (hm k).trans (if_neg (by omega))
      refine ⟨(List.length_set ..).trans hl, fun n => ?_⟩
      refine (State.monitor_setMonitorAt t k (show k < ms.length by omega) _ n).trans ?_
      by_cases hn : n = k
      · subst hn
        rw [if_pos rfl, if_pos ⟨by omega, hk' ▸ hs⟩, hk', State.sourceValid_monitors]
      · rw [if_neg hn]
        refine (hm n).trans (if_congr (and_congr_left fun _ => ?_) rfl rfl)
        omega
    · rw [if_neg hs]
      refine ⟨ms, rfl, fun hlen hk => ?_⟩
      obtain ⟨hl, hm⟩ := h2 hlen (by omega)
      have hk' : t.monitor k = s.monitor k := (hm k).trans (if_neg (by omega))
      refine ⟨hl, fun n => (hm n).trans ?_⟩
      by_cases hn : n = k
      · subst hn
        rw [if_neg (by omega), if_neg fun h => hs (hk' ▸ h.2)]
      · refine if_congr (and_congr_left fun _ => ?_) rfl rfl
        omega

/-- R179: a change of the sources `srcs` reaches the monitors. -/
theorem State.markValidity_spec :
    s.markValidity srcs = { s with monitors := (s.markValidity srcs).monitors } ∧
      (s.monitors.length = 12 → ∀ n, n < 12 → (s.markValidity srcs).monitor n =
        if (s.monitor n).cfg.source ∈ srcs then { s.monitor n with valid := s.sourceValid (s.monitor n).cfg.source } else s.monitor n) := by
  obtain ⟨ms, h1, h2⟩ := s.markValidity_below srcs 12
  have h1' : s.markValidity srcs = { s with monitors := ms } := h1
  rw [h1']
  refine ⟨rfl, fun hlen n hn => ((h2 hlen (le_refl _)).2 n).trans (if_congr (and_iff_right hn) rfl rfl)⟩

end

/-- What the monitors of a changed source leave alone. -/
theorem State.markValidity_keeps (s : State) (srcs : List Source) (t : State) (h : s.markValidity srcs = t) :
    t.arb = s.arb ∧ (∀ b, t.boom b = s.boom b) ∧ t.analogs = s.analogs ∧ (∀ p, t.pair p = s.pair p) ∧
      (∀ e, t.raised e = s.raised e) ∧ t.bus = s.bus ∧ t.store = s.store := by
  have h1 := (s.markValidity_spec srcs).1
  rw [h] at h1
  rw [h1]
  exact ⟨rfl, fun b => by cases b <;> rfl, rfl, fun p => by rcases p with ⟨_ | _, _ | _ | _⟩ | _ <;> rfl, fun _ => rfl, rfl, rfl⟩

end Sys2Proof.Machine
end

section
/-! PROOF. What the sample of a status block does, as a whole (R139, R140, R142, R152, R174, R179). -/
namespace Sys2Proof.Machine

section
variable {s c t u w x : State} {b : BoomId} {e : Ending} {good : Option Bool} {data : List Byte} {h : Head}

/-! ## What follows the sample on the bus and at the module -/

/-- R150, R152, R154, R158: from `c`, no more than the poll ending of boom `b`'s module, the bus and the event set has changed. -/
structure HeadNoted (c t : State) (b : BoomId) : Prop where
  rest : t = { c with boomA := t.boomA, boomB := t.boomB, bus := t.bus, events := t.events }
  boom : t.boom b = { c.boom b with head := { c.head b with lastPoll := (t.head b).lastPoll } }
  other : t.boom (otherBoom b) = c.boom (otherBoom b)
  raised : ∀ e, c.raised e = true → t.raised e = true

namespace HeadNoted
variable (k : HeadNoted c t b)
include k

theorem head : t.head b = { c.head b with lastPoll := (t.head b).lastPoll } := congrArg BoomState.head k.boom
theorem engine : t.engine b = c.engine b := (congrArg BoomState.engine k.boom).trans rfl
theorem arb : t.arb = c.arb := by rw [k.rest]
theorem store : t.store = c.store := by rw [k.rest]
theorem analogs : t.analogs = c.analogs := by rw [k.rest]

theorem monitor (n : Nat) : t.monitor n = c.monitor n := by
  unfold State.monitor
  rw [k.rest]

theorem pair (i : PairId) : t.pair i = c.pair i := by
  have hb : ∀ a, (t.boom a).pairs = (c.boom a).pairs := fun a => by
    by_cases ha : a = b
    · rw [ha]
      exact (congrArg BoomState.pairs k.boom).trans rfl
    · have : a = otherBoom b := by revert ha; cases a <;> cases b <;> decide
      rw [this, k.other]
  cases i with
  | boom a f => cases f with
    | rot => exact congrArg BoomPairs.rot (hb a)
    | feed => exact congrArg BoomPairs.feed (hb a)
    | ins => exact congrArg BoomPairs.ins (hb a)
  | canopy =>
    show t.canopyPair = c.canopyPair
    rw [k.rest]

theorem analog (a : AnalogId) : t.analog a = c.analog a := by
  unfold State.analog
  rw [k.analogs]

theorem restrictedNow : t.restrictedNow b = c.restrictedNow b := by
  unfold State.restrictedNow
  rw [k.analog, k.analog, k.head]
  rfl

theorem sourceValid {x : Source} (hx : x = .headTemp b ∨ x = .headVacuum b) : t.sourceValid x = c.sourceValid x := by
  rcases hx with rfl | rfl <;> unfold State.sourceValid <;> dsimp only <;> rw [k.head] <;> rfl

theorem fault (h : ChannelFault s c b) : ChannelFault s t b := by
  refine h.followed (by rw [k.engine]) ((congrArg BoomState.active k.boom).trans rfl) ?_ k.store k.raised
  exact fun hr => hr.congr k.arb fun f => k.pair _

end HeadNoted

/-! ## The three ways of a sample -/

/-- R138, R139: the sample takes the channel to FAILED. -/
def Head.fails (x : Head) (good : Option Bool) : Prop := x.count ≤ 255 ∧ 255 < (x.takes good).count

theorem Head.fails_iff (x : Head) (good : Option Bool) :
    (x.takes good).health = .failed ∧ x.health ≠ .failed ↔ x.fails good := by
  unfold Head.fails
  rw [Head.health, Head.health, ne_eq, Health.ofCount_failed, Health.ofCount_failed, Nat.not_lt]
  exact and_comm

theorem Head.publishes_health {x : Head} {good : Option Bool} : x.publishes good ↔
    good = some true ∧ ((x.takes good).health = .healthy ∨ (x.takes good).health = .suspect) :=
  and_congr Iff.rfl (Health.ofCount_low _).symm

/-- R152: the head record after the sample, and what its users do with it: from `u`, which holds it, through `w`, in which the
restricted flag has followed, to `c`. -/
structure HeadRan (s : State) (b : BoomId) (good : Option Bool) (d : HeadData) (u w c : State) : Prop where
  count : (u.head b).count = ((s.head b).takes good).count ∧ (u.head b).restore = ((s.head b).takes good).restore ∧
    (u.head b).hasGood = ((s.head b).takes good).hasGood ∧ (u.head b).lastPoll = (s.head b).lastPoll
  published : (s.head b).publishes good → (u.head b).data = some d ∧ (u.head b).published = some s.now ∧ (u.head b).stale = false
  kept : ¬(s.head b).publishes good →
    (u.head b).data = (s.head b).data ∧ (u.head b).published = (s.head b).published ∧ (u.head b).stale = (s.head b).stale
  stored : u = State.headStored { s with bus := { s.bus with txn := none } } b (u.head b)
  followed : w = u.headFollowed b (s.head b)
  publishes : (s.head b).publishes good → c = w.publish (headSources b)
  fails : (s.head b).fails good → c = (w.channelFailed b).markValidity (headSources b)
  rests : ¬(s.head b).publishes good → ¬(s.head b).fails good →
    c = if (u.head b).health ≠ (s.head b).health then w.markValidity (headSources b) else w

theorem State.classify_ran (s : State) (b : BoomId) {d : HeadData} (hs : e.sample = good)
    (hd : good = some true → ∃ data, e = .done data ∧ headData data = d) :
    ∃ u w, HeadRan s b good d u w (State.classify { s with bus := { s.bus with txn := none } } b e) := by
  let v : State := { s with bus := { s.bus with txn := none } }
  obtain ⟨h, hh⟩ : ∃ h, (s.head b).after e s.now = h := ⟨_, rfl⟩
  have hvb : v.head b = s.head b := by cases b <;> rfl
  let u := v.headStored b h
  let w := u.headFollowed b (s.head b)
  have hub : u.head b = h := congrArg BoomState.head (v.headStored_frame b h).2.1
  have hframe := (s.head b).takes_frame good
  have hpub : (s.head b).publishes good → h = { (s.head b).takes good with data := some d, published := some s.now, stale := false } :=
    fun hp => by
      obtain ⟨data, he, rfl⟩ := hd hp.1
      rw [← hh, Head.after_published hs he hp]
  have hkept : ¬(s.head b).publishes good → h = (s.head b).takes good := fun hp => by rw [← hh, Head.after_kept hs hp]
  have hcounts : h.count = ((s.head b).takes good).count ∧ h.restore = ((s.head b).takes good).restore ∧
      h.hasGood = ((s.head b).takes good).hasGood ∧ h.lastPoll = (s.head b).lastPoll := by
    by_cases hp : (s.head b).publishes good
    · rw [hpub hp]
      exact ⟨rfl, rfl, rfl, by rw [hframe]⟩
    · rw [hkept hp]
      exact ⟨rfl, rfl, rfl, by rw [hframe]⟩
  have hhealth : h.health = ((s.head b).takes good).health := congrArg Health.ofCount hcounts.1
  have hclass : v.classify b e =
      if e.sample = some true ∧ (h.health = .healthy ∨ h.health = .suspect) then (u.headChanged b (s.head b)).publish (headSources b)
      else if h.health ≠ (s.head b).health then (u.headChanged b (s.head b)).markValidity (headSources b)
      else u.headChanged b (s.head b) := by
    have hva : (v.head b).after e v.now = h := by
      rw [hvb]
      exact hh
    rw [← hvb]
    unfold State.classify
    dsimp only
    rw [hva]
    rfl
  have hcond : (e.sample = some true ∧ (h.health = .healthy ∨ h.health = .suspect)) ↔ (s.head b).publishes good := by
    rw [hs, hhealth, Head.publishes_health]
  have hfail : (h.health = .failed ∧ (s.head b).health ≠ .failed) ↔ (s.head b).fails good := by
    rw [hhealth, Head.fails_iff]
  have hchanged : u.headChanged b (s.head b) = if h.health = .failed ∧ (s.head b).health ≠ .failed then w.channelFailed b else w := by
    rw [State.headChanged_eq, hub]
  refine ⟨u, w, ⟨by rw [hub]; exact hcounts, fun hp => ?_, fun hp => ?_, by rw [hub], rfl, fun hp => ?_, fun hf => ?_, fun hp hf => ?_⟩⟩
  · rw [hub, hpub hp]
    exact ⟨rfl, rfl, rfl⟩
  · rw [hub, hkept hp, hframe]
    exact ⟨rfl, rfl, rfl⟩
  · have hnf : ¬(h.health = .failed ∧ (s.head b).health ≠ .failed) := fun hf => by
      have := (hcond.2 hp).2
      rw [hf.1] at this
      simp at this
    rw [hclass, if_pos (hcond.2 hp), hchanged, if_neg hnf]
  · have hp : ¬(s.head b).publishes good := fun hp => by
      have h1 := hf.2
      have h2 := hp.2
      omega
    have hff := hfail.2 hf
    rw [hclass, if_neg (fun h => hp (hcond.1 h)), hchanged, if_pos hff, if_pos]
    rw [hff.1]
    exact Ne.symm hff.2
  · rw [hclass, if_neg (fun h => hp (hcond.1 h)), hchanged, if_neg (fun h => hf (hfail.1 h)), hub]

end

end Sys2Proof.Machine
end

section
/-! PROOF. HeadSampled: the sample of a status block, clause by clause (R48, R49, R139 to R142, R152, R174, R179). -/
namespace Sys2Proof.Machine

section
variable {s c t u w : State} {b : BoomId} {good : Option Bool} {d : HeadData}

/-- A sample that fails the channel publishes nothing. -/
theorem Head.not_publishes_of_fails {x : Head} (h : x.fails good) : ¬x.publishes good := fun hp => by
  have h1 := h.2
  have h2 := hp.2
  omega

namespace HeadRan
variable (k : HeadRan s b good d u w c)
include k

/-- The state that holds the record. -/
theorem stored_frame : u.boom b = { s.boom b with head := u.head b } ∧ u.boom (otherBoom b) = s.boom (otherBoom b) ∧ u.arb = s.arb ∧
    u.analogs = s.analogs ∧ u.monitors = s.monitors ∧ (∀ e, s.raised e = true → u.raised e = true) ∧
    (∀ e : Event, (∀ k, e.bit ≠ (Event.channel (.head b) k).bit) → u.raised e = s.raised e) ∧
    (∀ i, u.pair i = s.pair i) ∧ SameFault b s u := by
  have hu := k.stored
  obtain ⟨h, hhead⟩ : ∃ h, u.head b = h := ⟨_, rfl⟩
  rw [hhead] at hu
  let v : State := { s with bus := { s.bus with txn := none } }
  obtain ⟨h1, h2, h3, h4, h5⟩ := v.headStored_frame b h
  rw [← hu] at h1 h2 h3 h4 h5
  have hv : ∀ a, v.boom a = s.boom a := fun a => by cases a <;> rfl
  have hve : v.engine b = s.engine b := congrArg BoomState.engine (hv b)
  have heng : u.engine b = s.engine b := (congrArg BoomState.engine h2).trans hve
  have hb : u.boom b = { s.boom b with head := u.head b } := by rw [h2, hv, hhead]
  refine ⟨hb, h3.trans (hv _), by rw [h1], by rw [h1], by rw [h1], h4, h5, fun i => ?_, ?_⟩
  · have hp : ∀ a, (u.boom a).pairs = (s.boom a).pairs := fun a => by
      by_cases ha : a = b
      · rw [ha, hb]
      · have : a = otherBoom b := by revert ha; cases a <;> cases b <;> decide
        rw [this, h3, hv]
    cases i with
    | boom a f => cases f with
      | rot => exact congrArg BoomPairs.rot (hp a)
      | feed => exact congrArg BoomPairs.feed (hp a)
      | ins => exact congrArg BoomPairs.ins (hp a)
    | canopy =>
      show u.canopyPair = s.canopyPair
      rw [h1]
  · refine ⟨by rw [h1], by rw [h1], by rw [h1], by rw [h1], by rw [hb], ?_, by rw [heng], fun hj => by rw [heng]; exact hj,
      by rw [heng], by rw [heng], by rw [heng], by rw [heng], by rw [heng]⟩
    exact (congrArg BoomState.logger hb).trans rfl

theorem engine : u.engine b = s.engine b := (congrArg BoomState.engine k.stored_frame.1).trans rfl

theorem turned : ∃ r, Turned u w b r ∧ ((u.head b).health ≠ (s.head b).health → r = u.restrictedNow b) := by
  obtain ⟨r, h1, h2⟩ := u.headFollowed_turned b (s.head b)
  rw [← k.followed] at h1
  exact ⟨r, h1, h2⟩

/-- What follows the flag: the failure, and the monitors. -/
theorem beside : ∃ x, Beside x c ∧ EngineMoves b w x ∧ (∀ e, w.raised e = true → x.raised e = true) ∧
    (∀ e : Event, e.besidesFaults → x.raised e = w.raised e) ∧ (¬(s.head b).fails good → x = w) := by
  by_cases hf : (s.head b).fails good
  · exact ⟨w.channelFailed b, k.fails hf ▸ .of_markValidity _ _, .of_channelFailed w b, fun e he => State.channelFailed_raised he,
      fun e he => State.channelFailed_quiet he, fun h => absurd hf h⟩
  · refine ⟨w, ?_, .refl b w, fun _ h => h, fun _ _ => rfl, fun _ => rfl⟩
    by_cases hp : (s.head b).publishes good
    · exact k.publishes hp ▸ .of_publish w _
    · rw [k.rests hp hf]
      exact .ite (.of_markValidity w _) (.refl w)

theorem after : c.head b = u.head b ∧ c.analogs = s.analogs ∧ (c.engine b).restricted = (w.engine b).restricted ∧
    (∀ e, u.raised e = true → c.raised e = true) := by
  obtain ⟨x, hb, hm, hr, -, -⟩ := k.beside
  obtain ⟨r, ht, -⟩ := k.turned
  obtain ⟨-, -, -, ha, -⟩ := k.stored_frame
  have hbh : c.head b = x.head b := (congrArg BoomState.head (hb.booms b)).trans rfl
  have hba : c.analogs = x.analogs := by rw [hb.rest]
  have hma : x.analogs = w.analogs := by rw [hm.1]
  exact ⟨hbh.trans ((EngineMoves.head hm b).trans (ht.head b)), hba.trans (hma.trans (ht.analogs.trans ha)),
    (hb.restricted b).trans (EngineMoves.restricted hm b), fun e he => hb.raised e (hr e (ht.raised_mono he))⟩

theorem restrictedNow : c.restrictedNow b = u.restrictedNow b := by
  obtain ⟨h1, h2, -, -⟩ := k.after
  have ha : c.analogs = u.analogs := h2.trans k.stored_frame.2.2.2.1.symm
  unfold State.restrictedNow State.analog
  rw [h1, ha]

/-- A sample that neither publishes nor fails the channel: the engine's flag, its feed pair and the monitors' marks. -/
theorem rest (hp : ¬(s.head b).publishes good) (hf : ¬(s.head b).fails good) :
    c.arb = w.arb ∧ (∀ a, c.boom a = w.boom a) ∧ ∀ i, c.pair i = w.pair i := by
  rw [k.rests hp hf]
  split
  · obtain ⟨h1, h2, -, h4, -⟩ := State.markValidity_keeps w (headSources b) _ rfl
    exact ⟨h1, h2, h4⟩
  · exact ⟨rfl, fun _ => rfl, fun _ => rfl⟩

/-- A GOOD block that is published restricts nothing. -/
theorem unrestricted (hp : (s.head b).publishes good) (h : s.restrictedNow b = false) : u.restrictedNow b = false := by
  have hstale := (k.published hp).2.2
  have hlow := (Head.publishes_health.1 hp).2
  have hhealth : (u.head b).health = ((s.head b).takes good).health := congrArg Health.ofCount k.count.1
  rw [← hhealth] at hlow
  have ha : u.analogs = s.analogs := k.stored_frame.2.2.2.1
  unfold State.restrictedNow State.analog at h ⊢
  rw [ha, hstale]
  simp only [Bool.or_eq_false_iff] at h ⊢
  refine ⟨⟨h.1.1, ?_⟩, trivial⟩
  rcases hlow with hl | hl <;> rw [hl] <;> exact ⟨rfl, rfl⟩

/-- R48, R22: a flag that was true to the channels follows the sample. -/
theorem flag (hc : (s.engine b).restricted = s.restrictedNow b) :
    RestrictedFollows u w b (u.restrictedNow b) ∧ (c.engine b).restricted = u.restrictedNow b ∧
      ((s.engine b).restricted = false → u.restrictedNow b = true → c.raised (.restricted b) = true ∧
        (¬(s.head b).fails good → ∀ r, (s.engine b).record = some r →
          (c.engine b).record = some { r with flags := { r.flags with restrictedRun := true } })) := by
  let v : State := { s with bus := { s.bus with txn := none } }
  have hvh : v.head b = s.head b := by cases b <;> rfl
  have hve : v.engine b = s.engine b := by cases b <;> rfl
  have hvn : v.restrictedNow b = s.restrictedNow b := by cases b <;> rfl
  have hfol : RestrictedFollows u w b (u.restrictedNow b) := by
    have h := State.headFollowed_follows (s := v) k.stored (by rw [hve, hvn]; exact hc)
    rw [hvh, ← k.followed] at h
    exact h
  have ht := hfol.turned
  obtain ⟨-, -, hres, -⟩ := k.after
  refine ⟨hfol, hres.trans (by rw [ht.engine]; rfl), fun h1 h2 => ⟨?_, fun hf r hr => ?_⟩⟩
  · obtain ⟨x, hb, -, hr, -, -⟩ := k.beside
    refine hb.raised _ (hr _ ?_)
    rw [ht.raised, h2, k.engine, h1]
    simp
  · have hp : ¬(s.head b).publishes good := fun hp => by
      have := k.unrestricted hp (hc ▸ h1)
      rw [this] at h2
      exact absurd h2 (by decide)
    have hce : c.engine b = w.engine b := congrArg BoomState.engine ((k.rest hp hf).2.1 b)
    rw [hce, ht.engine, h2, k.engine]
    simp [Engine.turned, h1, hr]

/-- R49, R142: the failure of the channel. -/
theorem fault (hf : (s.head b).fails good) : ChannelFault s c b := by
  obtain ⟨r, ht, hr⟩ := k.turned
  have hhealth : (u.head b).health = ((s.head b).takes good).health := congrArg Health.ofCount k.count.1
  have hfh := (Head.fails_iff _ _).2 hf
  have hbad : u.restrictedNow b = true := by
    unfold State.restrictedNow
    rw [hhealth, hfh.1]
    simp
  have hne : (u.head b).health ≠ (s.head b).health := by
    rw [hhealth, hfh.1]
    exact Ne.symm hfh.2
  rw [hr hne, hbad] at ht
  have h1 : ChannelFault s (w.channelFailed b) b := (ChannelFault.of_turned ht).congr k.stored_frame.2.2.2.2.2.2.2.2 k.engine
  rw [k.fails hf]
  exact h1.beside (.of_markValidity _ _)

/-- R179: the monitors where nothing is published. -/
theorem marks (hp : ¬(s.head b).publishes good) (hlen : s.monitors.length = 12) (n : Nat) (hn : n < 12) :
    c.monitor n =
      if ((s.monitor n).cfg.source = .headTemp b ∨ (s.monitor n).cfg.source = .headVacuum b) ∧ (u.head b).health ≠ (s.head b).health then
        { s.monitor n with valid := c.sourceValid (s.monitor n).cfg.source }
      else s.monitor n := by
  obtain ⟨r, ht, -⟩ := k.turned
  have hwm : w.monitors = s.monitors := ht.monitors.trans k.stored_frame.2.2.2.2.1
  have hmark {x : State} (hx : x.monitors = s.monitors) (hxc : x.markValidity (headSources b) = c) :
      c.monitor n = if (s.monitor n).cfg.source ∈ headSources b then
        { s.monitor n with valid := c.sourceValid (s.monitor n).cfg.source } else s.monitor n := by
    obtain ⟨h1, h2⟩ := x.markValidity_spec (headSources b)
    rw [hxc] at h1 h2
    have hxm : x.monitor n = s.monitor n := congrArg (·.getD n default) hx
    have hval (y : Source) : c.sourceValid y = x.sourceValid y := by rw [h1]; exact State.sourceValid_monitors _ _ _
    rw [h2 (by rw [hx]; exact hlen) n hn, hxm, hval]
  have hmem : (s.monitor n).cfg.source ∈ headSources b ↔
      (s.monitor n).cfg.source = .headTemp b ∨ (s.monitor n).cfg.source = .headVacuum b := by
    simp [headSources]
  by_cases hf : (s.head b).fails good
  · have hne : (u.head b).health ≠ (s.head b).health := by
      have hhealth : (u.head b).health = ((s.head b).takes good).health := congrArg Health.ofCount k.count.1
      have hfh := (Head.fails_iff _ _).2 hf
      rw [hhealth, hfh.1]
      exact Ne.symm hfh.2
    have hx : (w.channelFailed b).monitors = s.monitors := by
      have h := (EngineMoves.of_channelFailed w b).1
      exact (congrArg State.monitors h).trans hwm
    rw [hmark hx (k.fails hf).symm]
    exact if_congr (hmem.trans (and_iff_left hne).symm) rfl rfl
  · have hc := k.rests hp hf
    by_cases hne : (u.head b).health ≠ (s.head b).health
    · rw [if_pos hne] at hc
      rw [hmark hwm hc.symm]
      exact if_congr (hmem.trans (and_iff_left hne).symm) rfl rfl
    · rw [if_neg hne] at hc
      rw [if_neg fun h => hne h.2, hc]
      exact congrArg (·.getD n default) hwm

/-- R174, R176: the monitors of a GOOD block that is published. -/
theorem tests (hp : (s.head b).publishes good) (hlen : s.monitors.length = 12) (n : Nat) (hn : n < 12) :
    let m := s.monitor n
    let tested (x : Int) : Monitor := { (if m.cfg.enable = true then m.tested x else m) with valid := true }
    (m.cfg.source = .headTemp b → c.monitor n = tested d.temp) ∧
      (m.cfg.source = .headVacuum b → c.monitor n = tested (d.vacuum : Int)) ∧
      (m.cfg.source ≠ .headTemp b → m.cfg.source ≠ .headVacuum b → c.monitor n = m) := by
  intro m tested
  obtain ⟨r, ht, -⟩ := k.turned
  have hwm : w.monitors = s.monitors := ht.monitors.trans k.stored_frame.2.2.2.2.1
  have hwn : w.monitor n = m := congrArg (·.getD n default) hwm
  obtain ⟨-, hmon, -⟩ := State.publish_published (s := w) (headSources b) (by rw [hwm]; exact hlen)
  have hcn := hmon n
  rw [if_pos hn, ← k.publishes hp] at hcn
  have hwh : w.head b = u.head b := ht.head b
  obtain ⟨hdata, -, hstale⟩ := k.published hp
  have hvalid : (u.head b).valid = true := by
    have hlow := (Head.publishes_health.1 hp).2
    have hhealth : (u.head b).health = ((s.head b).takes good).health := congrArg Health.ofCount k.count.1
    have hgood : (u.head b).hasGood = true := by rw [k.count.2.2.1, hp.1]; exact Head.sampled_hasGood _
    rw [← hhealth] at hlow
    rw [Head.valid, hgood]
    rcases hlow with hl | hl <;> rw [hl] <;> rfl
  have hv {y : Source} (hy : y = .headTemp b ∨ y = .headVacuum b) : w.sourceValid y = true := by
    rcases hy with rfl | rfl <;> simp [State.sourceValid, hvalid, hwh, hdata, hstale]
  have hreached {y : Source} (hm : m.cfg.source = y) (hy : y = .headTemp b ∨ y = .headVacuum b) :
      c.monitor n = tested (w.sourceValue y) := by
    rw [hcn]
    unfold State.monitorReached State.levelOf
    dsimp only
    rw [hwn, hm, if_pos (by rcases hy with rfl | rfl <;> simp [headSources]), hv hy]
    simp only [and_true, tested]
    split <;> rfl
  refine ⟨fun hm => ?_, fun hm => ?_, fun h1 h2 => ?_⟩
  · rw [hreached hm (.inl rfl)]
    simp [State.sourceValue, hwh, hdata]
  · rw [hreached hm (.inr rfl)]
    simp [State.sourceValue, hwh, hdata]
  · rw [hcn]
    unfold State.monitorReached
    dsimp only
    rw [hwn, if_neg (by simp [headSources, h1, h2])]

end HeadRan

end

end Sys2Proof.Machine
end

section
/-! PROOF. HeadSampled, put together (R48, R49, R139 to R142, R152, R174, R179). -/
namespace Sys2Proof.Machine

section
variable {s c t u w : State} {b : BoomId} {good : Option Bool} {d : HeadData}

namespace HeadRan
variable (k : HeadRan s b good d u w c)
include k

/-- R138, R140: the health change has raised its event. -/
theorem event {x : ChannelEvent} (h : healthEvent (s.head b).health ((s.head b).takes good).health = some x) :
    c.raised (.channel (.head b) x) = true := by
  obtain ⟨-, -, -, hr⟩ := k.after
  refine hr _ ?_
  have hhealth : (u.head b).health = ((s.head b).takes good).health := congrArg Health.ofCount k.count.1
  have hvh : State.head { s with bus := { s.bus with txn := none } } b = s.head b := by cases b <;> rfl
  obtain ⟨h', hh⟩ : ∃ h', u.head b = h' := ⟨_, rfl⟩
  have hu := k.stored
  rw [hh] at hu hhealth
  rw [hu]
  unfold State.headStored
  rw [hvh, hhealth]
  exact State.raiseHealth_raised _ h

/-- R22: the state that holds the record, as seen from the state after the ending. -/
theorem stored_from (n : HeadNoted c t b) :
    ((({ s with bus := { s.bus with txn := none } } : State).setHead b { t.head b with lastPoll := (s.head b).lastPoll }).raiseHealth
      (.head b) (s.head b).health ((s.head b).takes good).health) = u := by
  have hh : { t.head b with lastPoll := (s.head b).lastPoll } = u.head b := by
    rw [n.head, k.after.1, ← k.count.2.2.2]
  have hhealth : (u.head b).health = ((s.head b).takes good).health := congrArg Health.ofCount k.count.1
  have hvh : State.head { s with bus := { s.bus with txn := none } } b = s.head b := by cases b <;> rfl
  have hu := k.stored
  unfold State.headStored at hu
  rw [hvh, hhealth] at hu
  rw [hh]
  exact hu.symm

/-- R22: the pairs, where the engine does not act on the failure of the channel. -/
theorem failed_pair (hf : (s.head b).fails good) (h1 : (s.engine b).state.engaged = false)
    (h2 : (s.engine b).state = .hold → (s.engine b).jog ≠ none) (i : PairId) : c.pair i = w.pair i := by
  obtain ⟨r, ht, -⟩ := k.turned
  have he := ht.engine
  rw [k.engine] at he
  have hst : (w.engine b).state = (s.engine b).state := by rw [he]; rfl
  have hjog : (w.engine b).jog = (s.engine b).jog := by rw [he]; rfl
  rw [k.fails hf]
  obtain ⟨-, -, -, h4, -⟩ := State.markValidity_keeps (w.channelFailed b) (headSources b) _ rfl
  exact (h4 i).trans (State.channelFailed_jogging (by rwa [hst]) (by rwa [hst, hjog]) i)

/-- R22, R48, R142: the boom's engine, and its feed pair. -/
theorem follows (n : HeadNoted c t b) (hc : (s.engine b).restricted = s.restrictedNow b) :
    (t.engine b).restricted = t.restrictedNow b ∧
      ((s.engine b).restricted = false → t.restrictedNow b = true → t.raised (.restricted b) = true ∧
        (¬(s.head b).fails good → ∀ r, (s.engine b).record = some r →
          (t.engine b).record = some { r with flags := { r.flags with restrictedRun := true } })) ∧
      RestrictedFollows u w b (t.restrictedNow b) := by
  obtain ⟨h1, h2, h3⟩ := k.flag hc
  have hnow : t.restrictedNow b = u.restrictedNow b := n.restrictedNow.trans k.restrictedNow
  rw [hnow, n.engine]
  refine ⟨h2, fun q1 q2 => ?_, h1⟩
  obtain ⟨m1, m2⟩ := h3 q1 q2
  exact ⟨n.raised _ m1, m2⟩

/-- R139, R140: a sample that neither publishes nor fails the channel leaves all of the engine but its flag and record. -/
theorem untold (n : HeadNoted c t b) (hf : ¬(s.head b).fails good) (hp : ¬(s.head b).publishes good) :
    t.arb = s.arb ∧ t.boom (otherBoom b) = s.boom (otherBoom b) ∧
      t.engine b = { s.engine b with restricted := (t.engine b).restricted, record := (t.engine b).record } ∧
      ((t.engine b).restricted = (s.engine b).restricted → t.engine b = s.engine b) := by
  obtain ⟨r1, r2, -⟩ := k.rest hp hf
  obtain ⟨r, ht, -⟩ := k.turned
  obtain ⟨-, h2, h3, -⟩ := k.stored_frame
  have he : t.engine b = (s.engine b).turned r := by
    rw [n.engine, show c.engine b = w.engine b from congrArg BoomState.engine (r2 b), ht.engine, k.engine]
  refine ⟨n.arb.trans (r1.trans (ht.arb.trans h3)), n.other.trans ((r2 _).trans (ht.other.trans h2)), by rw [he]; rfl, fun h => ?_⟩
  have hr : r = (s.engine b).restricted := by rw [he] at h; exact h
  rw [he, hr, Engine.turned_self]

/-- R174, R179: the monitors of a channel whose sample is not published. -/
theorem unpublished (n : HeadNoted c t b) (hp : ¬(s.head b).publishes good) :
    (t.head b).data = (s.head b).data ∧ (t.head b).published = (s.head b).published ∧ (t.head b).stale = (s.head b).stale ∧
      (s.monitors.length = 12 → ∀ i, i < 12 →
        ((((s.monitor i).cfg.source = .headTemp b ∨ (s.monitor i).cfg.source = .headVacuum b) ∧
            ((s.head b).takes good).health ≠ (s.head b).health) →
          t.monitor i = { s.monitor i with valid := t.sourceValid (s.monitor i).cfg.source }) ∧
        (¬(((s.monitor i).cfg.source = .headTemp b ∨ (s.monitor i).cfg.source = .headVacuum b) ∧
            ((s.head b).takes good).health ≠ (s.head b).health) → t.monitor i = s.monitor i)) := by
  obtain ⟨h1, h2, h3⟩ := k.kept hp
  have hth := n.head
  rw [k.after.1] at hth
  have hhealth : (u.head b).health = ((s.head b).takes good).health := congrArg Health.ofCount k.count.1
  refine ⟨by rw [hth]; exact h1, by rw [hth]; exact h2, by rw [hth]; exact h3, fun hlen i hi => ?_⟩
  have hm := k.marks hp hlen i hi
  rw [hhealth, ← n.monitor] at hm
  refine ⟨fun h => ?_, fun h => hm.trans (if_neg h)⟩
  rw [hm, if_pos h, n.sourceValid h.1]

theorem sampled (n : HeadNoted c t b) : HeadSampled s t b good d := by
  have hth : t.head b = { u.head b with lastPoll := (t.head b).lastPoll } := by rw [n.head, k.after.1]
  obtain ⟨c1, c2, c3, -⟩ := k.count
  refine ⟨by rw [hth]; exact c1, by rw [hth]; exact c2, by rw [hth]; exact c3, fun x hx => n.raised _ (k.event hx),
    n.analogs.trans k.after.2.1, fun hc => ?_, fun hf => n.fault (k.fault hf), k.untold n, k.unpublished n, fun hp => ?_⟩
  · obtain ⟨h1, h2, h3⟩ := k.follows n hc
    refine ⟨h1, h2, w, ?_, fun hp i => ?_, fun hp hf i => ?_, fun hf q1 q2 i => ?_⟩
    · exact (k.stored_from n).symm ▸ h3
    · rw [n.pair, k.publishes hp]
    · rw [n.pair, (k.rest hp hf).2.2]
    · rw [n.pair, k.failed_pair hf q1 q2]
  · obtain ⟨h1, h2, h3⟩ := k.published hp
    refine ⟨by rw [hth]; exact h1, by rw [hth]; exact h2, by rw [hth]; exact h3, fun hlen i hi => ?_⟩
    have hm := k.tests hp hlen i hi
    rw [← n.monitor] at hm
    exact hm

/-- R152: a read of a status block raises no HEAD_POLL_ERROR at the module. -/
theorem quiet : c.raised .headPollError = s.raised .headPollError := by
  obtain ⟨x, hb, -, -, hq, -⟩ := k.beside
  obtain ⟨r, ht, -⟩ := k.turned
  obtain ⟨-, -, -, -, -, -, hs, -⟩ := k.stored_frame
  have hw : w.raised .headPollError = u.raised .headPollError := by
    rw [ht.raised, show decide (Event.headPollError.bit = (Event.restricted b).bit) = false by cases b <;> decide]
    simp
  have hmon : ∀ n l, Event.headPollError.bit ≠ (Event.monitor n l).bit := fun n l => by
    cases l <;> simp only [Event.bit] <;> omega
  rw [hb.quiet _ (fun a => (headPollError_besides a).1) hmon, hq _ headPollError_besides, hw]
  exact hs _ fun x => by cases b <;> cases x <;> decide

end HeadRan

end

end Sys2Proof.Machine
end

section
/-! PROOF. How the transactions of the head bus end (R147 to R149, R151, R152, R154, R158). -/
namespace Sys2Proof.Machine

/-! ## The bytes of a READ BLOCK -/

section
variable {status : Bool} {n sum : Byte} {data rest : List Byte}

theorem readEnding_overlong (h : 16 < n.toNat) : readEnding status (n :: rest) = some (.error .checkError (some n)) :=
  if_pos h

theorem readEnding_complete (h : n.toNat ≤ 16) (hl : data.length = n.toNat) :
    readEnding status (n :: data ++ [sum]) =
      some (if byteSum (n :: data ++ [sum]) ≠ 0 ∨ status = true ∧ goodBlock data = false then .error .checkError none else .done data) := by
  have hdata : (data ++ [sum]).take n.toNat = data := by rw [← hl, List.take_left]
  have hall : (data ++ [sum]).take (n.toNat + 1) = data ++ [sum] := List.take_of_length_le (by simp [hl])
  show readEnding status (n :: (data ++ [sum])) = _
  unfold readEnding
  dsimp only
  rw [if_neg (by omega), if_neg (by simp [hl]), hdata, hall]
  by_cases hs : byteSum (n :: (data ++ [sum])) ≠ 0
  · rw [if_pos hs]
    exact congrArg some (if_pos (.inl hs)).symm
  · rw [if_neg hs]
    by_cases hg : status = true ∧ goodBlock data = false
    · rw [if_pos (by simpa using hg)]
      exact congrArg some (if_pos (.inr hg)).symm
    · rw [if_neg (by simpa using hg)]
      exact congrArg some (if_neg (not_or.2 ⟨hs, hg⟩)).symm

theorem goodBlock_of_length (h : data.length ≠ 5) : goodBlock data = false := by
  unfold goodBlock
  split
  · exact absurd rfl h
  · rfl

theorem goodBlock_false_iff {code temp hi lo contact : Byte} : goodBlock [code, temp, hi, lo, contact] = false ↔
    190 < temp.toNat ∨ 600 < hi.toNat * 256 + lo.toNat ∨ 1 < contact.toNat := by
  simp [goodBlock]
  omega

end

theorem Transaction.receive_kind (t : Transaction) (e : BusEnding) : (t.receive e).kind = t.kind := by cases e <;> rfl
theorem Transaction.receive_manual (t : Transaction) (e : BusEnding) : (t.receive e).manual = t.manual := by cases e <;> rfl
theorem Transaction.receive_statusOf (t : Transaction) (e : BusEnding) : (t.receive e).statusOf = t.statusOf := by cases e <;> rfl

theorem Transaction.ending_read {t : Transaction} (h : t.kind = .readBlock) (bytes : List Byte) :
    (t.receive (.returned bytes)).ending (.returned bytes) = readEnding t.statusOf.isSome bytes := by
  unfold Transaction.ending
  rw [Transaction.receive_kind, h]
  rfl

section
variable {s c t : State} {x : Transaction} {b : BoomId} {ended : Instr} {good : Option Bool} {p : PollEnding} {r : ManualResult}
  {d : HeadData} {e : Ending}

theorem exec_headTransactionEnd (hrun : s.phase = .running) (htx : s.bus.txn = some x) {q : BusEnding}
    (h : (x.receive q).ending q = some e) : exec (.headTransactionEnd q) s = .next (s.endTransaction (x.receive q) e) := by
  show Host.Outcome.next (s.whenRunning _) = _
  rw [State.whenRunning_of_running hrun]
  unfold State.headEnd
  rw [htx]
  dsimp only
  rw [h]

theorem exec_headBusTimeout (hrun : s.phase = .running) (htx : s.bus.txn = some x) :
    exec .headBusTimeout s = .next (s.endTransaction x (.error .timeout none)) := by
  show Host.Outcome.next (s.whenRunning _) = _
  rw [State.whenRunning_of_running hrun]
  unfold State.headTimeout
  rw [htx]

/-! ## The ending of the read of a status block -/

/-- R148, R152, R158: what the ending `e` of the read of a status block is to the head channel, the module's record and the host. -/
structure EndsAs (e : Ending) (good : Option Bool) (p : PollEnding) (r : ManualResult) (d : HeadData) : Prop where
  sample : e.sample = good
  poll : e.poll = some p
  manual : e.manual = r
  data : good = some true → ∃ data, e = .done data ∧ headData data = d

theorem EndsAs.error {k : BusError} {n : Option Byte} {q : PollEnding} (h1 : Ending.sample (.error k n) = some false)
    (h2 : Ending.poll (.error k n) = some q) (h : good = some false ∧ p = q ∧ r = .error k n) : EndsAs (.error k n) good p r d := by
  obtain ⟨rfl, rfl, rfl⟩ := h
  exact ⟨h1, h2, rfl, (nomatch ·)⟩

/-- R148, R152: a block whose bytes are in order is classed by its completion code. -/
theorem EndsAs.block {code temp hi lo contact : Byte} (h : r = .done [code, temp, hi, lo, contact] ∧
    d = { temp := (temp.toNat : Int) - 40, vacuum := hi.toNat * 256 + lo.toNat, contact := decide (contact = 1) } ∧
    if code = 0x40 then good = some true ∧ p = .good
    else if code = 0x80 then good = none ∧ p = .busy
    else if code = 0x81 then good = some false ∧ p = .sensorFault
    else good = some false ∧ p = .unknown code) : EndsAs (.done [code, temp, hi, lo, contact]) good p r d := by
  obtain ⟨rfl, rfl, h⟩ := h
  by_cases h1 : code = 0x40
  · rw [if_pos h1] at h
    obtain ⟨rfl, rfl⟩ := h
    subst h1
    exact ⟨rfl, rfl, rfl, fun _ => ⟨_, rfl, rfl⟩⟩
  · rw [if_neg h1] at h
    by_cases h2 : code = 0x80
    · rw [if_pos h2] at h
      obtain ⟨rfl, rfl⟩ := h
      subst h2
      exact ⟨rfl, rfl, rfl, (nomatch ·)⟩
    · rw [if_neg h2] at h
      by_cases h3 : code = 0x81
      · rw [if_pos h3] at h
        obtain ⟨rfl, rfl⟩ := h
        subst h3
        exact ⟨rfl, rfl, rfl, (nomatch ·)⟩
      · rw [if_neg h3] at h
        obtain ⟨rfl, rfl⟩ := h
        have hc : codeClass code = .unknown := by rw [codeClass, if_neg h1, if_neg h2, if_neg h3]
        exact ⟨by simp [Ending.sample, hc], by simp [Ending.poll, hc], rfl, (nomatch ·)⟩

theorem StatusEnding.ends (h : StatusEnding ended good p r d) (hrun : s.phase = .running) (htx : s.bus.txn = some x)
    (hk : x.kind = .readBlock) (hs : x.statusOf = some b) :
    ∃ x' e, exec ended s = .next (s.endTransaction x' e) ∧ x'.manual = x.manual ∧ x'.statusOf = some b ∧ EndsAs e good p r d := by
  have hread {bytes : List Byte} {e : Ending} (he : readEnding true bytes = some e) (ha : EndsAs e good p r d)
      (hend : ended = .headTransactionEnd (.returned bytes)) :
      ∃ x' e, exec ended s = .next (s.endTransaction x' e) ∧ x'.manual = x.manual ∧ x'.statusOf = some b ∧ EndsAs e good p r d :=
    ⟨x.receive (.returned bytes), e, hend ▸ exec_headTransactionEnd hrun htx (by rw [Transaction.ending_read hk, hs]; exact he),
      x.receive_manual _, (x.receive_statusOf _).trans hs, ha⟩
  rcases h with ⟨rfl, hb⟩ | ⟨rfl, hb⟩ | ⟨n, rest, hend, hn, hb⟩ | ⟨n, sum, data, hend, hn, hl, h5, hb⟩ |
    ⟨code, temp, hi, lo, contact, sum, hend, hb⟩
  · exact ⟨x.receive .noAck, _, exec_headTransactionEnd hrun htx rfl, x.receive_manual _, (x.receive_statusOf _).trans hs, .error rfl rfl hb⟩
  · exact ⟨x, _, exec_headBusTimeout hrun htx, rfl, hs, .error rfl rfl hb⟩
  · exact hread (readEnding_overlong hn) (.error rfl rfl hb) hend
  · have hd : data.length ≠ 5 := fun h => h5 (byte_eq_of_toNat (hl.symm.trans h))
    refine hread (readEnding_complete hn hl) ?_ hend
    rw [if_pos (.inr ⟨rfl, goodBlock_of_length hd⟩)]
    exact .error rfl rfl hb
  · refine hread (readEnding_complete (n := 5) (data := [code, temp, hi, lo, contact]) (by decide) rfl) ?_ hend
    have hsum : byteSum ((5 : Byte) :: [code, temp, hi, lo, contact] ++ [sum]) = 5 + code + temp + hi + lo + contact + sum := by
      simp [byteSum]
    by_cases hbad : 5 + code + temp + hi + lo + contact + sum ≠ 0 ∨ 190 < temp.toNat ∨ 600 < hi.toNat * 256 + lo.toNat ∨ 1 < contact.toNat
    · rw [if_pos (by rw [hsum, goodBlock_false_iff]; simpa using hbad)]
      rw [if_pos hbad] at hb
      exact .error rfl rfl hb
    · rw [if_neg (by rw [hsum, goodBlock_false_iff]; simpa using hbad)]
      rw [if_neg hbad] at hb
      exact .block hb

end

end Sys2Proof.Machine
end

section
/-! PROOF. The poll round and the manual transactions of the head bus, and stale head data (R149, R151 to R154, R156, R157). -/
namespace Sys2Proof.Machine

section
variable {s c t u w : State} {x : Transaction} {b : BoomId} {ended : Instr} {good : Option Bool} {p : PollEnding} {r : ManualResult}
  {d : HeadData} {e : Ending}

theorem HeadRan.bus (k : HeadRan s b good d u w c) : c.bus = { s.bus with txn := none } := by
  obtain ⟨y, hb, hm, -⟩ := k.beside
  obtain ⟨r, ht, -⟩ := k.turned
  have h1 : c.bus = y.bus := by rw [hb.rest]
  have h2 : y.bus = w.bus := by rw [hm.1]
  have h3 : w.bus = u.bus := by rw [ht.rest]
  have hu := (State.headStored_frame { s with bus := { s.bus with txn := none } } b (u.head b)).1
  rw [← k.stored] at hu
  exact h1.trans (h2.trans (h3.trans ((congrArg State.bus hu).trans rfl)))

/-- R150: the result of a manual transaction touches no module. -/
theorem HeadNoted.of_bus (c : State) (b : BoomId) (x : HeadBus) : HeadNoted c { c with bus := x } b :=
  ⟨rfl, by cases b <;> rfl, by cases b <;> rfl, fun _ h => h⟩

/-! ## The poll -/

theorem State.roundOn_eq (s : State) : s.roundOn = { s with bus := s.roundOn.bus } := by
  unfold State.roundOn
  split <;> rfl

/-- R150, R152, R154: a poll ending is written to its module, and the round moves on. -/
theorem State.pollEnded_noted (c : State) (b : BoomId) (e : Ending) : HeadNoted c (c.pollEnded b e).roundOn b ∧
    ((c.pollEnded b e).roundOn.head b).lastPoll = e.poll ∧
    (e.sample = some false → (c.pollEnded b e).roundOn.raised .headPollError = true) ∧
    (e.sample ≠ some false → (c.pollEnded b e).roundOn.raised .headPollError = c.raised .headPollError) := by
  let v := c.setHead b { c.head b with lastPoll := e.poll }
  have hv : HeadNoted c v b ∧ (v.head b).lastPoll = e.poll := by
    constructor
    · exact ⟨by cases b <;> rfl, by cases b <;> rfl, by cases b <;> rfl, fun _ h => by cases b <;> exact h⟩
    · cases b <;> rfl
  have hr : v.raised .headPollError = c.raised .headPollError := by cases b <;> rfl
  have heq : c.pollEnded b e = if e.sample = some false then v.raise .headPollError else v := rfl
  have hbus (y : State) (hy : HeadNoted c y b) : HeadNoted c y.roundOn b := by
    rw [y.roundOn_eq]
    exact ⟨by rw [hy.rest], by cases b <;> exact hy.boom, by cases b <;> exact hy.other, hy.raised⟩
  have hhead (y : State) : y.roundOn.head b = y.head b := by rw [y.roundOn_eq]; cases b <;> rfl
  have hraised (y : State) (f : Event) : y.roundOn.raised f = y.raised f := by rw [y.roundOn_eq]; rfl
  obtain ⟨h1, h2⟩ := hv
  generalize v = v at h1 h2 hr heq
  rw [heq, hhead, hraised]
  by_cases hs : e.sample = some false
  · rw [if_pos hs]
    refine ⟨hbus _ ⟨?_, ?_, ?_, fun f hf => State.raised_of_raised (h1.raised f hf) _⟩, ?_,
      fun _ => State.raised_raise _ (by decide), fun h => absurd hs h⟩
    · have := h1.rest
      rw [this]
      rfl
    · cases b <;> exact h1.boom
    · cases b <;> exact h1.other
    · cases b <;> exact h2
  · rw [if_neg hs]
    exact ⟨hbus _ h1, h2, fun h => absurd h hs, fun _ => hr⟩

theorem pollRead_status (b : BoomId) : (pollRead b).kind = .readBlock ∧ (pollRead b).statusOf = some b := by
  cases b <;> exact ⟨rfl, rfl⟩

theorem State.pollEnded_bus (c : State) (b : BoomId) (e : Ending) : (c.pollEnded b e).bus = c.bus := by
  unfold State.pollEnded
  dsimp only
  split <;> cases b <;> rfl

/-- R154: where the round stands once a poll read has ended. -/
theorem State.roundOn_bus (y : State) (h : y.bus = { s.bus with txn := none }) (hb : s.bus.round = some b) :
    (b = .A → s.bus.schedule = .polling → y.roundOn.bus = { s.bus with round := some .B, txn := some (pollRead .B) }) ∧
      (b = .B ∨ s.bus.schedule ≠ .polling → y.roundOn.bus =
        { s.bus with
          round := none, txn := none
          schedule := if s.bus.schedule = .pausePending then .paused else s.bus.schedule }) := by
  have hround : y.bus.round = some b := by rw [h]; exact hb
  have hsch : y.bus.schedule = s.bus.schedule := by rw [h]
  unfold State.roundOn
  refine ⟨fun h1 h2 => ?_, fun h1 => ?_⟩
  · rw [if_pos ⟨h1 ▸ hround, hsch.trans h2⟩]
    show ({ y.bus with round := some .B, txn := some (pollRead .B) } : HeadBus) = _
    rw [h]
  · rw [if_neg]
    · show ({ y.bus with round := none, schedule := _ } : HeadBus) = _
      rw [h]
    · rw [hround, hsch]
      rintro ⟨k1, k2⟩
      rcases h1 with h1 | h1
      · rw [h1] at k1
        exact absurd k1 (by decide)
      · exact h1 k2

/-- Settles O45. -/
theorem pollRoundReadsHeads : Obligations.PollRoundReadsHeads := by
  unfold Obligations.PollRoundReadsHeads
  refine ⟨fun s hrun => ?_, fun b s ended good p r d hrun htx hround h => ?_⟩
  · show Host.Outcome.next (s.whenRunning _) = _
    rw [State.whenRunning_of_running hrun]
    unfold State.pollExpiry
    dsimp only
    split <;> rfl
  · obtain ⟨x, e, hexec, hman, hst, ha⟩ := h.ends hrun htx (pollRead_status b).1 (pollRead_status b).2
    obtain ⟨u, w, k⟩ := s.classify_ran b ha.sample ha.data
    obtain ⟨c, hc⟩ : ∃ c, State.classify { s with bus := { s.bus with txn := none } } b e = c := ⟨_, rfl⟩
    rw [hc] at k
    have hend : s.endTransaction x e = (c.pollEnded b e).roundOn := by
      unfold State.endTransaction
      dsimp only
      rw [hst, if_neg (by rw [hman]; exact (nomatch ·))]
      dsimp only
      rw [hc]
    obtain ⟨hn, h1, h2, h3⟩ := c.pollEnded_noted b e
    obtain ⟨b1, b2⟩ := State.roundOn_bus (c.pollEnded b e) ((c.pollEnded_bus b e).trans k.bus) hround
    rw [ha.sample] at h2 h3
    refine ⟨_, hexec.trans (congrArg _ hend), k.sampled hn, h1.trans ha.poll, h2, fun hg => (h3 hg).trans k.quiet, b1, b2⟩

/-! ## Manual transactions -/

theorem manual_status (h1 : x.kind = .readBlock) (h2 : x.cmd = 0x10) (h3 : x.addr = headAddr b) : x.statusOf = some b := by
  unfold Transaction.statusOf
  rw [if_pos ⟨h1, h2⟩, h3]
  cases b <;> rfl

/-- R149, R157: a manual transaction that reads no status block. -/
theorem State.endTransaction_manual (s : State) (hm : x.manual = true) (hs : x.statusOf = none) (e : Ending) :
    s.endTransaction x e = { s with bus := { s.bus with txn := none, manual := { s.bus.manual with result := e.manual } } } := by
  unfold State.endTransaction
  dsimp only
  rw [hs, if_pos hm]

theorem manual_ends (hrun : s.phase = .running) (htx : s.bus.txn = some x) (hm : x.manual = true) (hs : x.statusOf = none)
    {q : BusEnding} (he : (x.receive q).ending q = some e) : exec (.headTransactionEnd q) s =
      .next { s with bus := { s.bus with txn := none, manual := { s.bus.manual with result := e.manual } } } := by
  rw [exec_headTransactionEnd hrun htx he,
    State.endTransaction_manual s ((x.receive_manual q).trans hm) ((x.receive_statusOf q).trans hs)]

theorem byteSum_foldl (l : List Byte) : byteSum l = l.foldl (· + ·) 0 := rfl

/-! ## Stale head data -/

theorem State.isStale_iff : s.isStale b = true ↔ ∀ x, (s.head b).published = some x → s.cal.staleLimit < (s.now - x).toNat := by
  unfold State.isStale
  cases h : (s.head b).published with
  | none => simp
  | some y =>
    simp only [decide_eq_true_eq, Option.some.injEq, forall_eq']
    rfl

theorem exec_headDataStale (hrun : s.phase = .running) :
    exec (.headDataStale b) s = .next (if s.isStale b = true then s.setStale b true else s) := by
  show Host.Outcome.next (s.whenRunning _) = _
  rw [State.whenRunning_of_running hrun]

/-- R153: the stale mark is set, the engine follows, and the monitors of the head record an invalid source. -/
theorem State.setStale_eq (h : (s.head b).stale = false) :
    s.setStale b true =
      ((s.setHead b { s.head b with stale := true }).updateRestricted b).markValidity (headSources b) := by
  obtain ⟨v, hv⟩ : ∃ v, s.setHead b { s.head b with stale := true } = v := ⟨_, rfl⟩
  have hvh : v.head b = { s.head b with stale := true } := by rw [← hv]; cases b <;> rfl
  unfold State.setStale
  dsimp only
  rw [if_neg (by rw [h]; decide), hv, State.headChanged_eq, hvh, if_neg (fun k => k.2 k.1)]
  unfold State.headFollowed
  rw [hvh, if_pos (.inr fun k => by rw [h] at k; exact Bool.noConfusion k)]

/-- R48, R153, R179: what the stale mark brings. -/
theorem State.setStale_spec (h : (s.head b).stale = false) :
    ∃ v, RestrictedFollows (s.setHead b { s.head b with stale := true }) v b true ∧
      Turned (s.setHead b { s.head b with stale := true }) v b true ∧
      s.setStale b true = { v with monitors := (s.setStale b true).monitors } ∧
      (s.monitors.length = 12 → ∀ n, n < 12 → (s.setStale b true).monitor n =
        if (s.monitor n).cfg.source = .headTemp b ∨ (s.monitor n).cfg.source = .headVacuum b then
          { s.monitor n with valid := false } else s.monitor n) := by
  obtain ⟨y, hy⟩ : ∃ y, s.setHead b { s.head b with stale := true } = y := ⟨_, rfl⟩
  have hyh : (y.head b).stale = true := by rw [← hy]; cases b <;> rfl
  have hym : y.monitors = s.monitors := by rw [← hy]; cases b <;> rfl
  have hnow : y.restrictedNow b = true := by
    unfold State.restrictedNow
    rw [hyh, Bool.or_true]
  have hf := y.updateRestricted_spec b
  rw [hnow] at hf
  obtain ⟨k1, k2⟩ := (y.updateRestricted b).markValidity_spec (headSources b)
  have ht := hf.turned
  have hst : s.setStale b true = (y.updateRestricted b).markValidity (headSources b) := by rw [State.setStale_eq h, hy]
  rw [← hst] at k1 k2
  generalize y.updateRestricted b = v at hf k1 k2 ht
  rw [hy]
  refine ⟨v, hf, ht, k1, fun hlen n hn => ?_⟩
  have hvm : v.monitors = s.monitors := ht.monitors.trans hym
  have hvn : v.monitor n = s.monitor n := congrArg (·.getD n default) hvm
  have hvh : (v.head b).stale = true := by rw [ht.head]; exact hyh
  rw [k2 (by rw [hvm]; exact hlen) n hn, hvn]
  by_cases hsrc : (s.monitor n).cfg.source = .headTemp b ∨ (s.monitor n).cfg.source = .headVacuum b
  · have hval : v.sourceValid (s.monitor n).cfg.source = false := by
      rcases hsrc with hsrc | hsrc <;> rw [hsrc] <;> simp [State.sourceValid, hvh]
    rw [if_pos hsrc, if_pos (by simpa [headSources] using hsrc), hval]
  · rw [if_neg hsrc, if_neg (by simpa [headSources] using hsrc)]

/-- Settles O46. -/
theorem manualEndsAndStaleness : Obligations.ManualEndsAndStaleness := by
  unfold Obligations.ManualEndsAndStaleness
  refine ⟨fun s x hrun htx hm hs => ?_, fun b s x ended good p r d hrun htx hm hk hc ha h => ?_, fun s hrun htx => ?_,
    fun b s hrun => ?_⟩
  · intro result
    refine ⟨manual_ends hrun htx hm hs (e := .error .noAck none) rfl, ?_, fun hk => manual_ends hrun htx hm hs (e := .done []) ?_, fun n sum data hk => ⟨fun hn hl => ?_,
      fun hn => manual_ends hrun htx hm hs (e := .error .checkError (some n)) ((Transaction.ending_read hk _).trans (readEnding_overlong hn))⟩⟩
    · rw [exec_headBusTimeout hrun htx, State.endTransaction_manual s hm hs]
      rfl
    · unfold Transaction.ending
      rw [Transaction.receive_kind]
      cases hx : x.kind with
      | readBlock => exact absurd hx hk
      | ping => rfl
      | writeBlock => rfl
    · rw [manual_ends hrun htx hm hs ((Transaction.ending_read hk _).trans (readEnding_complete hn hl)), hs]
      simp only [Option.isSome_none, Bool.false_eq_true, false_and, or_false, byteSum_foldl]
      by_cases h0 : (n :: data ++ [sum]).foldl (· + ·) 0 = 0
      · rw [if_pos h0, if_neg (not_not.2 h0)]
        rfl
      · rw [if_neg h0, if_pos h0]
        rfl
  · have hst : x.statusOf = some b := manual_status hk hc (by rw [ha]; cases b <;> rfl)
    obtain ⟨x', e, hexec, hman, hst', he⟩ := h.ends hrun htx hk hst
    obtain ⟨u, w, k⟩ := s.classify_ran b he.sample he.data
    obtain ⟨c, hcl⟩ : ∃ c, State.classify { s with bus := { s.bus with txn := none } } b e = c := ⟨_, rfl⟩
    rw [hcl] at k
    let t : State := { c with bus := { c.bus with manual := { c.bus.manual with result := e.manual } } }
    have hend : s.endTransaction x' e = t := by
      unfold State.endTransaction
      dsimp only
      rw [hst', if_pos (hman.trans hm)]
      dsimp only
      rw [hcl]
    have hth : t.head b = c.head b := by cases b <;> rfl
    refine ⟨t, hexec.trans (congrArg _ hend), k.sampled (.of_bus c b _), ?_, k.quiet, ?_⟩
    · rw [hth, k.after.1]
      exact k.count.2.2.2
    · show ({ c.bus with manual := { c.bus.manual with result := e.manual } } : HeadBus) = _
      rw [k.bus, he.manual]
  · refine ⟨fun e => ?_, ?_⟩
    · show Host.Outcome.next (s.whenRunning _) = _
      rw [State.whenRunning_of_running hrun, State.headEnd, htx]
    · show Host.Outcome.next (s.whenRunning _) = _
      rw [State.whenRunning_of_running hrun, State.headTimeout, htx]
  · intro passed
    rw [exec_headDataStale hrun]
    refine ⟨fun h => congrArg _ ?_, fun hs hp hc => ?_⟩
    · rcases h with h | h
      · unfold State.setStale
        dsimp only
        rw [if_pos h, ite_self]
      · exact if_neg fun hi => h (State.isStale_iff.1 hi)
    · rw [if_pos (State.isStale_iff.2 hp)]
      obtain ⟨v, hf, ht, hrest, hmon⟩ := State.setStale_spec hs
      generalize s.setStale b true = t at hrest hmon
      have hboom : ∀ a, t.boom a = v.boom a := fun a => by rw [hrest]; cases a <;> rfl
      have hyb : State.boom (s.setHead b { s.head b with stale := true }) b = { s.boom b with head := { s.head b with stale := true } } := by
        cases b <;> rfl
      have hyo : State.boom (s.setHead b { s.head b with stale := true }) (otherBoom b) = s.boom (otherBoom b) := by cases b <;> rfl
      have hye : State.engine (s.setHead b { s.head b with stale := true }) b = s.engine b := by cases b <;> rfl
      have hte : t.engine b = (s.engine b).turned true := by
        rw [show t.engine b = v.engine b from congrArg BoomState.engine (hboom b), ht.engine, hye]
      have hth : t.head b = { s.head b with stale := true } := by
        rw [show t.head b = v.head b from congrArg BoomState.head (hboom b), ht.head]
        exact congrArg BoomState.head hyb
      have htarb : t.arb = v.arb := by rw [hrest]
      have htan : t.analogs = v.analogs := by rw [hrest]
      have htbus : t.bus = v.bus := by rw [hrest]
      have hyrest : ∀ z : Head, (s.setHead b z).arb = s.arb ∧ (s.setHead b z).analogs = s.analogs ∧ (s.setHead b z).bus = s.bus := fun z => by
        cases b <;> exact ⟨rfl, rfl, rfl⟩
      obtain ⟨y1, y2, y3⟩ := hyrest { s.head b with stale := true }
      refine ⟨t, rfl, hth, hmon, htarb.trans (ht.arb.trans y1), (hboom _).trans (ht.other.trans hyo), htan.trans (ht.analogs.trans y2),
        htbus.trans ((by rw [ht.rest] : v.bus = _).trans y3), by rw [hte]; rfl, by rw [hte]; rfl, fun h0 => ⟨?_, fun r hr => ?_⟩,
        v, hf, fun i => ?_⟩
      · have : t.raised (.restricted b) = v.raised (.restricted b) := by rw [hrest]; rfl
        rw [this, ht.raised, hye, h0]
        simp
      · rw [hte]
        simp [Engine.turned, h0, hr]
      · rw [hrest]
        rcases i with ⟨_ | _, _ | _ | _⟩ | _ <;> rfl

end

end Sys2Proof.Machine
end

section
/-! PROOF. A boom's scan group, up to the engine's own test (R48, R49, R124, R125, R134, R142). -/
namespace Sys2Proof.Machine

section
variable {s t u v w : State} {b : BoomId}

/-! ## The engine is told of both channels -/

theorem State.updateRestricted_self (h : (s.engine b).restricted = s.restrictedNow b) : s.updateRestricted b = s :=
  (s.updateRestricted_spec b).1 h

theorem State.restrictedNow_of_same (ha : t.analogs = s.analogs) (hh : t.head b = s.head b) : t.restrictedNow b = s.restrictedNow b := by
  unfold State.restrictedNow State.analog
  rw [ha, hh]

/-- R48: the flag is true to the channels once it has been updated. -/
theorem State.updateRestricted_settled (s : State) (b : BoomId) :
    (s.updateRestricted b).restrictedNow b = s.restrictedNow b ∧
      ((s.updateRestricted b).engine b).restricted = s.restrictedNow b := by
  have ht := s.updateRestricted_turned b
  refine ⟨State.restrictedNow_of_same ht.analogs (ht.head b), ?_⟩
  rw [ht.engine]
  rfl

theorem State.channelFailed_settled (s : State) (b : BoomId) :
    (s.channelFailed b).restrictedNow b = s.restrictedNow b ∧
      ((s.channelFailed b).engine b).restricted = (s.engine b).restricted := by
  have hm := EngineMoves.of_channelFailed s b
  exact ⟨State.restrictedNow_of_same (by rw [hm.1]) (hm.head b), hm.restricted b⟩

/-- R49: a second failed channel finds the engine FAULTED. -/
theorem State.channelFailed_again (s : State) (b : BoomId) : (s.channelFailed b).channelFailed b = s.channelFailed b := by
  by_cases h : (s.engine b).state.engaged = true ∨ (s.engine b).state = .hold
  · have hst : ((s.channelFailed b).engine b).state = .faulted := by
      rw [State.channelFailed_eq h]
      exact ((s.holdCause b .channel).enterFaulted_stands b .channelFailed).1
    exact State.channelFailed_idle (by rw [hst]; rfl) (by rw [hst]; exact (nomatch ·))
  · rw [not_or] at h
    rw [State.channelFailed_idle (s := s) (by simpa using h.1) h.2, State.channelFailed_idle (by simpa using h.1) h.2]

/-- R142: the flag of boom `b` has followed its channels where one of them has changed its health. -/
def State.followed (s : State) (b : BoomId) (changed : Bool) : State := if changed then s.updateRestricted b else s

/-- R48, R49: the engine has followed its channels, of which one has entered FAILED or none. -/
def State.faultFollowed (s : State) (b : BoomId) (changed failed : Bool) : State :=
  if failed then (s.followed b changed).channelFailed b else s.followed b changed

theorem State.tellEngine_eq (s : State) (b : BoomId) (o n : Health) :
    s.tellEngine b o n = s.faultFollowed b (o != n) (n == .failed && o != n) := by
  unfold State.tellEngine State.faultFollowed State.followed
  by_cases h : o = n
  · simp [h]
  · simp [h]

/-- R48, R49: what is told of two channels is told at once. -/
theorem State.tellEngine_twice (s : State) (b : BoomId) (o1 n1 o2 n2 : Health) :
    (s.tellEngine b o1 n1).tellEngine b o2 n2 =
      s.faultFollowed b (o1 != n1 || o2 != n2) ((n1 == .failed && o1 != n1) || (n2 == .failed && o2 != n2)) := by
  obtain ⟨h1, h2⟩ := s.updateRestricted_settled b
  have hv : (s.updateRestricted b).updateRestricted b = s.updateRestricted b := State.updateRestricted_self (by rw [h1, h2])
  have hf : ((s.updateRestricted b).channelFailed b).updateRestricted b = (s.updateRestricted b).channelFailed b := by
    obtain ⟨h3, h4⟩ := (s.updateRestricted b).channelFailed_settled b
    exact State.updateRestricted_self (by rw [h3, h4, h1, h2])
  rw [State.tellEngine_eq, State.tellEngine_eq]
  unfold State.faultFollowed State.followed
  generalize (o1 != n1) = c1, (n1 == .failed) = f1, (o2 != n2) = c2, (n2 == .failed) = f2
  cases c1
  · simp
  · cases c2
    · simp
    · cases f1 <;> cases f2 <;> simp [hv, hf, State.channelFailed_again]

/-! ## What the logger's scan leaves -/

theorem State.putLogger_engine (s : State) (b : BoomId) (l : Logger) : ∃ r, (s.putLogger b l).engine b = { s.engine b with record := r } := by
  rw [State.putLogger_found s b l _ rfl]
  split
  · exact ⟨_, (State.raise_engine _ _ b).trans ((State.setEngine_engine _ b b _).trans (if_pos rfl))⟩
  · exact ⟨(s.engine b).record, by simp⟩

theorem State.reissueFeed_boom (s : State) (b : BoomId) :
    (s.reissueFeed b).boom b = { s.boom b with pairs := ((s.reissueFeed b).boom b).pairs } ∧
      ∀ e, (s.reissueFeed b).raised e = s.raised e := by
  rcases (s.reissueFeed_spec b).request with h | ⟨q, h⟩
  · rw [h]
    exact ⟨rfl, fun _ => rfl⟩
  · rw [h]
    obtain ⟨h1, h2, -⟩ := s.request_boom b .feed q
    refine ⟨h2, fun e => ?_⟩
    rw [h1]
    rfl

/-- R57, R65, R68: a scan of the logger leaves the engine all but its record. -/
theorem State.loggerScan_engine (s : State) (b : BoomId) :
    (∃ r, (s.loggerScan b).engine b = { s.engine b with record := r }) ∧ ∀ e, s.raised e = true → (s.loggerScan b).raised e = true := by
  have hput (l : Logger) : ∀ e, s.raised e = true → (s.putLogger b l).raised e = true := fun e he => by
    rw [State.putLogger_found s b l _ rfl]
    split
    · refine State.raised_of_raised ?_ _
      rw [State.setEngine_raised, State.setLogger_raised, he]
    · rw [State.setLogger_raised, he]
  have hre (u : State) : (u.reissueFeed b).engine b = u.engine b := (congrArg BoomState.engine (u.reissueFeed_boom b).1).trans rfl
  unfold State.loggerScan
  dsimp only
  split
  · split
    · rw [hre]
      exact ⟨s.putLogger_engine b _, fun e he => by rw [((s.putLogger b _).reissueFeed_boom b).2, hput _ e he]⟩
    · exact ⟨s.putLogger_engine b _, hput _⟩
  · exact ⟨⟨(s.engine b).record, rfl⟩, fun _ h => h⟩

end

end Sys2Proof.Machine
end

section
/-! PROOF. The publication of the scan groups (R22, R48, R49, R124 to R126, R133, R134, R137, R139, R140, R142). -/
namespace Sys2Proof.Machine

/-! ## The channels of a group take their samples -/

/-- R140: the event bit of a channel's health change. -/
def healthBits (c : ChannelId) (o n : Health) : BitVec 96 :=
  match healthEvent o n with
  | none => 0
  | some k => 1#96 <<< (Event.channel c k).bit

theorem State.raiseHealth_bits (s : State) (c : ChannelId) (o n : Health) :
    s.raiseHealth c o n = { s with events := s.events ||| healthBits c o n } := by
  unfold State.raiseHealth healthBits
  cases healthEvent o n with
  | none => show s = { s with events := s.events ||| 0#96 }; rw [BitVec.or_zero]
  | some k => rfl

/-- R128: channel `c` once it has taken the raw sample. -/
def State.taken (s : State) (c : AnalogId) (raw : RawSample) : Analog := (s.analog c).sample c (s.cal.shift c) raw (s.cal.convert c raw)

/-- R140: the bit of the event that the raw sample brings. -/
def State.takenBits (s : State) (c : AnalogId) (raw : RawSample) : BitVec 96 :=
  healthBits (.analog c) (s.analog c).health (s.taken c raw).health

theorem State.sampleAnalog_eq (s : State) (c : AnalogId) (raw : RawSample) :
    s.sampleAnalog c raw = { s.setAnalog c (s.taken c raw) with events := s.events ||| s.takenBits c raw } := by
  unfold State.sampleAnalog
  dsimp only
  rw [State.raiseHealth_bits]
  cases c <;> rfl

/-- R125: two channels of a group take their samples. -/
def State.bothTaken (s : State) (c d : AnalogId) (x y : RawSample) : State :=
  (({ s with events := s.events ||| s.takenBits c x ||| s.takenBits d y } : State).setAnalog c (s.taken c x)).setAnalog d (s.taken d y)

theorem State.sampleAnalog_both (s : State) {c d : AnalogId} (h : d ≠ c) (x y : RawSample) :
    (s.sampleAnalog c x).sampleAnalog d y = s.bothTaken c d x y := by
  have ht : (s.sampleAnalog c x).taken d y = s.taken d y ∧ (s.sampleAnalog c x).takenBits d y = s.takenBits d y := by
    have ha : (s.sampleAnalog c x).analog d = s.analog d := State.sampleAnalog_analog_ne s h x
    have hcal : (s.sampleAnalog c x).cal = s.cal := by
      rw [State.sampleAnalog_eq]
      cases c <;> rfl
    unfold State.takenBits State.taken
    rw [ha, hcal]
    exact ⟨rfl, rfl⟩
  rw [State.sampleAnalog_eq _ d, ht.1, ht.2, State.sampleAnalog_eq]
  unfold State.bothTaken
  cases c <;> cases d <;> rfl

theorem State.bothTaken_analog (s : State) (c d : AnalogId) (x y : RawSample) (e : AnalogId) :
    (s.bothTaken c d x y).analog e = if e = d then s.taken d y else if e = c then s.taken c x else s.analog e := by
  unfold State.bothTaken
  rw [State.setAnalog_analog, State.setAnalog_analog]
  rfl

/-- R124, R125, R133: the channels of boom `b`'s group have taken their samples, and its record its position and its estimate. -/
def State.grouped (s : State) (b : BoomId) (rot feed : RawSample) (later : Nat) : State :=
  (s.bothTaken (rotChannel b) (feedChannel b) rot feed).setMotion b
    { s.motion b with
      scanPos := s.scan.latched b (s.motion b).feedPos later
      torqueEst := torqueEstimate (s.taken (rotChannel b) rot).filt (s.cal.idlePressure b) (s.cal.torqueFactor b) }

theorem State.groupSampled_eq (s : State) (b : BoomId) (rot feed : RawSample) (later : Nat) :
    s.groupSampled b rot feed later = s.grouped b rot feed later := by
  have hne : feedChannel b ≠ rotChannel b := (rotChannel_ne_feedChannel b b).symm
  unfold State.groupSampled
  rw [State.sampleAnalog_both _ hne]
  have ht (c : AnalogId) (r : RawSample) : (s.recordPosition b later).taken c r = s.taken c r := by
    unfold State.taken State.recordPosition
    rw [State.setMotion_analog]
    cases b <;> rfl
  have hbits (c : AnalogId) (r : RawSample) : (s.recordPosition b later).takenBits c r = s.takenBits c r := by
    unfold State.takenBits
    rw [ht, State.recordPosition, State.setMotion_analog]
  unfold State.estimateTorque
  rw [State.bothTaken_analog, if_neg hne.symm, if_pos rfl, ht]
  unfold State.bothTaken State.grouped State.bothTaken
  rw [ht, ht, hbits, hbits]
  generalize s.taken (rotChannel b) rot = x
  generalize s.taken (feedChannel b) feed = y
  generalize s.takenBits (rotChannel b) rot = m
  generalize s.takenBits (feedChannel b) feed = n
  cases b <;> rfl

/-- R124: the position latched at the group's sampling instant. -/
theorem Scan.latched_eq (x : Scan) (b : BoomId) (pos later : Nat) :
    x.latched b pos later = (pos :: x.left b).getD later ((pos :: x.left b).getLastD 0) := by
  unfold Scan.latched
  dsimp only
  rw [List.getLastD_cons, List.getLastD_cons]

/-! ## What the engine does of it -/

section
variable {s u w : State} {b : BoomId} {changed failed : Bool}

theorem State.followed_turned (w : State) (b : BoomId) (changed : Bool) :
    ∃ r, Turned w (w.followed b changed) b r ∧ (changed = true → r = w.restrictedNow b) := by
  cases changed with
  | true => exact ⟨_, w.updateRestricted_turned b, fun _ => rfl⟩
  | false => exact ⟨_, .refl rfl, (nomatch ·)⟩

/-- R48, R142: a flag that is true to the channels where none has changed follows them. -/
theorem State.followed_follows (h : changed = false → (w.engine b).restricted = w.restrictedNow b) :
    RestrictedFollows w (w.followed b changed) b (w.restrictedNow b) := by
  cases changed with
  | true => exact w.updateRestricted_spec b
  | false => exact ⟨fun _ => rfl, fun hne => absurd (h rfl) hne⟩

/-- R48, R49, R142: what the engine leaves alone as it follows its channels. -/
theorem State.faultFollowed_keeps (w : State) (b : BoomId) (changed failed : Bool) :
    (w.faultFollowed b changed failed).analogs = w.analogs ∧ (w.faultFollowed b changed failed).motion b = w.motion b ∧
      ((w.faultFollowed b changed failed).engine b).restricted = ((w.followed b changed).engine b).restricted ∧
      ∀ e, (w.followed b changed).raised e = true → (w.faultFollowed b changed failed).raised e = true := by
  obtain ⟨r, ht, -⟩ := w.followed_turned b changed
  have hm : (w.followed b changed).motion b = w.motion b := (congrArg BoomState.motion ht.boom).trans rfl
  unfold State.faultFollowed
  split
  · have hc := EngineMoves.of_channelFailed (w.followed b changed) b
    exact ⟨(congrArg State.analogs hc.1).trans ht.analogs, (hc.motion b).trans hm, hc.restricted b, fun e he => State.channelFailed_raised he⟩
  · exact ⟨ht.analogs, hm, rfl, fun _ h => h⟩

/-- R48, R22: the flag and the pairs, once the engine has followed its channels. -/
theorem State.faultFollowed_follows (h : changed = false → (w.engine b).restricted = w.restrictedNow b) :
    ((w.faultFollowed b changed failed).engine b).restricted = w.restrictedNow b ∧
      ∃ v, RestrictedFollows w v b (w.restrictedNow b) ∧
        (failed = false ∨ (w.engine b).state.engaged = false ∧ (w.engine b).state ≠ .hold → w.faultFollowed b changed failed = v) ∧
        ((w.engine b).state = .hold → (w.engine b).jog ≠ none → ∀ i, (w.faultFollowed b changed failed).pair i = v.pair i) := by
  obtain ⟨-, -, hres, -⟩ := w.faultFollowed_keeps b changed failed
  have hf := w.followed_follows h
  have ht := hf.turned
  have hst : ((w.followed b changed).engine b).state = (w.engine b).state := by rw [ht.engine]; rfl
  have hjog : ((w.followed b changed).engine b).jog = (w.engine b).jog := by rw [ht.engine]; rfl
  refine ⟨hres.trans (by rw [ht.engine]; rfl), _, hf, fun hn => ?_, fun h1 h2 i => ?_⟩
  · unfold State.faultFollowed
    rcases hn with hn | ⟨h1, h2⟩
    · rw [hn]
      rfl
    · rw [State.channelFailed_idle (by rwa [hst]) (by rwa [hst]), ite_self]
  · unfold State.faultFollowed
    split
    · exact State.channelFailed_jogging (by rw [hst, h1]; rfl) (fun _ => by rwa [hjog]) i
    · rfl

/-- R48: a flag that has been set has raised its event. -/
theorem State.faultFollowed_raised (hc : changed = true) (h0 : (w.engine b).restricted = false) (h1 : w.restrictedNow b = true) :
    (w.faultFollowed b changed failed).raised (.restricted b) = true := by
  obtain ⟨-, -, -, hr⟩ := w.faultFollowed_keeps b changed failed
  obtain ⟨r, ht, hcr⟩ := w.followed_turned b changed
  refine hr _ ?_
  rw [ht.raised, hcr hc, h1, h0]
  simp

/-- R49: a channel that enters FAILED. -/
theorem State.faultFollowed_fault (hc : changed = true) (h1 : w.restrictedNow b = true) :
    ChannelFault w (w.faultFollowed b changed true) b := by
  obtain ⟨r, ht, hcr⟩ := w.followed_turned b changed
  rw [hcr hc, h1] at ht
  exact .of_turned ht

end

end Sys2Proof.Machine
end

section
/-! PROOF. The publication of a boom's group (R22, R48, R49, R124, R125, R133, R134, R137, R139, R140, R142). -/
namespace Sys2Proof.Machine

theorem State.analog_of_analogs {s t : State} (h : t.analogs = s.analogs) (c : AnalogId) : t.analog c = s.analog c := by
  unfold State.analog
  rw [h]

section
variable (s : State) (b : BoomId) (rot feed : RawSample) (later : Nat)

theorem State.grouped_boom : (s.grouped b rot feed later).engine b = s.engine b ∧ (s.grouped b rot feed later).head b = s.head b ∧
    (s.grouped b rot feed later).analogs = (s.bothTaken (rotChannel b) (feedChannel b) rot feed).analogs := by
  cases b <;> exact ⟨rfl, rfl, rfl⟩

/-- R133: the channels of the group, in its record. -/
theorem State.grouped_analog (c : AnalogId) : (s.grouped b rot feed later).analog c =
    if c = feedChannel b then s.taken (feedChannel b) feed else if c = rotChannel b then s.taken (rotChannel b) rot else s.analog c := by
  rw [← State.bothTaken_analog]
  unfold State.analog
  rw [(s.grouped_boom b rot feed later).2.2]

theorem State.grouped_rot : (s.grouped b rot feed later).analog (rotChannel b) = s.taken (rotChannel b) rot := by
  rw [State.grouped_analog, if_neg (rotChannel_ne_feedChannel b b), if_pos rfl]

theorem State.grouped_feed : (s.grouped b rot feed later).analog (feedChannel b) = s.taken (feedChannel b) feed := by
  rw [State.grouped_analog, if_pos rfl]

/-- R139, R142: a channel of the group has changed its health, or has entered FAILED. -/
def State.groupChanged : Bool :=
  (s.analog (rotChannel b)).health != (s.taken (rotChannel b) rot).health ||
    (s.analog (feedChannel b)).health != (s.taken (feedChannel b) feed).health

def State.groupFailed : Bool :=
  ((s.taken (rotChannel b) rot).health == .failed && (s.analog (rotChannel b)).health != (s.taken (rotChannel b) rot).health) ||
    ((s.taken (feedChannel b) feed).health == .failed &&
      (s.analog (feedChannel b)).health != (s.taken (feedChannel b) feed).health)

theorem State.groupFailed_iff : s.groupFailed b rot feed = true ↔
    (s.taken (rotChannel b) rot).health = .failed ∧ (s.analog (rotChannel b)).health ≠ .failed ∨
      (s.taken (feedChannel b) feed).health = .failed ∧ (s.analog (feedChannel b)).health ≠ .failed := by
  unfold State.groupFailed
  generalize (s.taken (rotChannel b) rot).health = x, (s.taken (feedChannel b) feed).health = y
  simp only [Bool.or_eq_true, Bool.and_eq_true, beq_iff_eq, bne_iff_ne]
  refine or_congr (and_congr_right fun h => ?_) (and_congr_right fun h => ?_) <;> rw [h]

theorem State.groupChanged_of_failed (h : s.groupFailed b rot feed = true) : s.groupChanged b rot feed = true := by
  unfold State.groupFailed at h
  unfold State.groupChanged
  rw [Bool.or_eq_true, Bool.and_eq_true, Bool.and_eq_true] at h
  rw [Bool.or_eq_true]
  exact h.imp And.right And.right

/-- The engine, once told of both channels of the group. -/
def State.groupTold : State :=
  (((s.grouped b rot feed later).loggerScan b).tellEngine b (s.analog (rotChannel b)).health (s.taken (rotChannel b) rot).health).tellEngine
    b (s.analog (feedChannel b)).health (s.taken (feedChannel b) feed).health

theorem State.groupTold_eq : s.groupTold b rot feed later =
    ((s.grouped b rot feed later).loggerScan b).faultFollowed b (s.groupChanged b rot feed) (s.groupFailed b rot feed) :=
  State.tellEngine_twice ..

theorem State.publishBoom_eq : s.publishBoom b rot feed later =
    ((s.groupTold b rot feed later).engineScan b).publish
      [.value (rotChannel b), .value (feedChannel b), .filtered (rotChannel b), .filtered (feedChannel b), .torque b] := by
  have hm := EngineMoves.of_loggerScan (s.grouped b rot feed later) b
  have ha (c : AnalogId) : ((s.grouped b rot feed later).loggerScan b).analog c = (s.grouped b rot feed later).analog c :=
    State.analog_of_analogs (by rw [hm.1]) c
  unfold State.publishBoom
  dsimp only
  rw [show (((s.recordPosition b later).sampleAnalog (rotChannel b) rot).sampleAnalog (feedChannel b) feed).estimateTorque b =
    s.grouped b rot feed later from s.groupSampled_eq b rot feed later, ha, ha, State.grouped_rot, State.grouped_feed]
  rfl

/-- R57, R137: what the logger's scan leaves of the record's boom. -/
theorem State.grouped_logged :
    let w := (s.grouped b rot feed later).loggerScan b
    w.analogs = (s.grouped b rot feed later).analogs ∧ w.motion b = (s.grouped b rot feed later).motion b ∧
      w.restrictedNow b = (s.grouped b rot feed later).restrictedNow b ∧
      (w.engine b).restricted = (s.engine b).restricted ∧ (w.engine b).state = (s.engine b).state ∧
      (w.engine b).jog = (s.engine b).jog ∧ ∀ e, (s.grouped b rot feed later).raised e = true → w.raised e = true := by
  intro w
  have hm := EngineMoves.of_loggerScan (s.grouped b rot feed later) b
  obtain ⟨⟨r, he⟩, hr⟩ := (s.grouped b rot feed later).loggerScan_engine b
  rw [(s.grouped_boom b rot feed later).1] at he
  have ha : w.analogs = (s.grouped b rot feed later).analogs := (congrArg State.analogs hm.1).trans rfl
  exact ⟨ha, hm.motion b, State.restrictedNow_of_same ha (hm.head b), (congrArg Engine.restricted he).trans rfl,
    (congrArg Engine.state he).trans rfl, (congrArg Engine.jog he).trans rfl, hr⟩

/-- R48: a group that changes no health restricts or frees no boom. -/
theorem State.grouped_unchanged (h : s.groupChanged b rot feed = false) :
    (s.grouped b rot feed later).restrictedNow b = s.restrictedNow b := by
  unfold State.groupChanged at h
  rw [Bool.or_eq_false_iff, bne_eq_false_iff_eq, bne_eq_false_iff_eq] at h
  refine restrictedNow_congr ?_ ?_ ?_ ?_
  · rw [State.grouped_rot, h.1]
  · rw [State.grouped_feed, h.2]
  · rw [(s.grouped_boom b rot feed later).2.1]
  · rw [(s.grouped_boom b rot feed later).2.1]

/-- R49: a group that fails a channel restricts its boom. -/
theorem State.grouped_failed (h : s.groupFailed b rot feed = true) : (s.grouped b rot feed later).restrictedNow b = true := by
  rw [State.groupFailed_iff] at h
  unfold State.restrictedNow
  rw [State.grouped_rot, State.grouped_feed]
  rcases h with ⟨h, -⟩ | ⟨h, -⟩ <;> rw [h] <;> simp

/-- R22, R48, R49, R125, R134, R139, R142: the engine of a boom whose group is published. -/
theorem State.groupTold_spec :
    let a := s.grouped b rot feed later
    let w := a.loggerScan b
    let u := s.groupTold b rot feed later
    let failed := (s.taken (rotChannel b) rot).health = .failed ∧ (s.analog (rotChannel b)).health ≠ .failed ∨
      (s.taken (feedChannel b) feed).health = .failed ∧ (s.analog (feedChannel b)).health ≠ .failed
    u.analogs = a.analogs ∧ u.motion b = a.motion b ∧ (∀ e, a.raised e = true → u.raised e = true) ∧
      ((s.taken (rotChannel b) rot).health = (s.analog (rotChannel b)).health →
        (s.taken (feedChannel b) feed).health = (s.analog (feedChannel b)).health → u = w) ∧
      ((s.engine b).restricted = s.restrictedNow b → (u.engine b).restricted = a.restrictedNow b) ∧
      ((s.engine b).restricted = s.restrictedNow b →
        ∃ v, RestrictedFollows w v b (a.restrictedNow b) ∧
          (¬failed ∨ (s.engine b).state.engaged = false ∧ (s.engine b).state ≠ .hold → u = v) ∧
          ((s.engine b).state = .hold → (s.engine b).jog ≠ none → ∀ i, u.pair i = v.pair i)) ∧
      ((s.engine b).restricted = false → s.restrictedNow b = false → a.restrictedNow b = true → u.raised (.restricted b) = true) ∧
      (failed → ChannelFault w u b) := by
  intro a w u failed
  obtain ⟨w1, w2, w3, w4, w5, w6, w7⟩ := s.grouped_logged b rot feed later
  have hu : u = w.faultFollowed b (s.groupChanged b rot feed) (s.groupFailed b rot feed) := s.groupTold_eq b rot feed later
  have hfailed : failed ↔ s.groupFailed b rot feed = true := (s.groupFailed_iff b rot feed).symm
  obtain ⟨k1, k2, k3, k4⟩ := w.faultFollowed_keeps b (s.groupChanged b rot feed) (s.groupFailed b rot feed)
  obtain ⟨r, ht, -⟩ := w.followed_turned b (s.groupChanged b rot feed)
  have hfol (hc : (s.engine b).restricted = s.restrictedNow b) (h : s.groupChanged b rot feed = false) :
      (w.engine b).restricted = w.restrictedNow b := by rw [w4, hc, w3, s.grouped_unchanged b rot feed later h]
  rw [← hu] at k1 k2 k4
  refine ⟨k1.trans w1, k2.trans w2, fun e he => k4 e (ht.raised_mono (w7 e he)), fun h1 h2 => ?_, fun hc => ?_, fun hc => ?_,
    fun h0 hn h1 => ?_, fun hf => ?_⟩
  · show (w.tellEngine b _ _).tellEngine b _ _ = w
    rw [h1, h2]
    unfold State.tellEngine
    rw [if_pos rfl, if_pos rfl]
  · rw [hu, ← w3]
    exact (State.faultFollowed_follows (hfol hc)).1
  · obtain ⟨-, v, v1, v2, v3⟩ := State.faultFollowed_follows (failed := s.groupFailed b rot feed) (hfol hc)
    rw [← hu, w5] at v2 v3
    rw [w3] at v1
    rw [w6] at v3
    refine ⟨v, v1, fun h => v2 (h.imp (fun h => ?_) id), v3⟩
    rw [hfailed] at h
    simpa using h
  · rw [hu]
    refine State.faultFollowed_raised ?_ (w4.trans h0) (w3.trans h1)
    by_contra hc
    rw [Bool.not_eq_true] at hc
    rw [s.grouped_unchanged b rot feed later hc, hn] at h1
    exact absurd h1 (by decide)
  · rw [hfailed] at hf
    rw [hu, hf]
    exact State.faultFollowed_fault (s.groupChanged_of_failed b rot feed hf) (w3.trans (s.grouped_failed b rot feed later hf))

end

end Sys2Proof.Machine
end

section
/-! PROOF. The publication of the canopy's group and of the last one, and of all four (R96, R97, R120, R124 to R126, R137, R139, R142). -/
namespace Sys2Proof.Machine

/-! ## The canopy's group -/

/-- R120: the CANOPY pair where its channel has published `v`. -/
def Pair.published (p : Pair) (response : Nat) (v : Int) : Pair :=
  match p.monitor with
  | .armed _ r _ => if v ≥ r + 20 then p.respond response (some v) else p
  | .disarmed => p

theorem State.canopyResponse_eq (s : State) :
    s.canopyResponse = { s with canopyPair := s.canopyPair.published (s.cal.response .canopy) (s.analog .canopy).val } := by
  have hp : s.pair .canopy = s.canopyPair := rfl
  unfold State.canopyResponse Pair.published
  rw [hp]
  cases s.canopyPair.monitor with
  | disarmed => rfl
  | armed n r f =>
    dsimp only
    split <;> rfl

theorem Pair.published_armed {p : Pair} {response n : Nat} {r v : Int} (hm : p.monitor = .armed n r false) (hc : p.counting = true) :
    p.published response v = { p with monitor := if r + 20 ≤ v then .armed response v false else .armed n r false } := by
  unfold Pair.published
  rw [hm]
  dsimp only
  by_cases h : r + 20 ≤ v
  · rw [if_pos h, if_pos h, Pair.respond, if_pos hc, hm]
    rfl
  · rw [if_neg h, if_neg h, ← hm]

theorem Pair.published_idle {p : Pair} {response : Nat} {v : Int} (hc : p.counting = false) : p.published response v = p := by
  unfold Pair.published
  cases p.monitor with
  | disarmed => rfl
  | armed n r f =>
    dsimp only
    have hr : p.respond response (some v) = p := if_neg (by rw [hc]; decide)
    rw [hr, ite_self]

section
variable (s : State)

/-- R126: the canopy controller, once told of its channel. -/
theorem State.publishCanopy_eq (pump canopy : RawSample) :
    s.publishCanopy pump canopy =
      (((s.bothTaken .pump .canopy pump canopy).canopyResponse.tellCanopy (s.analog .canopy).health
        (s.taken .canopy canopy).health).canopyScan).publish [.value .pump, .value .canopy, .filtered .pump, .filtered .canopy] := by
  unfold State.publishCanopy
  dsimp only
  rw [State.sampleAnalog_both s (by decide)]
  have hy : (s.bothTaken .pump .canopy pump canopy).canopyResponse.analog .canopy = s.taken .canopy canopy := by
    rw [State.canopyResponse_eq]
    rfl
  rw [hy]

/-- R97: what the loss of a SET canopy leaves, and what it keeps raised. -/
theorem State.canopyLoss_keeps : s.canopyLoss.analogs = s.analogs ∧ ∀ e, s.raised e = true → s.canopyLoss.raised e = true := by
  let u := (s.canopyGoto .lost .none).raise .canopyLost
  have hA := EngineMoves.of_holdCause u .A .canopy
  have hB := EngineMoves.of_holdCause (u.holdCause .A .canopy) .B .canopy
  exact ⟨(congrArg State.analogs hB.1).trans ((congrArg State.analogs hA.1).trans rfl),
    fun e he => State.holdCause_raised _ _ _ (State.holdCause_raised _ _ _ (State.raised_of_raised (by exact he) _))⟩

theorem State.canopyFail_keeps (f : CanopyFault) :
    (s.canopyFail f).analogs = s.analogs ∧ ∀ e, s.raised e = true → (s.canopyFail f).raised e = true := by
  have h := FlowEffect.of_canopyStop (s.canopyGoto .fault f)
  refine ⟨(congrArg State.analogs h.1).trans rfl, fun e he => State.raised_of_raised ?_ _⟩
  rw [h.raised]
  exact he

/-- R96, R97, R102: the canopy's channel enters FAILED in a state that differs from `s` in the CANOPY pair alone. -/
theorem State.canopyChannelFailed_spec {s v : State} (hv : v = { s with canopyPair := v.canopyPair }) :
    v.canopyChannelFailed.analogs = s.analogs ∧ (∀ e, s.raised e = true → v.canopyChannelFailed.raised e = true) ∧
      (s.canopy.state = .set →
        v.canopyChannelFailed.canopy.state = .lost ∧ v.canopyChannelFailed.raised .canopyLost = true ∧
          HoldReached s v.canopyChannelFailed .A .canopy ∧ HoldReached s v.canopyChannelFailed .B .canopy) ∧
      (s.canopy.state = .raising →
        v.canopyChannelFailed.canopy.state = .fault ∧ v.canopyChannelFailed.canopy.fault = .channel ∧
          HoldsNone v.canopyChannelFailed .canopy ∧ v.canopyChannelFailed.raised .canopyFault = true) ∧
      (s.canopy.state ≠ .set → s.canopy.state ≠ .raising →
        v.canopyChannelFailed = { s with canopyPair := v.canopyChannelFailed.canopyPair }) := by
  have hst : v.canopy.state = s.canopy.state := by rw [hv]
  have han : v.analogs = s.analogs := by rw [hv]
  have hr : ∀ e, v.raised e = s.raised e := fun e => by rw [hv]; rfl
  have hpairs : PairsOnly s v := by unfold PairsOnly; rw [hv]
  by_cases h1 : s.canopy.state = .set
  · have heq : v.canopyChannelFailed = v.canopyLoss := by rw [State.canopyChannelFailed, hst, h1]
    obtain ⟨k1, k2, k3, k4⟩ := v.canopyLoss_spec
    obtain ⟨k5, k6⟩ := v.canopyLoss_keeps
    rw [heq]
    exact ⟨k5.trans han, fun e he => k6 e ((hr e).trans he), fun _ => ⟨by rw [k1], k2, k3.of_pairsOnly hpairs, k4.of_pairsOnly hpairs⟩,
      fun h => absurd (h1.symm.trans h) (by decide), fun h => absurd h1 h⟩
  · by_cases h2 : s.canopy.state = .raising
    · have heq : v.canopyChannelFailed = v.canopyFail .channel := by rw [State.canopyChannelFailed, hst, h2]
      obtain ⟨k1, k2, k3, -⟩ := v.canopyFail_spec .channel
      obtain ⟨k5, k6⟩ := v.canopyFail_keeps .channel
      rw [heq]
      exact ⟨k5.trans han, fun e he => k6 e ((hr e).trans he), fun h => absurd h h1, fun _ => ⟨by rw [k1], by rw [k1], k3, k2⟩,
        fun _ h => absurd h2 h⟩
    · have heq : v.canopyChannelFailed = v := by
        unfold State.canopyChannelFailed
        rw [hst]
        split
        · next h => exact absurd h h1
        · next h => exact absurd h h2
        · rfl
      rw [heq]
      exact ⟨han, fun e he => (hr e).trans he, fun h => absurd h h1, fun h => absurd h h2, fun _ _ => hv⟩

/-- R120, R126, R142: the CANOPY pair's monitor and the canopy controller take the sampled state `a`. -/
theorem State.tellCanopy_spec (a : State) (o n : Health) :
    let u := a.canopyResponse.tellCanopy o n
    let failed := n = .failed ∧ o ≠ .failed
    u.analogs = a.analogs ∧ (∀ e, a.raised e = true → u.raised e = true) ∧
      (¬failed → u = { a with canopyPair := a.canopyPair.published (a.cal.response .canopy) (a.analog .canopy).val }) ∧
      (failed →
        (a.canopy.state = .set →
          u.canopy.state = .lost ∧ u.raised .canopyLost = true ∧ HoldReached a u .A .canopy ∧ HoldReached a u .B .canopy) ∧
        (a.canopy.state = .raising → u.canopy.state = .fault ∧ u.canopy.fault = .channel ∧ HoldsNone u .canopy ∧
          u.raised .canopyFault = true) ∧
        (a.canopy.state ≠ .set → a.canopy.state ≠ .raising → u = { a with canopyPair := u.canopyPair })) := by
  intro u failed
  have hcond : (o ≠ n ∧ n = .failed) ↔ failed := by
    refine ⟨fun h => ⟨h.2, h.2 ▸ h.1⟩, fun h => ⟨h.1 ▸ h.2, h.1⟩⟩
  have hv := a.canopyResponse_eq
  by_cases hf : failed
  · have hu : u = a.canopyResponse.canopyChannelFailed := if_pos (hcond.2 hf)
    obtain ⟨k1, k2, k3, k4, k5⟩ := State.canopyChannelFailed_spec (s := a) (v := a.canopyResponse) (by rw [hv])
    rw [hu]
    exact ⟨k1, k2, fun h => absurd hf h, fun _ => ⟨k3, k4, k5⟩⟩
  · have hu : u = a.canopyResponse := if_neg fun h => hf (hcond.1 h)
    rw [hu]
    exact ⟨by rw [hv], fun e he => by rw [hv]; exact he, fun _ => hv, fun h => absurd h hf⟩

end

/-! ## The four groups -/

theorem exec_scanGroup {s : State} (hrun : s.phase = .running) (x : ScanSample) : exec (.scanGroupPublished x) s = .next (s.publishScan x) := by
  show Host.Outcome.next (s.whenRunning _) = _
  rw [State.whenRunning_of_running hrun]

theorem healthEvent_iff (x y : Health) (k : ChannelEvent) : healthEvent x y = some k ↔
    (x, y, k) ∈
      [(Health.healthy, Health.suspect, ChannelEvent.suspect), (.suspect, .degraded, .degraded), (.degraded, .failed, .failed),
        (.suspect, .healthy, .recovered), (.failed, .healthy, .recovered)] := by
  cases x <;> cases y <;> cases k <;> decide

/-- Settles O33. -/
theorem scanGroupsPublish : Obligations.ScanGroupsPublish := by
  unfold Obligations.ScanGroupsPublish
  refine ⟨healthEvent_iff, fun s hrun => ?_⟩
  intro taken ev scan
  have hscan (i : Nat) : s.takeGroup i = { s with scan := scan i } := s.takeGroup_eq i
  refine ⟨fun b rot feed later => ?_, fun pump canopy => ?_, fun oil => ?_⟩
  · intro held cr cf x y a1 a w u failed
    let g := s.takeGroup b.num
    have ha : a = g.grouped b rot feed later := by
      show _ = (s.takeGroup b.num).grouped b rot feed later
      unfold State.grouped
      rw [Scan.latched_eq, hscan]
      cases b <;> rfl
    have han (c : AnalogId) : g.analog c = s.analog c := State.analog_of_analogs (by show (s.takeGroup b.num).analogs = _; rw [hscan]) c
    have hcal : g.cal = s.cal := by show (s.takeGroup b.num).cal = _; rw [hscan]
    have ht (c : AnalogId) (r : RawSample) : g.taken c r = taken c r := by
      unfold State.taken
      rw [han, hcal]
    have hge : g.engine b = s.engine b := by show (s.takeGroup b.num).engine b = _; rw [hscan]; cases b <;> rfl
    have hgr : g.restrictedNow b = s.restrictedNow b :=
      State.restrictedNow_of_same (by show (s.takeGroup b.num).analogs = _; rw [hscan])
        (by show (s.takeGroup b.num).head b = _; rw [hscan]; cases b <;> rfl)
    have hu : u = g.groupTold b rot feed later := by
      unfold State.groupTold
      rw [← ha, han, han, ht, ht]
    obtain ⟨k1, k2, k3, k4, k5, k6, k7, k8⟩ := g.groupTold_spec b rot feed later
    rw [← hu] at k1 k2 k3 k4 k5 k6 k7 k8
    rw [← ha] at k1 k2 k3 k4 k5 k6 k7 k8
    rw [han, han, ht, ht] at k4 k6 k8
    rw [hge, hgr] at k5 k6 k7
    refine ⟨?_, k1.trans ?_, k2, k3, k4, k5, k6, k7, k8⟩
    · rw [show exec _ s = .next (g.publishBoom b rot feed later) by cases b <;> exact exec_scanGroup hrun _, State.publishBoom_eq, hu]
    · cases b <;> rfl
  · intro x y a failed
    let g := s.takeGroup 2
    have ha : a = g.bothTaken .pump .canopy pump canopy := by
      show _ = (s.takeGroup 2).bothTaken .pump .canopy pump canopy
      rw [hscan]
      rfl
    have hg : g.taken .canopy canopy = y ∧ g.analog .canopy = s.analog .canopy := by
      show (s.takeGroup 2).taken _ _ = _ ∧ (s.takeGroup 2).analog _ = _
      rw [hscan]
      exact ⟨rfl, rfl⟩
    obtain ⟨k1, k2, k3, k4⟩ := a.tellCanopy_spec (s.analog .canopy).health y.health
    have hval : (a.analog .canopy).val = y.val := rfl
    refine ⟨_, ?_, k1, k2, fun h => ?_, fun h n r hm hc => ?_, fun h hc => ?_, k4⟩
    · rw [exec_scanGroup hrun]
      show Host.Outcome.next (g.publishCanopy pump canopy) = _
      rw [State.publishCanopy_eq, ← ha, hg.1, hg.2]
    · rw [k3 h]
    · rw [k3 h]
      exact Pair.published_armed hm hc
    · rw [k3 h]
      exact Pair.published_idle hc
  · rw [exec_scanGroup hrun]
    show Host.Outcome.next ((s.takeGroup 3).publishOil oil) = _
    unfold State.publishOil
    dsimp only
    rw [State.sampleAnalog_eq, hscan, scanStamp_eq]
    rfl

end Sys2Proof.Machine
end

section
/-! PROOF. A placement or an exchange, before its grant pass (R73, R75, R77 to R79). -/
namespace Sys2Proof.Machine

/-- R77: a request joins the wait list somewhere, and the others keep their order. -/
theorem joinWaits_split (w : Waiting) (ws : List Waiting) : ∃ x y, joinWaits w ws = x ++ w :: y ∧ x ++ y = ws := by
  induction ws with
  | nil => exact ⟨[], [], rfl, rfl⟩
  | cons z zs ih =>
    unfold joinWaits
    split
    · exact ⟨[], z :: zs, rfl, rfl⟩
    · obtain ⟨x, y, h1, h2⟩ := ih
      exact ⟨z :: x, y, by rw [h1]; rfl, by rw [List.cons_append, h2]⟩

section
variable {a : Arbiter} {who : Requester}

/-- R75: the stamp that a held request carries once a placement has found the counter as it stands. -/
def Arbiter.stampAfter (a : Arbiter) (x : FlowReq) : Nat :=
  if a.counter = 65535 then 1 + (a.held.filter (fun y => y.stamp < x.stamp)).length else x.stamp

def Arbiter.keptReq (a : Arbiter) (x : FlowReq) : FlowReq := { x with stamp := a.stampAfter x }

/-- R75: a placement's renumbering, done or not. -/
theorem Arbiter.renumber_eq (h : a.counter ≤ 65535) : a.renumber =
    { a with
      grants := a.grants.map a.keptReq
      waits := a.waits.map (fun w => { w with req := a.keptReq w.req })
      counter := if a.counter = 65535 then a.held.length else a.counter } := by
  unfold Arbiter.renumber Arbiter.keptReq Arbiter.stampAfter
  by_cases hf : a.counter = 65535
  · rw [if_pos (by omega), if_pos hf]
    simp only [if_pos hf]
    rfl
  · rw [if_neg (by omega), if_neg hf]
    simp only [if_neg hf]
    rw [List.map_id', List.map_id']

theorem Arbiter.submit_eq (h : a.counter ≤ 65535) (p : Purpose) (d : Nat) :
    let r : FlowReq :=
      { who := who, purpose := p, cls := p.cls, demand := d, stamp := 1 + if a.counter = 65535 then a.held.length else a.counter }
    a.submit who p d =
      { a with
        grants := (a.grants.filter (fun x => x.who != who)).map a.keptReq
        waits := joinWaits r.waiting ((a.waits.filter (fun w => w.req.who != who)).map (fun w => { w with req := a.keptReq w.req }))
        counter := r.stamp } := by
  intro r
  unfold Arbiter.submit Arbiter.remove
  dsimp only
  rw [Arbiter.renumber_eq h]
  dsimp only
  rw [List.filter_map, List.filter_map, Nat.add_comm _ 1]
  rfl

/-- R75: renumbering keeps the order of the stamps. -/
theorem Arbiter.stampAfter_lt {x y : FlowReq} (hx : x ∈ a.held) (hy : y ∈ a.held) :
    a.stampAfter x < a.stampAfter y ↔ x.stamp < y.stamp := by
  unfold Arbiter.stampAfter
  by_cases hf : a.counter = 65535
  · simp only [if_pos hf]
    refine ⟨fun hlt => ?_, fun hlt => Arbiter.Ordered.rank_lt hx hlt⟩
    by_contra hn
    rcases Nat.lt_or_ge y.stamp x.stamp with hyx | hyx
    · have : a.rank y < a.rank x := Arbiter.Ordered.rank_lt hy hyx
      unfold Arbiter.rank at this
      omega
    · have he : x.stamp = y.stamp := by omega
      rw [he] at hlt
      exact lt_irrefl _ hlt
  · simp only [if_neg hf]

end

/-! ## A run of preemptions, once more -/

namespace Preempts
variable {cls : Nat} {short : Nat → Prop} {a c : Arbiter} {gone : List FlowReq}

theorem ordered (h : Preempts cls short a gone c) (ha : a.Ordered) : c.Ordered := by
  induction h with
  | done a => exact ha
  | go _ hv _ ih => exact ih (ha.preempt (victim_mem hv).1)

/-- No requester loses two grants. -/
theorem nodup (h : Preempts cls short a gone c) (hn : (a.held.map (·.who)).Nodup) : (gone.map (·.who)).Nodup := by
  induction h with
  | done a => exact .nil
  | @go a c r gone _ hv h ih =>
    have hr := (victim_mem hv).1
    refine List.nodup_cons.2 ⟨fun hm => ?_, ih ((Arbiter.preempt_keeps hn hr).nodup hn)⟩
    obtain ⟨x, hx, hw⟩ := List.mem_map.1 hm
    have hxm : x ∈ a.grants.filter (fun x => x.who != r.who) := (h.mem x hx).1
    have := (List.mem_filter.1 hxm).2
    simp [hw] at this

end Preempts

end Sys2Proof.Machine
end

section
/-! PROOF. The grant pass, head by head (R81 to R83, R86, R87): what it has granted and preempted so far. -/
namespace Sys2Proof.Machine

theorem idxOf_append_lt {l m : List FlowReq} {x y : FlowReq} (hx : x ∈ l) (hy : y ∈ l) :
    (l ++ m).idxOf x < (l ++ m).idxOf y ↔ l.idxOf x < l.idxOf y := by
  rw [List.idxOf_append_of_mem hx, List.idxOf_append_of_mem hy]

/-- Where no requester stands twice, a requester's entry is the only one. -/
theorem filter_who_self {l : List FlowReq} {r : FlowReq} (hn : (l.map (·.who)).Nodup) (hr : r ∈ l) :
    l.filter (fun x => x.who == r.who) = [r] := by
  induction l with
  | nil => cases hr
  | cons x xs ih =>
    obtain ⟨hx, hn⟩ := List.nodup_cons.1 hn
    have hne : ∀ y ∈ xs, y.who ≠ x.who := fun y hy he => hx (List.mem_map.2 ⟨y, hy, he⟩)
    rcases List.mem_cons.1 hr with rfl | hr
    · rw [List.filter_cons_of_pos (by simp), List.filter_eq_nil_iff.2 fun y hy => by simpa using hne y hy]
    · rw [List.filter_cons_of_neg (by simpa using (hne r hr).symm), ih hn hr]

/-- The notes of one requester: a preemption, then a grant. -/
def notesOf (gone added : List FlowReq) (who : Requester) : List FlowNote :=
  (if ∃ r ∈ gone, r.who = who then [⟨who, false⟩] else []) ++ if ∃ g ∈ added, g.who = who then [⟨who, true⟩] else []

/-- R82: the last preemption of a pass that has come from `a` to the grants `stay` and `added`: for the head `g`, which was then
granted, after `before`, it needed `r`. -/
def LastFor (a : Arbiter) (gone stay added : List FlowReq) : Prop :=
  ∃ before g after r, added = before ++ g :: after ∧ g.cls < 3 ∧ g.cls < r.cls ∧ r ∈ gone ∧
    (∀ x ∈ gone, x = r ∨ PreemptedBefore a x r) ∧
    a.budget < (stay.map (·.demand)).sum + (before.map (·.demand)).sum + r.demand + g.demand

/-- R81 to R83: a grant pass that began in `a` has come to `c`: it has preempted `gone`, granted `added`, and told `notes`. -/
structure PassSoFar (a : Arbiter) (gone added : List FlowReq) (notes : List FlowNote) (c : Arbiter) : Prop where
  ordered : c.Ordered
  keeps : ArbKeeps a c
  grants : c.grants = a.grants.filter (fun r => r ∉ gone) ++ added
  ahead : ∀ g ∈ added, ∀ w ∈ c.waits, g.cls < w.req.cls ∨ g.cls = w.req.cls ∧ g.stamp < w.req.stamp
  mem : ∀ r ∈ gone, r ∈ a.grants
  needed : ∀ r ∈ gone, ∃ g ∈ added, g.cls < 3 ∧ g.cls < r.cls
  again : ∀ r ∈ gone, r ∈ added ∨ r.waiting ∈ c.waits
  first : ∀ r ∈ gone, ∀ y ∈ a.grants, y ∉ gone → y.cls < r.cls ∨ y.cls = r.cls ∧ a.grants.idxOf y < a.grants.idxOf r
  notes : ∀ who : Requester, notes.filter (fun n => n.who == who) = notesOf gone added who
  last : gone ≠ [] → LastFor a gone (a.grants.filter (fun r => r ∉ gone)) added

/-- R81: a head whose request cannot be granted ends the pass. -/
def Arbiter.Stuck (a : Arbiter) : Prop :=
  ∀ w ws, a.waits = w :: ws → a.free < w.req.demand ∧ (3 ≤ w.req.cls ∨ a.free + a.candidateSum w.req.cls < w.req.demand)

namespace PassSoFar
variable {a c d : Arbiter} {gone added lost : List FlowReq} {notes : List FlowNote} {w : Waiting} {ws : List Waiting}
  {short : Nat → Prop}

theorem start (h : a.Ordered) : PassSoFar a [] [] [] a where
  ordered := h
  keeps := .refl a
  grants := by simp
  ahead g hg := nomatch hg
  mem r hr := nomatch hr
  needed r hr := nomatch hr
  again r hr := nomatch hr
  first r hr := nomatch hr
  notes who := by simp [notesOf]
  last h := absurd rfl h

theorem distinct (h : PassSoFar a gone added notes c) {x : FlowReq} (hx : x ∈ c.grants) (hw : w ∈ c.waits) : x.who ≠ w.req.who := by
  have hn := h.ordered.who
  simp only [Arbiter.held, List.map_append, List.nodup_append] at hn
  exact hn.2.2 _ (List.mem_map_of_mem hx) _ (List.mem_map_of_mem (List.mem_map_of_mem (f := (·.req)) hw))

/-- A grant that a head preempts is one that the pass has found, and not given. -/
theorem victims (h : PassSoFar a gone added notes c) (hw : c.waits = w :: ws)
    (hp : Preempts w.req.cls short { c with waits := ws } lost d) {r : FlowReq} (hr : r ∈ lost) :
    r ∈ a.grants ∧ r ∉ gone ∧ r ∉ added := by
  obtain ⟨hm, hc⟩ := hp.mem r hr
  have hna : r ∉ added := fun ha => by
    have := h.ahead r ha w (by simp [hw])
    omega
  have hmem : r ∈ c.grants := hm
  rw [h.grants, List.mem_append] at hmem
  obtain ⟨h1, h2⟩ := List.mem_filter.1 (hmem.resolve_right hna)
  exact ⟨h1, by simpa using h2, hna⟩

theorem round_grants (h : PassSoFar a gone added notes c) (hw : c.waits = w :: ws)
    (hp : Preempts w.req.cls short { c with waits := ws } lost d) :
    (d.grantHead w).grants = a.grants.filter (fun r => r ∉ gone ++ lost) ++ (added ++ [w.req]) := by
  have hadd : added.filter (fun r => r ∉ lost) = added :=
    List.filter_eq_self.2 fun g hg => by simpa using fun hl => (h.victims hw hp hl).2.2 hg
  show d.grants ++ [w.req] = _
  rw [hp.grants (h.ordered.tail hw).who]
  show c.grants.filter _ ++ _ = _
  rw [h.grants, List.filter_append, hadd, List.filter_filter, List.append_assoc]
  congr 1
  refine List.filter_congr fun x _ => ?_
  simp [Bool.and_comm]

theorem round_ordered (h : PassSoFar a gone added notes c) (hw : c.waits = w :: ws)
    (hp : Preempts w.req.cls short { c with waits := ws } lost d) : (d.grantHead w).Ordered ∧ ArbKeeps a (d.grantHead w) := by
  have ht := h.ordered.tail hw
  have hd := hp.ordered ht
  obtain ⟨k1, k2, k3⟩ := hp.keeps ht.who
  have hk : ArbKeeps c (d.grantHead w) := by
    refine ⟨?_, k2, k3⟩
    have h1 : (d.grantHead w).held.Perm (w.req :: d.held) := by
      simp only [Arbiter.held, Arbiter.grantHead, List.append_assoc, List.singleton_append]
      exact List.perm_middle
    refine h1.trans ((k1.cons _).trans ?_)
    simp only [Arbiter.held, hw, List.map_cons]
    exact List.perm_middle.symm
  exact ⟨h.ordered.of_keeps hk hd.waits, h.keeps.trans hk⟩

/-- What waits after a head is granted: the rest of the list, and what was preempted for it. -/
theorem round_waits (hp : Preempts w.req.cls short { c with waits := ws } lost d) (x : Waiting) :
    x ∈ (d.grantHead w).waits ↔ x ∈ ws ∨ ∃ r ∈ lost, r.waiting = x := by
  have hm := hp.waits.mem_iff (a := x)
  show x ∈ d.waits ↔ _
  simpa using hm

theorem round_ahead (h : PassSoFar a gone added notes c) (hw : c.waits = w :: ws)
    (hp : Preempts w.req.cls short { c with waits := ws } lost d) :
    ∀ g ∈ added ++ [w.req], ∀ x ∈ (d.grantHead w).waits, g.cls < x.req.cls ∨ g.cls = x.req.cls ∧ g.stamp < x.req.stamp := by
  have hws := h.ordered.waits
  rw [hw, List.pairwise_cons] at hws
  intro g hg x hx
  have hle : g.cls ≤ w.req.cls := by
    rcases List.mem_append.1 hg with hg | hg
    · have := h.ahead g hg w (by simp [hw])
      omega
    · rw [List.mem_singleton.1 hg]
  rcases (round_waits hp x).1 hx with hx | ⟨r, hr, rfl⟩
  · rcases List.mem_append.1 hg with hg | hg
    · exact h.ahead g hg x (by simp [hw, hx])
    · rw [List.mem_singleton.1 hg]
      exact hws.1 x hx
  · have := (hp.mem r hr).2
    exact .inl (show g.cls < r.cls by omega)

/-- R82: the grants preempted for a head go before those that stay. -/
theorem round_first (h : PassSoFar a gone added notes c) (hw : c.waits = w :: ws)
    (hp : Preempts w.req.cls short { c with waits := ws } lost d) {r y : FlowReq} (hr : r ∈ lost) (hy : y ∈ a.grants)
    (hg : y ∉ gone) (hl : y ∉ lost) : y.cls < r.cls ∨ y.cls = r.cls ∧ a.grants.idxOf y < a.grants.idxOf r := by
  have ht := (h.ordered.tail hw).who
  obtain ⟨r1, r2, -⟩ := h.victims hw hp hr
  have hrc := (hp.mem r hr).2
  have hyf : y ∈ a.grants.filter (fun r => r ∉ gone) := List.mem_filter.2 ⟨hy, by simpa using hg⟩
  have hrf : r ∈ a.grants.filter (fun r => r ∉ gone) := List.mem_filter.2 ⟨r1, by simpa using r2⟩
  have hyc : y ∈ c.grants := by rw [h.grants]; exact List.mem_append_left _ hyf
  have hyd : y ∈ d.grants := by
    rw [hp.grants ht]
    exact List.mem_filter.2 ⟨hyc, by simpa using hl⟩
  rcases Nat.lt_or_ge w.req.cls y.cls with hc | hc
  · refine ((hp.before ht).2 r hr y hyd hc).imp id fun hb => ⟨hb.1.symm, ?_⟩
    have hlt : c.grants.idxOf y < c.grants.idxOf r := hb.2
    rw [h.grants, idxOf_append_lt hyf hrf] at hlt
    exact idxOf_filter_lt (by simpa using hg) (by simpa using r2) hlt
  · exact .inl (by omega)

/-- Of the grants lost to one head, each goes before the later ones, also as `a` has them. -/
theorem round_pairwise (h : PassSoFar a gone added notes c) (hw : c.waits = w :: ws)
    (hp : Preempts w.req.cls short { c with waits := ws } lost d) : lost.Pairwise (PreemptedBefore a) := by
  refine ((hp.before (h.ordered.tail hw).who).1).imp_of_mem fun {x y} hx hy hb => hb.imp id fun hb => ⟨hb.1, ?_⟩
  obtain ⟨x1, x2, -⟩ := h.victims hw hp hx
  obtain ⟨y1, y2, -⟩ := h.victims hw hp hy
  have hxf : x ∈ a.grants.filter (fun r => r ∉ gone) := List.mem_filter.2 ⟨x1, by simpa using x2⟩
  have hyf : y ∈ a.grants.filter (fun r => r ∉ gone) := List.mem_filter.2 ⟨y1, by simpa using y2⟩
  have hlt : c.grants.idxOf y < c.grants.idxOf x := hb.2
  rw [h.grants, idxOf_append_lt hyf hxf] at hlt
  exact idxOf_filter_lt (by simpa using y2) (by simpa using x2) hlt

theorem round_notes (h : PassSoFar a gone added notes c) (ha : a.Ordered) (hw : c.waits = w :: ws)
    (hp : Preempts w.req.cls short { c with waits := ws } lost d) (who : Requester) :
    (notes ++ (preemptNotes lost ++ [FlowNote.mk w.req.who true])).filter (fun n => n.who == who) =
      notesOf (gone ++ lost) (added ++ [w.req]) who := by
  have hlost : (preemptNotes lost).filter (fun n => n.who == who) = if ∃ r ∈ lost, r.who = who then [⟨who, false⟩] else [] := by
    have hn := hp.nodup (h.ordered.tail hw).who
    unfold preemptNotes
    rw [List.filter_map]
    split
    · next hx =>
      obtain ⟨r, hr, rfl⟩ := hx
      exact congrArg (List.map _) (filter_who_self hn hr)
    · next hx =>
      rw [List.filter_eq_nil_iff.2 fun r hr => by simpa using fun he => hx ⟨r, hr, he⟩]
      rfl
  have hmem {g : FlowReq} (hg : g ∈ added) : g ∈ c.grants := by rw [h.grants]; exact List.mem_append_right _ hg
  have hgn : (a.grants.map (·.who)).Nodup := Arbiter.held_nodup_grants ha.who
  have hcn : (c.grants.map (·.who)).Nodup := Arbiter.held_nodup_grants h.ordered.who
  have hl (hx : ∃ r ∈ lost, r.who = who) : (¬∃ r ∈ gone, r.who = who) ∧ ¬∃ g ∈ added, g.who = who := by
    obtain ⟨r, hr, rfl⟩ := hx
    obtain ⟨h1, h2, h3⟩ := h.victims hw hp hr
    refine ⟨fun ⟨x, hx, hxw⟩ => h2 ?_, fun ⟨g, hg, hgw⟩ => h3 ?_⟩
    · rwa [← List.inj_on_of_nodup_map hgn (h.mem x hx) h1 hxw]
    · rwa [← List.inj_on_of_nodup_map hcn (hmem hg) (hp.mem r hr).1 hgw]
  have hww (hx : w.req.who = who) : ¬∃ g ∈ added, g.who = who := fun ⟨g, hg, hgw⟩ =>
    h.distinct (hmem hg) (by simp [hw]) (hgw.trans hx.symm)
  rw [List.filter_append, List.filter_append, h.notes, hlost]
  simp only [notesOf, List.mem_append, or_and_right, exists_or, List.mem_singleton, exists_eq_left]
  by_cases h1 : ∃ r ∈ lost, r.who = who
  · obtain ⟨h2, h3⟩ := hl h1
    by_cases h4 : w.req.who = who <;> simp [h1, h2, h3, h4]
  · by_cases h4 : w.req.who = who
    · simp [h1, hww h4, h4]
    · simp [h1, h4]

/-- R82: the last preemption, once one head more is granted. -/
theorem round_last (h : PassSoFar a gone added notes c) (hw : c.waits = w :: ws)
    (hp : Preempts w.req.cls (fun k => c.budget - k < w.req.demand) { c with waits := ws } lost d)
    (hc : lost ≠ [] → w.req.cls < 3) (hne : gone ++ lost ≠ []) :
    LastFor a (gone ++ lost) (a.grants.filter (fun r => r ∉ gone ++ lost)) (added ++ [w.req]) := by
  by_cases hl : lost = []
  · subst hl
    rw [List.append_nil] at hne ⊢
    obtain ⟨before, g, after, r, h1, h2, h3, h4, h5, h6⟩ := h.last hne
    exact ⟨before, g, after ++ [w.req], r, by rw [h1]; simp, h2, h3, h4, h5, h6⟩
  · obtain ⟨front, v, hf, hshort⟩ := hp.last (h.ordered.tail hw).who hl
    have hv : v ∈ lost := by simp [hf]
    have hpair := h.round_pairwise hw hp
    rw [hf, List.pairwise_append] at hpair
    obtain ⟨v1, v2, -⟩ := h.victims hw hp hv
    have hgrants : d.grants = a.grants.filter (fun r => r ∉ gone ++ lost) ++ added := by
      have h1 : d.grants ++ [w.req] = _ := h.round_grants hw hp
      rw [← List.append_assoc] at h1
      exact List.append_cancel_right h1
    refine ⟨added, w.req, [], v, rfl, hc hl, (hp.mem v hv).2, List.mem_append_right _ hv, fun x hx => ?_, ?_⟩
    · rcases List.mem_append.1 hx with hx | hx
      · exact .inr ((h.first x hx v v1 v2).imp id fun k => ⟨k.1.symm, k.2⟩)
      · rw [hf] at hx
        rcases List.mem_append.1 hx with hx | hx
        · exact .inr (hpair.2.2 x hx v (by simp))
        · exact .inl (by simpa using hx)
    · have hb : c.budget = a.budget := h.keeps.2.1
      rw [Arbiter.grantedSum, hgrants, List.map_append, List.sum_append, hb] at hshort
      omega

theorem round (h : PassSoFar a gone added notes c) (ha : a.Ordered) (hw : c.waits = w :: ws)
    (hp : Preempts w.req.cls (fun k => c.budget - k < w.req.demand) { c with waits := ws } lost d)
    (hc : lost ≠ [] → w.req.cls < 3) :
    PassSoFar a (gone ++ lost) (added ++ [w.req]) (notes ++ (preemptNotes lost ++ [FlowNote.mk w.req.who true])) (d.grantHead w) where
  ordered := (h.round_ordered hw hp).1
  keeps := (h.round_ordered hw hp).2
  grants := h.round_grants hw hp
  ahead := h.round_ahead hw hp
  mem r hr := (List.mem_append.1 hr).elim (h.mem r) fun hl => (h.victims hw hp hl).1
  needed r hr := by
    rcases List.mem_append.1 hr with hr | hr
    · obtain ⟨g, hg, hgc⟩ := h.needed r hr
      exact ⟨g, List.mem_append_left _ hg, hgc⟩
    · exact ⟨w.req, by simp, hc (List.ne_nil_of_mem hr), (hp.mem r hr).2⟩
  again r hr := by
    rcases List.mem_append.1 hr with hr | hr
    · rcases h.again r hr with hg | hg
      · exact .inl (List.mem_append_left _ hg)
      · rw [hw] at hg
        rcases List.mem_cons.1 hg with rfl | hg
        · exact .inl (by simp [FlowReq.waiting])
        · exact .inr ((round_waits hp _).2 (.inl hg))
    · exact .inr ((round_waits hp _).2 (.inr ⟨r, hr, rfl⟩))
  first r hr y hy hn := by
    rw [List.mem_append, not_or] at hn
    exact (List.mem_append.1 hr).elim (fun hg => h.first r hg y hy hn.1) fun hl => h.round_first hw hp hl hy hn.1 hn.2
  notes := h.round_notes ha hw hp
  last := h.round_last hw hp hc

end PassSoFar

/-! ## The whole pass -/

section
variable {a c : Arbiter} {gone added : List FlowReq} {notes : List FlowNote}

/-- R81, R82: heads are granted until the pass is stuck, or its bound is reached. -/
theorem PassSoFar.passFuel (n : Nat) (ha : a.Ordered) (h : PassSoFar a gone added notes c) :
    ∃ gone' added', PassSoFar a gone' added' (notes ++ (c.passFuel n).2) (c.passFuel n).1 ∧
      ((c.passFuel n).1.Stuck ∨ added'.length = added.length + n) := by
  induction n generalizing c gone added notes with
  | zero => exact ⟨gone, added, by simpa [Arbiter.passFuel] using h, .inr rfl⟩
  | succ n ih =>
    have hstop (hs : c.Stuck) : ∃ gone' added', PassSoFar a gone' added' (notes ++ ([] : List FlowNote)) c ∧
        (c.Stuck ∨ added'.length = added.length + (n + 1)) := ⟨gone, added, by simpa using h, .inl hs⟩
    unfold Arbiter.passFuel
    split
    · next hw => exact hstop fun w ws hws => nomatch hw.symm.trans hws
    · next w ws hw =>
      have hhead {w' ws'} (hws : c.waits = w' :: ws') : w' = w := by
        rw [hw] at hws
        exact (List.cons.inj hws).1.symm
      split
      · obtain ⟨g1, a1, k1, k2⟩ := ih (h.round ha hw (.done _) fun hn => absurd rfl hn)
        refine ⟨g1, a1, by simpa [preemptNotes] using k1, k2.imp id fun hk => ?_⟩
        rw [hk, List.length_append, List.length_singleton]
        omega
      · next hd =>
        split
        · next hcl => exact hstop fun w' ws' hws => by rw [hhead hws]; exact ⟨Nat.not_le.1 hd, .inl hcl⟩
        · next hcl =>
          split
          · next hs => exact hstop fun w' ws' hws => by rw [hhead hws]; exact ⟨Nat.not_le.1 hd, .inr hs⟩
          · obtain ⟨lost, hp, hnotes⟩ := Arbiter.preemptFor_preempts w.req.demand w.req.cls c.grants.length { c with waits := ws }
            obtain ⟨g1, a1, k1, k2⟩ := ih (h.round ha hw hp fun _ => Nat.not_le.1 hcl)
            refine ⟨g1, a1, by simpa [hnotes] using k1, k2.imp id fun hk => ?_⟩
            rw [hk, List.length_append, List.length_singleton]
            omega

/-- R81: a pass ends with a head that cannot be granted, or with no head. -/
theorem Arbiter.Ordered.pass_soFar (ha : a.Ordered) :
    ∃ gone added, PassSoFar a gone added a.pass.2 a.pass.1 ∧ a.pass.1.Stuck := by
  obtain ⟨gone, added, h, hs⟩ := (PassSoFar.start ha).passFuel 8 ha
  rw [List.nil_append] at h
  refine ⟨gone, added, h, hs.resolve_right fun hl => ?_⟩
  have h1 := h.ordered.held_length
  have h2 := congrArg List.length h.grants
  rw [List.length_append] at h2
  rw [Arbiter.held, List.length_append] at h1
  simp only [List.length_nil] at hl
  omega

/-- R81, R82: the free flow and the demands of the grants that a head may preempt. -/
theorem Arbiter.Stuck.head (h : a.Stuck) {w : Waiting} {ws : List Waiting} (hw : a.waits = w :: ws) :
    a.free < w.req.demand ∧
      (3 ≤ w.req.cls ∨ a.free + ((a.grants.filter (fun x => w.req.cls < x.cls)).map (·.demand)).sum < w.req.demand) := h w ws hw

/-- R81 to R83, R86, R87: what a pass grants, preempts and tells. -/
theorem PassSoFar.granted (h : PassSoFar a gone added notes c) :
    ∃ stay added, c.grants = stay ++ added ∧ stay.Sublist a.grants ∧
      (∀ who : Requester, notes.filter (fun n => n.who == who) =
        (if ∃ r ∈ a.grants, r.who = who ∧ r ∉ stay then [⟨who, false⟩] else []) ++
          if ∃ g ∈ added, g.who = who then [⟨who, true⟩] else []) ∧
      (∀ g ∈ added, FlowNote.mk g.who true ∈ notes ∧
        ∀ w ∈ c.waits, g.cls < w.req.cls ∨ g.cls = w.req.cls ∧ g.stamp < w.req.stamp) ∧
      (∀ r ∈ a.grants, r ∉ stay →
        FlowNote.mk r.who false ∈ notes ∧ (∃ g ∈ added, g.cls < 3 ∧ g.cls < r.cls) ∧
          (r ∈ added ∨ { req := r, wait := 0, starved := false } ∈ c.waits) ∧
          ∀ y ∈ stay, y.cls < r.cls ∨ y.cls = r.cls ∧ a.grants.idxOf y < a.grants.idxOf r) ∧
      (stay ≠ a.grants →
        ∃ before g after r, added = before ++ g :: after ∧ g.cls < 3 ∧ g.cls < r.cls ∧ LastPreempted a stay r ∧
          a.budget < (stay.map (·.demand)).sum + (before.map (·.demand)).sum + r.demand + g.demand) := by
  obtain ⟨stay, hstay⟩ : ∃ stay, a.grants.filter (fun r => r ∉ gone) = stay := ⟨_, rfl⟩
  have hmem {r : FlowReq} (hr : r ∈ a.grants) : r ∉ stay ↔ r ∈ gone := by
    rw [← hstay, List.mem_filter]
    simp [hr]
  have hgone (who : Requester) : (∃ r ∈ a.grants, r.who = who ∧ r ∉ stay) ↔ ∃ r ∈ gone, r.who = who :=
    ⟨fun ⟨r, hr, hw, hs⟩ => ⟨r, (hmem hr).1 hs, hw⟩, fun ⟨r, hr, hw⟩ => ⟨r, h.mem r hr, hw, (hmem (h.mem r hr)).2 hr⟩⟩
  have hnotes (who : Requester) : notes.filter (fun n => n.who == who) =
      (if ∃ r ∈ a.grants, r.who = who ∧ r ∉ stay then [⟨who, false⟩] else []) ++
        if ∃ g ∈ added, g.who = who then [⟨who, true⟩] else [] := by
    rw [h.notes, if_congr (hgone who) rfl rfl]
    rfl
  have hnote {n : FlowNote} (hn : n ∈ notesOf gone added n.who) : n ∈ notes := by
    rw [← h.notes] at hn
    exact (List.mem_filter.1 hn).1
  refine ⟨stay, added, by rw [h.grants, hstay], hstay ▸ List.filter_sublist, hnotes, fun g hg => ⟨hnote ?_, h.ahead g hg⟩,
    fun r hr hs => ?_, fun hs => ?_⟩
  · have : ∃ x ∈ added, x.who = g.who := ⟨g, hg, rfl⟩
    simp [notesOf, this]
  · have hr' := (hmem hr).1 hs
    have hex : ∃ x ∈ gone, x.who = r.who := ⟨r, hr', rfl⟩
    refine ⟨hnote (by simp [notesOf, hex]), h.needed r hr', h.again r hr', fun y hy => ?_⟩
    rw [← hstay] at hy
    obtain ⟨hy, hyg⟩ := List.mem_filter.1 hy
    exact h.first r hr' y hy (by simpa using hyg)
  · have hne : gone ≠ [] := by
      rintro rfl
      exact hs (by rw [← hstay]; simp)
    obtain ⟨before, g, after, r, h1, h2, h3, h4, h5, h6⟩ := h.last hne
    rw [hstay] at h6
    refine ⟨before, g, after, r, h1, h2, h3, ⟨h.mem r h4, (hmem (h.mem r h4)).2 h4, fun x hx hxs => ?_⟩, h6⟩
    exact (h5 x ((hmem hx).1 hxs)).imp id (Or.imp id fun k => ⟨k.1.symm, k.2⟩)

end

end Sys2Proof.Machine
end

section
/-! PROOF. A request placed with nobody waiting (R78, R81 to R83). -/
namespace Sys2Proof.Machine

/-! ## Heads that no grant stands above -/

/-- R77: the wait list by class. -/
def ByClass (x y : Waiting) : Prop := x.req.cls ≤ y.req.cls

theorem joinWaits_byClass {w : Waiting} {ws : List Waiting} (h : ws.Pairwise ByClass) : (joinWaits w ws).Pairwise ByClass := by
  induction ws with
  | nil => exact List.pairwise_singleton _ _
  | cons x xs ih =>
    obtain ⟨hx, hs⟩ := List.pairwise_cons.1 h
    unfold joinWaits
    split
    · next ha =>
      have hwx : w.req.cls ≤ x.req.cls := by
        have := (FlowReq.ahead_iff w x).1 ha
        unfold WaitsBefore at this
        omega
      refine List.pairwise_cons.2 ⟨fun y hy => ?_, h⟩
      rcases List.mem_cons.1 hy with rfl | hy
      · exact hwx
      · exact hwx.trans (hx y hy)
    · next ha =>
      have hxw : x.req.cls ≤ w.req.cls := by
        have hn : ¬WaitsBefore w x := fun hb => ha ((FlowReq.ahead_iff w x).2 hb)
        unfold WaitsBefore at hn
        omega
      refine List.pairwise_cons.2 ⟨fun y hy => ?_, ih hs⟩
      rcases List.mem_cons.1 ((joinWaits_perm w xs).mem_iff.1 hy) with rfl | hy
      · exact hxw
      · exact hx y hy

theorem Preempts.byClass {cls : Nat} {short : Nat → Prop} {a c : Arbiter} {gone : List FlowReq} (h : Preempts cls short a gone c)
    (ha : a.waits.Pairwise ByClass) : c.waits.Pairwise ByClass := by
  induction h with
  | done a => exact ha
  | go _ _ _ ih => exact ih (joinWaits_byClass ha)

/-- No grant is of a class above that of a waiting request: no head preempts one. -/
structure Arbiter.Calm (a : Arbiter) : Prop where
  below : ∀ y ∈ a.grants, ∀ w ∈ a.waits, y.cls ≤ w.req.cls
  waits : a.waits.Pairwise ByClass

theorem Arbiter.Calm.candidateSum {a : Arbiter} (h : a.Calm) {w : Waiting} (hw : w ∈ a.waits) : a.candidateSum w.req.cls = 0 := by
  unfold Arbiter.candidateSum
  rw [List.filter_eq_nil_iff.2 fun y hy => by have := h.below y hy w hw; simpa using this]
  rfl

/-- R81: a pass with no grant to preempt only adds grants. -/
theorem Arbiter.Calm.passFuel {a : Arbiter} (h : a.Calm) (n : Nat) : ∃ added, (a.passFuel n).1.grants = a.grants ++ added := by
  induction n generalizing a with
  | zero => exact ⟨[], by simp [Arbiter.passFuel]⟩
  | succ n ih =>
    unfold Arbiter.passFuel
    split
    · exact ⟨[], by simp⟩
    · next w ws hw =>
      have hp := h.waits
      rw [hw, List.pairwise_cons] at hp
      split
      · have hcalm : (({ a with waits := ws } : Arbiter).grantHead w).Calm := by
          refine ⟨fun y hy x hx => ?_, hp.2⟩
          rcases List.mem_append.1 hy with hy | hy
          · exact h.below y hy x (by rw [hw]; exact List.mem_cons_of_mem _ hx)
          · rw [List.mem_singleton.1 hy]
            exact hp.1 x hx
        obtain ⟨added, hadd⟩ := ih hcalm
        exact ⟨w.req :: added, by rw [hadd]; simp [Arbiter.grantHead]⟩
      · next hd =>
        split
        · exact ⟨[], by simp⟩
        · rw [if_pos (by rw [h.candidateSum (by simp [hw])]; omega)]
          exact ⟨[], by simp⟩

/-! ## The placement -/

section
variable {a : Arbiter} {who : Requester} {p : Purpose} {d : Nat}

/-- R78: with nobody waiting, the request placed waits alone. -/
theorem Arbiter.submit_alone (hw : a.waits = []) (hc : a.counter < 65535) (hg : ∀ r ∈ a.grants, r.who ≠ who) :
    let r : FlowReq := { who := who, purpose := p, cls := p.cls, demand := d, stamp := a.counter + 1 }
    a.submit who p d = { a with counter := a.counter + 1, waits := [r.waiting] } := by
  intro r
  have hren : a.renumber = a := if_neg (by omega)
  unfold Arbiter.submit Arbiter.remove
  dsimp only
  rw [hren, hw, List.filter_eq_self.2 fun x hx => by simpa using hg x hx]
  rfl

/-- R81, R82: a lone head is granted, waits, or preempts just what it needs. -/
theorem Arbiter.pass_alone (h : ArbiterOk a) {r : FlowReq} (hw : a.waits = [r.waiting]) :
    (r.demand + a.grantedSum ≤ a.budget → a.pass.1.grants = a.grants ++ [r] ∧ a.pass.1.waits = []) ∧
      (a.budget < r.demand + a.grantedSum →
        (3 ≤ r.cls → a.pass.1.grants = a.grants ∧ a.pass.1.waits = [r.waiting]) ∧
        (r.cls < 3 → a.free + a.candidateSum r.cls < r.demand → a.pass.1.grants = a.grants ∧ a.pass.1.waits = [r.waiting]) ∧
        (r.cls < 3 → r.demand ≤ a.free + a.candidateSum r.cls →
          r ∈ a.pass.1.grants ∧ (∀ x ∈ a.grants, x.cls ≤ r.cls → x ∈ a.pass.1.grants) ∧
            ∃ stay added v, a.pass.1.grants = stay ++ r :: added ∧ stay.Sublist a.grants ∧ LastPreempted a stay v ∧
              (∀ x ∈ a.grants, x ∉ stay → r.cls < x.cls) ∧ a.budget < (stay.map (·.demand)).sum + v.demand + r.demand)) := by
  have hsum := h.1
  let b : Arbiter := { a with waits := [] }
  have hstep : a.pass = if r.demand ≤ a.free then (((b.grantHead r.waiting).passFuel 7).1, FlowNote.mk r.who true :: ((b.grantHead r.waiting).passFuel 7).2)
      else if r.cls ≥ 3 then (a, [])
      else if a.free + a.candidateSum r.cls < r.demand then (a, [])
      else
        ((((b.preemptFor r.demand r.cls a.grants.length).1.grantHead r.waiting).passFuel 7).1,
          (b.preemptFor r.demand r.cls a.grants.length).2 ++
            ⟨r.who, true⟩ :: (((b.preemptFor r.demand r.cls a.grants.length).1.grantHead r.waiting).passFuel 7).2) := by
    show a.passFuel 8 = _
    unfold Arbiter.passFuel
    rw [hw]
    rfl
  refine ⟨fun hd => ?_, fun hd => ?_⟩
  · rw [hstep, if_pos (by unfold Arbiter.free; omega)]
    exact ⟨rfl, rfl⟩
  · have hfree : ¬r.demand ≤ a.free := by unfold Arbiter.free; omega
    rw [if_neg hfree] at hstep
    refine ⟨fun hc => ?_, fun hc hs => ?_, fun hc hs => ?_⟩
    · rw [hstep, if_pos hc]
      exact ⟨rfl, hw⟩
    · rw [hstep, if_neg (by omega), if_pos hs]
      exact ⟨rfl, hw⟩
    · rw [if_neg (by omega), if_neg (by omega)] at hstep
      have hn : (b.held.map (·.who)).Nodup := by
        have hsub : b.held.Sublist a.held := by
          simp only [Arbiter.held, b]
          exact (List.Sublist.refl _).append (List.nil_sublist _)
        exact (hsub.map _).nodup h.2.1
      obtain ⟨lost, hp, -⟩ := Arbiter.preemptFor_preempts r.demand r.cls a.grants.length b
      have hneed := (Arbiter.preemptFor_spec r.demand r.cls a.grants.length b hn).2.2 hsum (Nat.le_refl _) hs
      obtain ⟨c, hc'⟩ : ∃ c, (b.preemptFor r.demand r.cls a.grants.length).1 = c := ⟨_, rfl⟩
      rw [hc'] at hp hneed hstep
      have hgr := hp.grants hn
      have hlost : lost ≠ [] := by
        rintro rfl
        cases hp
        exact hfree hneed
      obtain ⟨v, hv, hlast, hshort⟩ := hp.lastPreempted hn hlost
      have hcalm : (c.grantHead r.waiting).Calm := by
        refine ⟨fun y hy w hw' => ?_, hp.byClass List.Pairwise.nil⟩
        have hwl : w ∈ [] ++ lost.map FlowReq.waiting := hp.waits.mem_iff.1 hw'
        rw [List.nil_append] at hwl
        obtain ⟨x, hx, rfl⟩ := List.mem_map.1 hwl
        have hxc := (hp.mem x hx).2
        show y.cls ≤ x.cls
        rcases List.mem_append.1 hy with hy | hy
        · rcases Nat.lt_or_ge r.cls y.cls with hyc | hyc
          · have := (hp.before hn).2 x hx y hy hyc
            unfold PreemptedBefore at this
            omega
          · omega
        · rw [List.mem_singleton.1 hy]
          exact hxc.le
      obtain ⟨added, hadd⟩ := hcalm.passFuel 7
      have hgrants : a.pass.1.grants = c.grants ++ r :: added := by
        rw [hstep]
        dsimp only
        rw [hadd]
        simp [Arbiter.grantHead, FlowReq.waiting]
      have hstay {x : FlowReq} (hx : x ∈ a.grants) : x ∈ c.grants ↔ x ∉ lost := by
        rw [hgr, List.mem_filter]
        simp [b, hx]
      refine ⟨by rw [hgrants]; simp, fun x hx hxc => ?_, c.grants, added, v, hgrants, ?_, hlast, fun x hx hxs => ?_, ?_⟩
      · rw [hgrants]
        refine List.mem_append_left _ ((hstay hx).2 fun hl => ?_)
        have := (hp.mem x hl).2
        omega
      · rw [hgr]
        exact List.filter_sublist
      · by_contra hlt
        exact hxs ((hstay hx).2 fun hl => hlt (hp.mem x hl).2)
      · have hbud : b.budget = a.budget := rfl
        rw [hbud] at hshort
        unfold Arbiter.grantedSum at hshort
        omega

end

end Sys2Proof.Machine
end

section
/-! PROOF. What a requester does that is told of its grant or its preemption (R21, R22, R52, R86, R87, R94, R99). -/
namespace Sys2Proof.Machine

section
variable {s t u : State} {b : BoomId}

/-! ## A boom -/

/-- Of `s`, no more than the engine and the pairs of boom `b` have changed. -/
def BoomTouched (s t : State) (b : BoomId) : Prop :=
  t = s.setBoom b { s.boom b with engine := t.engine b, pairs := (t.boom b).pairs }

theorem BoomTouched.of_setBoom {x : BoomState} (h : x = { s.boom b with engine := x.engine, pairs := x.pairs }) :
    BoomTouched s (s.setBoom b x) b := by
  have hx : (s.setBoom b x).boom b = x := by simp
  unfold BoomTouched State.engine
  rw [hx, ← h]

theorem BoomTouched.of_setPair (s : State) (f : PairFn) (x : Pair) : BoomTouched s (s.setPair (.boom b f) x) b := by
  cases f <;> exact .of_setBoom rfl

theorem BoomTouched.of_setEngine (s : State) (x : Engine) : BoomTouched s (s.setEngine b x) b := .of_setBoom rfl

theorem BoomTouched.trans (h : BoomTouched s t b) (k : BoomTouched t u b) : BoomTouched s u b := by
  have ht : t.boom b = { s.boom b with engine := t.engine b, pairs := (t.boom b).pairs } := by
    have := congrArg (fun x => State.boom x b) h
    simpa using this
  unfold BoomTouched at *
  rw [ht, h] at k
  rw [k]
  cases b <;> rfl

theorem BoomTouched.of_requestBoom (s : State) (b : BoomId) (r : PairFn → PairRequest) : BoomTouched s (s.requestBoom b r) b :=
  ((BoomTouched.of_setPair _ .rot _).trans (.of_setPair _ .feed _)).trans (.of_setPair _ .ins _)

theorem BoomTouched.of_boomOff (s : State) (b : BoomId) (hold : Bool) : BoomTouched s (s.boomOff b hold) b := by
  rw [State.boomOff_eq]
  exact .of_requestBoom s b _

theorem BoomTouched.of_issueStep (s : State) (b : BoomId) (m : Arming) : BoomTouched s (s.issueStep b m) b := by
  rw [State.issueStep_eq]
  exact .of_requestBoom s b _

theorem BoomTouched.of_issueJog (s : State) (b : BoomId) (j : Jog) : BoomTouched s (s.issueJog b j) b := by
  rw [State.issueJog_eq]
  exact .of_requestBoom s b _

/-- R86, R87: a boom that is told of its request. -/
theorem BoomTouched.of_tell (s : State) (b : BoomId) (g : Bool) : BoomTouched s (s.tell ⟨.boom b, g⟩) b := by
  cases g with
  | true =>
    show BoomTouched s (s.onBoomGrant b) b
    unfold State.onBoomGrant
    split
    · exact .of_issueJog s b _
    · exact (BoomTouched.of_issueStep s b _).trans (.of_setEngine _ _)
  | false =>
    show BoomTouched s (s.onBoomPreempt b) b
    unfold State.onBoomPreempt
    dsimp only
    split
    · exact (BoomTouched.of_boomOff s b true).trans (.of_setEngine _ _)
    · exact .of_boomOff s b true

/-- R87, R21: a preempted boom's pairs are off, and their monitors frozen. -/
theorem State.onBoomPreempt_off (s : State) (b : BoomId) (f : PairFn) :
    ((s.onBoomPreempt b).pair (.boom b f)).dir = none ∧ ((s.onBoomPreempt b).pair (.boom b f)).coil = .off ∧
      ((s.onBoomPreempt b).pair (.boom b f)).monitor = (s.pair (.boom b f)).monitor.onOff true := by
  rw [State.onBoomPreempt_pair, State.boomOff_eq, State.requestBoom_pair]
  exact s.request_off _ true

theorem State.onBoomPreempt_engine (s : State) (b : BoomId) : (s.onBoomPreempt b).engine b =
    { s.engine b with
      record :=
        if (s.engine b).state = .mix then
          (s.engine b).record.map (fun r => { r with flags := { r.flags with mixInterrupted := true } })
        else (s.engine b).record } := by
  have he : (s.boomOff b true).engine b = s.engine b := by
    rw [State.boomOff_eq, (PairsOnly.of_requestBoom s b _).engine]
  unfold State.onBoomPreempt
  split
  · rw [State.flagRecord, State.modRecord, State.setEngine_engine, if_pos rfl, he]
    rfl
  · rw [he]

/-- R22: a pair that is handed its part of a row. -/
theorem State.request_row (s : State) (b : BoomId) (f : PairFn) (d : StepDrive) (m : Arming) :
    let t := s.request (.boom b f) (d.toRequest f m)
    (d.of f = none →
      (t.pair (.boom b f)).dir = none ∧ (t.pair (.boom b f)).coil = .off ∧ (t.pair (.boom b f)).monitor = .disarmed) ∧
      ∀ dir duty, d.of f = some (dir, duty) →
        (t.pair (.boom b f)).dir = some dir ∧ (t.pair (.boom b f)).duty = duty ∧
          (t.pair (.boom b f)).monitor =
            if d.monitored = some f then (s.pair (.boom b f)).monitor.onDrive m (s.cal.response (.boom b f)) 0 else .disarmed := by
  intro t
  obtain ⟨h1, h2, h3⟩ := s.request_toRequest b f d m
  refine ⟨fun hn => ?_, fun dir duty hs => ?_⟩
  · have ht : t = s.request (.boom b f) (.off false) := congrArg (s.request _) (StepDrive.toRequest_of_none hn m)
    rw [ht]
    exact s.request_off _ false
  · rw [hs] at h1 h2 h3
    exact ⟨h1, h2, h3.trans (if_congr (and_iff_left (by simp)) rfl rfl)⟩

/-- R22, R86: a granted step drives its row. -/
theorem State.onBoomGrant_row (h : (s.engine b).jog = none) (f : PairFn) (m : Arming)
    (hm : m = if (s.engine b).armOnGrant = true then .arm else .continue) :
    (s.onBoomGrant b).pair (.boom b f) = (s.request (.boom b f) ((s.stepDrive b).toRequest f m)).pair (.boom b f) := by
  rw [State.onBoomGrant_of_step h, ← hm]
  dsimp only
  rw [State.setEngine_pair, State.issueStep_eq, State.requestBoom_pair]

theorem State.onBoomGrant_engine (h : (s.engine b).jog = none) :
    (s.onBoomGrant b).engine b = { s.engine b with armOnGrant := false } := by
  rw [State.onBoomGrant_of_step h]
  dsimp only
  rw [State.setEngine_engine, if_pos rfl, State.issueStep_eq, (PairsOnly.of_requestBoom s b _).engine]

theorem State.onBoomGrant_jog {j : Jog} (h : (s.engine b).jog = some j) : s.onBoomGrant b = s.issueJog b j := by
  unfold State.onBoomGrant
  rw [h]

/-- R52: the row of a jog. -/
theorem Jog.drive_of (j : Jog) (r : Bool) (f : PairFn) :
    (j.drive r).of f = if f = j.fn then some (j.dir, if f = .feed ∧ r = true then min j.duty 500 else j.duty) else none := by
  unfold Jog.drive
  cases hf : j.fn <;> cases f <;> cases r <;> simp [StepDrive.of, capFeed]

end

end Sys2Proof.Machine
end

section
/-! PROOF. The arbiter and its requesters (R73 to R83, R86, R87). -/
namespace Sys2Proof.Machine

/-! ## The canopy -/

section
variable {s : State}

theorem State.onCanopyGrant_raising (h : s.canopy.state = .raising) (m : Arming)
    (hm : m = if s.canopy.setRun.isSome = true then .none else if s.canopy.armOnGrant = true then .arm else .continue) :
    s.onCanopyGrant =
      { s.request .canopy (.drive .first s.cal.raiseDuty m) with canopy := { s.canopy with armOnGrant := false } } := by
  subst hm
  unfold State.onCanopyGrant
  rw [h]
  rfl

theorem State.onCanopyGrant_lowering (h : s.canopy.state = .lowering) :
    s.onCanopyGrant = s.request .canopy (.drive .second s.cal.lowerDuty .none) := by
  unfold State.onCanopyGrant
  rw [h]

theorem State.onCanopyGrant_still (h : s.canopy.state ≠ .raising) (k : s.canopy.state ≠ .lowering) : s.onCanopyGrant = s := by
  unfold State.onCanopyGrant
  split
  · exact absurd ‹_› h
  · exact absurd ‹_› k
  · rfl

end

/-! ## Placing and withdrawing -/

theorem State.withdraw_of_held {s : State} {who : Requester} (h : ∃ r ∈ s.arb.held, r.who = who) :
    s.withdraw who = State.runPass { s with arb := s.arb.remove who } := by
  unfold State.withdraw
  refine if_pos ?_
  obtain ⟨r, hr, hw⟩ := h
  rw [Bool.or_eq_true]
  rcases List.mem_append.1 hr with hr | hr
  · exact .inl (List.any_eq_true.2 ⟨r, hr, by simpa using hw⟩)
  · obtain ⟨w, hm, rfl⟩ := List.mem_map.1 hr
    exact .inr (List.any_eq_true.2 ⟨w, hm, by simpa using hw⟩)

theorem State.withdraw_of_lacks {s : State} {who : Requester} (h : ∀ r ∈ s.arb.held, r.who ≠ who) : s.withdraw who = s := by
  unfold State.withdraw
  obtain ⟨h1, h2⟩ := Arbiter.lacks_iff.2 h
  refine if_neg fun hx => ?_
  rw [Bool.or_eq_true] at hx
  rcases hx with hx | hx
  · obtain ⟨r, hr, hw⟩ := List.any_eq_true.1 hx
    exact h1 r hr (by simpa using hw)
  · obtain ⟨w, hw, hq⟩ := List.any_eq_true.1 hx
    exact h2 w hw (by simpa using hq)

/-! ## The obligation -/

/-- R75, R77 to R79: a placement or an exchange. -/
theorem Arbiter.submit_spec (a : Arbiter) (who : Requester) (p : Purpose) (d : Nat) (ha : ArbiterOk a) (hs : StampsOk a) :
    let r : FlowReq :=
      { who := who, purpose := p, cls := p.cls, demand := d, stamp := 1 + if a.counter = 65535 then a.held.length else a.counter }
    let t := a.submit who p d
    t.counter = r.stamp ∧ t.budget = a.budget ∧ t.grants = (a.grants.filter (fun x => x.who != who)).map a.keptReq ∧
      (∃ x y, t.waits = x ++ { req := r, wait := 0, starved := false } :: y ∧
        x ++ y = (a.waits.filter (fun w => w.req.who != who)).map (fun w => { w with req := a.keptReq w.req })) ∧
      (∀ x ∈ a.held, ∀ y ∈ a.held, a.stampAfter x < a.stampAfter y ↔ x.stamp < y.stamp) ∧ ArbiterOk t ∧ StampsOk t := by
  intro r t
  have ho : a.Ordered := (Arbiter.ordered_iff a).2 ⟨ha.2.1, hs⟩
  have ht : t = _ := Arbiter.submit_eq ho.bound p d
  refine ⟨by rw [ht], by rw [ht], by rw [ht], ?_, fun x hx y hy => Arbiter.stampAfter_lt hx hy, Arbiter.submit_ok ha who p d,
    ((Arbiter.ordered_iff t).1 (ho.submit who p d)).2⟩
  rw [ht]
  exact joinWaits_split _ _

/-- R81 to R83, R86, R87: the grant pass. -/
theorem Arbiter.pass_whole (a : Arbiter) (ha : ArbiterOk a) (hs : StampsOk a) :
    ∃ gone added, PassSoFar a gone added a.pass.2 a.pass.1 ∧ a.pass.1.Stuck ∧ ArbiterOk a.pass.1 ∧ StampsOk a.pass.1 := by
  have ho : a.Ordered := (Arbiter.ordered_iff a).2 ⟨ha.2.1, hs⟩
  obtain ⟨gone, added, h1, h2⟩ := ho.pass_soFar
  exact ⟨gone, added, h1, h2, Arbiter.pass_ok ha, ((Arbiter.ordered_iff _).1 h1.ordered).2⟩

/-- Settles O37. -/
theorem placementGrantedOrWaits : Obligations.PlacementGrantedOrWaits := by
  unfold Obligations.PlacementGrantedOrWaits
  refine ⟨Arbiter.submit_spec, fun a ha hs => ?_, fun a who p d ha hw hc hg => ?_, fun s who => ⟨fun p => ?_, fun h => ?_,
    State.withdraw_of_lacks, ?_⟩⟩
  · obtain ⟨gone, added, h, hstuck, hok, hst⟩ := a.pass_whole ha hs
    obtain ⟨k1, k2, k3⟩ := h.keeps
    exact ⟨k1, k2, k3, hok, hst, fun w ws hw => hstuck.head hw, h.granted⟩
  · have hsub := Arbiter.submit_alone (p := p) (d := d) hw hc hg
    have hok := Arbiter.submit_ok ha who p d
    intro r t
    have hwaits : (a.submit who p d).waits = [r.waiting] := by rw [hsub]
    have hspec := Arbiter.pass_alone hok hwaits
    have hcount : t.counter = a.counter + 1 := ((a.submit who p d).pass_spec hok.2.1).1.2.2.trans (by rw [hsub])
    show t.counter = _ ∧ _
    refine ⟨hcount, ?_⟩
    have ht : t = ({ a with counter := a.counter + 1, waits := [r.waiting] } : Arbiter).pass.1 := congrArg (fun x => x.pass.1) hsub
    rw [hsub] at hspec
    rw [ht]
    exact hspec
  · exact ⟨rfl, State.runPass_arb _, .of_place s who p⟩
  · have hval := State.withdraw_of_held h
    exact ⟨hval, by rw [hval]; exact State.runPass_arb _, .of_withdraw s who⟩
  · intro g p onDrive driven off frozen
    have hdrive (arm : Bool) (f : PairFn) (b : BoomId) (x : PairMonitor) :
        onDrive arm (.boom b f) x = x.onDrive (if arm = true then .arm else .continue) (s.cal.response (.boom b f)) 0 := by
      cases arm <;> cases x <;> rfl
    have hfrozen (x : PairMonitor) : x.onOff true = frozen x := by cases x <;> rfl
    have htell (n : FlowNote) : (s.tell n).arb = s.arb := State.tells_arb [n] s
    refine ⟨.of_tell s _, .of_tell s _, htell _, htell _, fun b hb => ?_, fun hb => ?_⟩
    · subst hb
      refine ⟨BoomTouched.of_tell s b true, BoomTouched.of_tell s b false, fun hj => ⟨State.onBoomGrant_engine hj, fun f => ?_⟩, fun j hj => ?_,
        fun f => hfrozen _ ▸ s.onBoomPreempt_off b f, s.onBoomPreempt_engine b⟩
      · have hrow := State.onBoomGrant_row hj f _ rfl
        obtain ⟨h1, h2⟩ := s.request_row b f (s.stepDrive b) (if (s.engine b).armOnGrant = true then .arm else .continue)
        rw [← hrow] at h1 h2
        refine ⟨h1, fun d duty hd => ?_⟩
        rw [hdrive]
        exact h2 d duty hd
      · have hval : g = s.issueJog b j := State.onBoomGrant_jog hj
        have hpair (f : PairFn) : g.pair (.boom b f) =
            (s.request (.boom b f) ((j.drive (s.engine b).restricted).toRequest f .none)).pair (.boom b f) := by
          rw [hval, State.issueJog_eq, State.requestBoom_pair]
        refine ⟨by rw [hval, State.issueJog_eq, (PairsOnly.of_requestBoom s b _).engine], fun f => ?_⟩
        obtain ⟨h1, h2⟩ := s.request_row b f (j.drive (s.engine b).restricted) .none
        rw [← hpair, Jog.drive_of] at h1 h2
        refine ⟨fun hf => ?_, fun hf => h1 (if_neg hf)⟩
        obtain ⟨k1, k2, k3⟩ := h2 _ _ (if_pos hf)
        exact ⟨k1, k2, k3.trans (if_neg (by simp [Jog.drive_monitored]))⟩
    · subst hb
      have hg : g = s.onCanopyGrant := rfl
      refine ⟨?_, rfl, fun hs => ?_, fun hs => ?_, fun h k => State.onCanopyGrant_still h k, hfrozen _ ▸ s.request_off .canopy true⟩
      · rw [hg]
        unfold State.onCanopyGrant
        split <;> rfl
      · have hval := State.onCanopyGrant_raising hs _ rfl
        rw [← hg] at hval
        obtain ⟨k1, k2, k3⟩ := s.request_drive .canopy .first s.cal.raiseDuty
          (if s.canopy.setRun.isSome = true then .none else if s.canopy.armOnGrant = true then .arm else .continue)
        refine ⟨by rw [hval], by rw [hval]; exact k1, by rw [hval]; exact k2, ?_⟩
        rw [hval]
        refine k3.trans ?_
        have hm : s.pair .canopy = s.canopyPair := rfl
        rw [hm]
        by_cases hr : s.canopy.setRun.isSome = true
        · rw [if_pos hr, if_pos hr, PairMonitor.onDrive_none]
        · rw [if_neg hr, if_neg hr]
          cases s.canopy.armOnGrant <;> cases s.canopyPair.monitor <;> rfl
      · have hval := State.onCanopyGrant_lowering hs
        rw [← hg] at hval
        obtain ⟨k1, k2, k3⟩ := s.request_drive .canopy .second s.cal.lowerDuty .none
        exact ⟨by rw [hval]; rfl, by rw [hval]; exact k1, by rw [hval]; exact k2, by rw [hval]; exact k3.trans (PairMonitor.onDrive_none ..)⟩

end Sys2Proof.Machine
end

section
/-! PROOF. A new calibration set reaches the pairs and the waiting requests (R74, R89, R110, R202). -/
namespace Sys2Proof.Machine

/-! ## The flags of the event set -/

/-- R199: FLOW_STARVED and RESTRICTED have their places to themselves. -/
theorem Event.bit_own {e f : Event} {b : BoomId} (hf : f = .flowStarved b ∨ f = .restricted b) (h : e.bit = f.bit) : e = f := by
  have h16 : e.bit < 16 := by rw [h]; rcases hf with rfl | rfl <;> cases b <;> decide
  cases e with
  | channel c k => simp only [Event.bit] at h16; omega
  | monitor n t => simp only [Event.bit] at h16; omega
  | jobDone c | jobFault c | holdEntered c | resinNeeded c | boltNeeded c | voidFound c | flowStarved c | restricted c =>
    rcases hf with rfl | rfl <;> revert h <;> cases b <;> cases c <;> decide
  | _ => exact absurd h16 (by decide)

/-! ## The pairs -/

/-- R110: every pair's applied duty is computed again. -/
def State.recomputed (s : State) : State := allPairs.foldl State.recomputeDuty s

theorem State.recomputed_only (s : State) : PairsOnly s s.recomputed := by
  have h (l : List PairId) : ∀ s : State, PairsOnly s (l.foldl State.recomputeDuty s) := by
    induction l with
    | nil => exact .refl
    | cons p l ih => exact fun s => (PairsOnly.of_setPair s p _).trans (ih _)
  exact h allPairs s

theorem State.recomputed_pair (s : State) (i : PairId) :
    s.recomputed.pair i = { s.pair i with applied := appliedDuty (s.cal.minDuty i) (s.pair i).duty } := by
  have hcal (t : State) (p : PairId) (x : Pair) : (t.setPair p x).cal = t.cal := (PairsOnly.of_setPair t p x).cal
  unfold State.recomputed allPairs
  simp only [List.foldl_cons, List.foldl_nil, State.recomputeDuty, State.setPair_pair, hcal]
  rcases i with ⟨_ | _, _ | _ | _⟩ | _ <;> rfl

/-! ## The waits -/

section
variable {s : State} {who : Requester}

/-- R89: a waiting request that the limit in force finds past it. -/
def State.waitDue (s : State) (w : Waiting) : Bool := decide (s.cal.starvation ≤ w.wait)

/-- R89: the wait list once the request of `who` is marked where it is due. -/
def State.marked (s : State) (who : Requester) (w : Waiting) : Waiting :=
  if w.req.who = who ∧ s.waitDue w = true then { w with starved := true } else w

theorem State.starveDue_eq (s : State) (who : Requester) :
    s.starveDue who = s.arb.waits.any (fun w => w.req.who == who && !w.starved && s.waitDue w) := rfl

/-- R89: what a mark is, done or not. -/
structure Marked (s t : State) (who : Requester) : Prop where
  rest : t = { s with arb := { s.arb with waits := t.arb.waits }, events := t.events }
  reqs : t.arb.waits.map (·.req) = s.arb.waits.map (·.req)
  waits : (s.arb.held.map (·.who)).Nodup → t.arb.waits = s.arb.waits.map (s.marked who)
  others : ∀ x, x ≠ who → t.starveDue x = s.starveDue x
  flagged : ∀ b, who = .boom b → t.raised (.flowStarved b) = (s.raised (.flowStarved b) || s.starveDue who)
  quiet : ∀ e, (∀ b, who = .boom b → e ≠ .flowStarved b) → t.raised e = s.raised e

theorem flowStarved_bit (b : BoomId) : (Event.flowStarved b).bit < 96 := by cases b <;> decide

/-- R73: a requester's waiting request is the only one. -/
theorem Arbiter.waits_who {a : Arbiter} (h : (a.held.map (·.who)).Nodup) {w x : Waiting} (hw : w ∈ a.waits) (hx : x ∈ a.waits)
    (he : w.req.who = x.req.who) : w = x := by
  have hn : (a.waits.map (fun w => w.req.who)).Nodup := by
    have h2 := h
    simp only [Arbiter.held, List.map_append, List.map_map, List.nodup_append] at h2
    exact h2.2.1
  exact List.inj_on_of_nodup_map hn hw hx he

/-- R89: a mark where none is due. -/
theorem Marked.of_undue (h : s.starveDue who = false) : Marked s s who := by
  refine ⟨rfl, rfl, fun _ => ?_, fun _ _ => rfl, fun b _ => by rw [h, Bool.or_false], fun _ _ => rfl⟩
  refine (List.map_id' s.arb.waits).symm.trans (List.map_congr_left fun w hw => ?_)
  rw [State.starveDue_eq, List.any_eq_false] at h
  have hw' := h w hw
  unfold State.marked
  split
  · next hm =>
    have hst : w.starved = true := by simpa [hm.1, hm.2] using hw'
    rw [← hst]
  · rfl

theorem Marked.of_due (h : s.starveDue who = true) : Marked s (s.starve who) who := by
  rw [State.starveDue_eq] at h
  obtain ⟨w0, hw0, hd⟩ := List.any_eq_true.1 h
  simp only [Bool.and_eq_true, beq_iff_eq, Bool.not_eq_true'] at hd
  obtain ⟨⟨hwho, hst⟩, hdue⟩ := hd
  have heq := s.starve_eq who ⟨w0, hw0, hwho, hst⟩
  rw [← State.starveDue_eq] at h
  rw [heq]
  have hmark : (s.arb.markStarved who s.cal.starvation).waits =
      s.arb.waits.map (fun w => if w.req.who = who then { w with starved := true, wait := max w.wait s.cal.starvation } else w) := rfl
  refine ⟨rfl, ?_, fun hn => ?_, fun x hx => ?_, fun b hb => ?_, fun e he => ?_⟩
  · show (s.arb.markStarved who s.cal.starvation).waits.map _ = _
    rw [hmark, List.map_map]
    refine List.map_congr_left fun w _ => ?_
    simp only [Function.comp_apply]
    split <;> rfl
  · show (s.arb.markStarved who s.cal.starvation).waits = _
    rw [hmark]
    refine List.map_congr_left fun w hw => ?_
    unfold State.marked
    by_cases hq : w.req.who = who
    · have hw' : w = w0 := Arbiter.waits_who hn hw hw0 (hq.trans hwho.symm)
      subst hw'
      have hle : s.cal.starvation ≤ w.wait := by simpa [State.waitDue] using hdue
      rw [if_pos hq, if_pos ⟨hq, hdue⟩, Nat.max_eq_left hle]
    · rw [if_neg hq, if_neg fun k => hq k.1]
  · rw [State.starveDue_eq, State.starveDue_eq]
    show List.any (s.arb.markStarved who s.cal.starvation).waits _ = _
    rw [hmark, List.any_map]
    refine congrArg (List.any s.arb.waits) (funext fun w => ?_)
    simp only [Function.comp_apply]
    by_cases hq : w.req.who = who
    · have hne : (w.req.who == x) = false := by simpa using fun e : w.req.who = x => hx (e.symm.trans hq)
      simp [hq, show (who == x) = false by simpa [hq] using hne]
    · rw [if_neg hq]
      rfl
  · subst hb
    rw [h, Bool.or_true]
    exact State.raised_raise s (flowStarved_bit b)
  · cases who with
    | boom b => exact State.raised_raise_ne (s := s) fun hb => he b rfl (Event.bit_own (.inl rfl) hb)
    | canopy => rfl

theorem Marked.of_starveIfDue (s : State) (who : Requester) : Marked s (s.starveIfDue who) who := by
  unfold State.starveIfDue
  split
  · exact .of_due ‹_›
  · next h => exact .of_undue (Bool.eq_false_iff.2 h)

end

/-! ## All three requesters -/

/-- R89, R202: the waits that a new limit finds past it are marked. -/
structure AllMarked (s t : State) : Prop where
  rest : t = { s with arb := { s.arb with waits := t.arb.waits }, events := t.events }
  reqs : t.arb.waits.map (·.req) = s.arb.waits.map (·.req)
  waits : (s.arb.held.map (·.who)).Nodup →
    t.arb.waits = s.arb.waits.map (fun w => if s.waitDue w = true then { w with starved := true } else w)
  flagged : ∀ b, t.raised (.flowStarved b) = (s.raised (.flowStarved b) || s.starveDue (.boom b))
  quiet : ∀ e, e ≠ .flowStarved .A → e ≠ .flowStarved .B → t.raised e = s.raised e

theorem AllMarked.of_starve (s : State) : AllMarked s (((s.starveIfDue (.boom .A)).starveIfDue (.boom .B)).starveIfDue .canopy) := by
  obtain ⟨u, hu⟩ : ∃ u, s.starveIfDue (.boom .A) = u := ⟨_, rfl⟩
  obtain ⟨v, hv⟩ : ∃ v, u.starveIfDue (.boom .B) = v := ⟨_, rfl⟩
  obtain ⟨t, ht⟩ : ∃ t, v.starveIfDue .canopy = t := ⟨_, rfl⟩
  have h1 := hu ▸ Marked.of_starveIfDue s (.boom .A)
  have h2 := hv ▸ Marked.of_starveIfDue u (.boom .B)
  have h3 := ht ▸ Marked.of_starveIfDue v .canopy
  rw [hu, hv, ht]
  have c1 : u.cal = s.cal := by rw [h1.rest]
  have c2 : v.cal = s.cal := by rw [h2.rest]; exact c1
  have hheld {x y : State} {who : Requester} (h : Marked x y who) : y.arb.held = x.arb.held := by
    have hg : y.arb.grants = x.arb.grants := by rw [h.rest]
    rw [Arbiter.held, h.reqs, hg]
    rfl
  refine ⟨?_, h3.reqs.trans (h2.reqs.trans h1.reqs), fun hn => ?_, fun b => ?_, fun e ha hb => ?_⟩
  · rw [h3.rest, h2.rest, h1.rest]
  · rw [h3.waits (by rw [hheld h2, hheld h1]; exact hn), h2.waits (by rw [hheld h1]; exact hn), h1.waits hn, List.map_map, List.map_map]
    refine List.map_congr_left fun w _ => ?_
    simp only [Function.comp_apply, State.marked, State.waitDue, c1, c2]
    by_cases hd : s.cal.starvation ≤ w.wait
    · rcases hw : w.req.who with (_ | _) | _ <;> simp [hw, hd]
    · simp [hd]
  · have q3 := h3.quiet (.flowStarved b) fun _ k => nomatch k
    cases b with
    | A =>
      have q2 := h2.quiet (.flowStarved .A) fun b k => by cases k; decide
      rw [q3, q2, h1.flagged .A rfl]
    | B =>
      have q1 := h1.quiet (.flowStarved .B) fun b k => by cases k; decide
      rw [q3, h2.flagged .B rfl, q1, h1.others _ (by decide)]
  · have q3 := h3.quiet e (fun _ k => nomatch k)
    have q2 := h2.quiet e (fun b k => by cases k; exact hb)
    have q1 := h1.quiet e (fun b k => by cases k; exact ha)
    rw [q3, q2, q1]

end Sys2Proof.Machine
end

section
/-! PROOF. A new calibration set decides the stale marks of the heads afresh (R22, R48, R52, R153, R160, R179). -/
namespace Sys2Proof.Machine

section
variable {s t v : State} {b : BoomId} {x r : Bool}

/-! ## The mark -/

/-- R48, R153, R179: a stale mark that turns. -/
theorem State.setStale_turned (h : (s.head b).stale ≠ x) :
    ∃ v, RestrictedFollows (s.setHead b { s.head b with stale := x }) v b (v.restrictedNow b) ∧
      s.setStale b x = { v with monitors := (s.setStale b x).monitors } ∧
      (s.monitors.length = 12 → ∀ n, n < 12 → (s.setStale b x).monitor n =
        if (s.monitor n).cfg.source = .headTemp b ∨ (s.monitor n).cfg.source = .headVacuum b then
          { s.monitor n with valid := (s.setStale b x).sourceValid (s.monitor n).cfg.source } else s.monitor n) := by
  obtain ⟨y, hy⟩ : ∃ y, s.setHead b { s.head b with stale := x } = y := ⟨_, rfl⟩
  have hyh : y.head b = { s.head b with stale := x } := by rw [← hy]; cases b <;> rfl
  have hym : y.monitors = s.monitors := by rw [← hy]; cases b <;> rfl
  have hst : s.setStale b x = (y.updateRestricted b).markValidity (headSources b) := by
    unfold State.setStale
    dsimp only
    rw [if_neg h, hy, State.headChanged_eq, hyh, if_neg (fun k => k.2 k.1)]
    unfold State.headFollowed
    rw [hyh, if_pos (.inr (Ne.symm h))]
  have hf := y.updateRestricted_spec b
  have ht := hf.turned
  obtain ⟨k1, k2⟩ := (y.updateRestricted b).markValidity_spec (headSources b)
  rw [← (y.updateRestricted_settled b).1] at hf
  rw [← hst] at k1 k2
  generalize y.updateRestricted b = v at hf k1 k2 ht
  rw [hy]
  refine ⟨v, hf, k1, fun hlen n hn => ?_⟩
  have hvm : v.monitors = s.monitors := ht.monitors.trans hym
  have hvn : v.monitor n = s.monitor n := congrArg (·.getD n default) hvm
  have hval (z : Source) : (s.setStale b x).sourceValid z = v.sourceValid z := by rw [k1]; exact State.sourceValid_monitors _ _ _
  rw [k2 (by rw [hvm]; exact hlen) n hn, hvn, hval]
  exact if_congr (by simp [headSources]) rfl rfl

/-! ## The feed pair of a boom at rest -/

/-- R202: the engine is in none of the states that CALIBRATE and RECALL are refused in. -/
def Resting (s : State) (b : BoomId) : Prop :=
  (s.engine b).state = .idle ∨ (s.engine b).state = .ready ∨ (s.engine b).state = .parked ∨ (s.engine b).state = .faulted

theorem fullFeed_resting (h : Resting s b) (hj : (s.engine b).jog = none) : fullFeed s b = none := by
  unfold fullFeed
  rw [hj]
  have he : (s.setEngine b { s.engine b with restricted := false }).engine b = { s.engine b with restricted := false } := by simp
  dsimp only
  unfold State.stepDrive
  rw [he]
  rcases h with h | h | h | h <;> simp only [h]

/-- R52: the jog of boom `b` that drives its feed pair. -/
def State.feedJog (s : State) (b : BoomId) : Option Jog :=
  (s.engine b).jog.filter (fun j => j.fn == .feed && (s.pair (.boom b .feed)).dir.isSome)

/-- R22: the feed drive is issued again where a feed jog has it, and nowhere else. -/
theorem FeedReissued.jogged (h : FeedReissued s t b) (hrest : Resting s b) :
    (∀ i, i ≠ .boom b .feed → t.pair i = s.pair i) ∧
      (s.feedJog b = none → t.pair (.boom b .feed) = s.pair (.boom b .feed)) ∧
      ∀ j, s.feedJog b = some j →
        let duty := if (s.engine b).restricted = true then min j.duty 500 else j.duty
        (t.pair (.boom b .feed)).dir = some j.dir ∧ (t.pair (.boom b .feed)).duty = duty ∧
          (t.pair (.boom b .feed)).applied = appliedDuty (s.cal.minDuty (.boom b .feed)) duty := by
  obtain ⟨h1, h2⟩ := h
  refine ⟨fun i hi => ?_, fun hn => ?_, fun j hj => ?_⟩
  · rcases FeedReissued.request ⟨h1, h2⟩ with rfl | ⟨q, rfl⟩
    · rfl
    · rw [State.request_pair, if_neg hi]
  · rw [h1 ?_]
    by_contra hno
    rw [not_or] at hno
    obtain ⟨hd, hf⟩ := hno
    cases hj : (s.engine b).jog with
    | none => exact hf (fullFeed_resting hrest hj)
    | some j =>
      rw [fullFeed_of_jog hj] at hf
      have hfeed : j.fn = .feed := by
        by_contra hne
        exact hf (if_neg hne)
      have hdir : (s.pair (.boom b .feed)).dir.isSome = true := by rw [Option.isSome_iff_ne_none]; exact hd
      simp [State.feedJog, hj, hfeed, hdir] at hn
  · obtain ⟨hjog, hp⟩ := Option.filter_eq_some_iff.1 hj
    simp only [Bool.and_eq_true, beq_iff_eq] at hp
    have hval := h2 j.dir j.duty (Option.isSome_iff_ne_none.1 hp.2) ((fullFeed_of_jog hjog).trans (if_pos hp.1))
    intro duty
    rw [hval, State.request_pair, if_pos rfl]
    obtain ⟨k1, k2, k3, -⟩ := ((s.pair (.boom b .feed)).record (.drive j.dir duty .continue) (s.cal.minDuty (.boom b .feed))
      (s.cal.response (.boom b .feed)) (s.armRef (.boom b .feed))).settle_frame (s.gateOpen (.boom b .feed))
      (s.cal.deadTime (.boom b .feed)) (s.cal.period (.boom b .feed))
    exact ⟨k1, k2, k3⟩

end

end Sys2Proof.Machine
end

section
/-! PROOF. What a stale mark decided afresh brings (R22, R48, R52, R153, R160, R179). -/
namespace Sys2Proof.Machine

theorem State.markValidity_length (s : State) (srcs : List Source) (h : s.monitors.length = 12) :
    (s.markValidity srcs).monitors.length = 12 := by
  obtain ⟨ms, h1, h2⟩ := s.markValidity_below srcs 12
  have h1' : s.markValidity srcs = { s with monitors := ms } := h1
  rw [h1']
  exact (h2 h (le_refl _)).1

theorem State.setStale_length (s : State) (b : BoomId) (x : Bool) (h : s.monitors.length = 12) : (s.setStale b x).monitors.length = 12 := by
  unfold State.setStale
  dsimp only
  split
  · exact h
  · refine State.markValidity_length _ _ ?_
    obtain ⟨y, hy⟩ : ∃ y, s.setHead b { s.head b with stale := x } = y := ⟨_, rfl⟩
    have hym : y.monitors = s.monitors := by rw [← hy]; cases b <;> rfl
    have hhealth : (y.head b).health = (s.head b).health := by rw [← hy]; cases b <;> rfl
    rw [hy, State.headChanged_eq, if_neg (fun k => k.2 (hhealth ▸ k.1))]
    unfold State.headFollowed
    split
    · rw [(y.updateRestricted_turned b).monitors, hym, h]
    · rw [hym, h]

/-- R48, R153: the stale mark of boom `b` has been decided afresh, and its engine and its monitors have followed. -/
structure StaleDecided (s t : State) (b : BoomId) : Prop where
  rest : t = { s with boomA := t.boomA, boomB := t.boomB, monitors := t.monitors, events := t.events }
  boom : t.boom b =
    { s.boom b with
      engine := (s.engine b).turned (t.engine b).restricted
      pairs := (t.boom b).pairs
      head := { s.head b with stale := s.isStale b } }
  other : t.boom (otherBoom b) = s.boom (otherBoom b)
  flag : (s.engine b).restricted = s.restrictedNow b → (t.engine b).restricted = t.restrictedNow b
  flagged : t.raised (.restricted b) = (s.raised (.restricted b) || ((t.engine b).restricted && !(s.engine b).restricted))
  quiet : ∀ e, e ≠ .restricted b → t.raised e = s.raised e
  pair : ∀ i, i ≠ .boom b .feed → t.pair i = s.pair i
  feed : s.feedJog b = none ∨ (t.engine b).restricted = (s.engine b).restricted ∨ (s.head b).stale = s.isStale b →
    t.pair (.boom b .feed) = s.pair (.boom b .feed)
  jogged : ∀ j, s.feedJog b = some j → (t.engine b).restricted ≠ (s.engine b).restricted →
    let duty := if (t.engine b).restricted = true then min j.duty 500 else j.duty
    (t.pair (.boom b .feed)).dir = some j.dir ∧ (t.pair (.boom b .feed)).duty = duty ∧
      (t.pair (.boom b .feed)).applied = appliedDuty (s.cal.minDuty (.boom b .feed)) duty
  length : s.monitors.length = 12 → t.monitors.length = 12
  monitors : s.monitors.length = 12 → ∀ n, n < 12 → t.monitor n =
    if (s.isStale b ≠ (s.head b).stale) ∧ ((s.monitor n).cfg.source = .headTemp b ∨ (s.monitor n).cfg.source = .headVacuum b) then
      { s.monitor n with valid := t.sourceValid (s.monitor n).cfg.source } else s.monitor n

section
variable {s t : State} {b : BoomId}

theorem StaleDecided.refl (h : (s.head b).stale = s.isStale b) : StaleDecided s s b where
  rest := rfl
  boom := by
    rw [Engine.turned_self, ← h]
    rfl
  other := rfl
  flag := id
  flagged := by rw [Bool.and_not_self, Bool.or_false]
  quiet _ _ := rfl
  pair _ _ := rfl
  feed _ := rfl
  jogged _ _ hn := absurd rfl hn
  length := id
  monitors _ _ _ := (if_neg fun k => k.1 h.symm).symm

/-- The restricted flag of a boom leaves its feed jog. -/
theorem restrictedTo_keeps (s : State) (b : BoomId) (r : Bool) :
    (∀ i, (restrictedTo s b r).pair i = s.pair i) ∧ (restrictedTo s b r).cal = s.cal ∧
      ((restrictedTo s b r).engine b).restricted = r ∧ ((restrictedTo s b r).engine b).state = (s.engine b).state ∧
      ((restrictedTo s b r).engine b).jog = (s.engine b).jog := by
  unfold restrictedTo
  cases r with
  | true =>
    rw [if_pos rfl]
    exact ⟨fun i => by rcases i with ⟨_ | _, _ | _ | _⟩ | _ <;> cases b <;> rfl, by cases b <;> rfl, by cases b <;> rfl, by cases b <;> rfl,
      by cases b <;> rfl⟩
  | false =>
    rw [if_neg (by decide)]
    exact ⟨fun i => by rcases i with ⟨_ | _, _ | _ | _⟩ | _ <;> cases b <;> rfl, by cases b <;> rfl, by cases b <;> rfl, by cases b <;> rfl,
      by cases b <;> rfl⟩

theorem StaleDecided.of_turned (hrest : Resting s b) (h : (s.head b).stale ≠ s.isStale b) :
    StaleDecided s (s.setStale b (s.isStale b)) b := by
  obtain ⟨v, hf, hm, hmon⟩ := State.setStale_turned h
  obtain ⟨y, hy⟩ : ∃ y, s.setHead b { s.head b with stale := s.isStale b } = y := ⟨_, rfl⟩
  obtain ⟨t, ht⟩ : ∃ t, s.setStale b (s.isStale b) = t := ⟨_, rfl⟩
  have hlen : s.monitors.length = 12 → t.monitors.length = 12 := fun hl => ht ▸ s.setStale_length b _ hl
  rw [hy] at hf
  rw [ht] at hm hmon
  rw [ht]
  have yrest : y = { s with boomA := y.boomA, boomB := y.boomB } := by rw [← hy]; cases b <;> rfl
  have yboom : y.boom b = { s.boom b with head := { s.head b with stale := s.isStale b } } := by rw [← hy]; cases b <;> rfl
  have yother : y.boom (otherBoom b) = s.boom (otherBoom b) := by rw [← hy]; cases b <;> rfl
  have yengine : y.engine b = s.engine b := (congrArg BoomState.engine yboom).trans rfl
  have ypair : ∀ i, y.pair i = s.pair i := fun i => by
    rw [← hy]
    rcases i with ⟨_ | _, _ | _ | _⟩ | _ <;> cases b <;> rfl
  have yraised : ∀ e, y.raised e = s.raised e := fun e => by rw [← hy]; cases b <;> rfl
  have ycal : y.cal = s.cal := by rw [yrest]
  have hT := hf.turned
  have tboom : ∀ a, t.boom a = v.boom a := fun a => by rw [hm]; cases a <;> rfl
  have tengine : t.engine b = (s.engine b).turned (v.restrictedNow b) := by
    rw [show t.engine b = v.engine b from congrArg BoomState.engine (tboom b), hT.engine, yengine]
  have tres : (t.engine b).restricted = v.restrictedNow b := by rw [tengine]; rfl
  have traised : ∀ e, t.raised e = v.raised e := fun e => by rw [hm]; rfl
  have tpair : ∀ i, t.pair i = v.pair i := fun i => by rw [hm]; rcases i with ⟨_ | _, _ | _ | _⟩ | _ <;> rfl
  have tnow : t.restrictedNow b = v.restrictedNow b :=
    State.restrictedNow_of_same (by rw [hm]) (congrArg BoomState.head (tboom b))
  obtain ⟨f1, f2⟩ := hf
  obtain ⟨q1, q2, q3, q4, q5⟩ := restrictedTo_keeps y b (v.restrictedNow b)
  have hjog : (restrictedTo y b (v.restrictedNow b)).feedJog b = s.feedJog b := by
    unfold State.feedJog
    rw [q5, q1, yengine, ypair]
  have hjogged (hr : (y.engine b).restricted ≠ v.restrictedNow b) :=
    (f2 hr).jogged (show Resting _ b by unfold Resting; rw [q4, yengine]; exact hrest)
  refine ⟨?_, ?_, (tboom _).trans (hT.other.trans yother), fun _ => tres.trans tnow.symm, ?_, fun e he => ?_, fun i hi => ?_, fun hn => ?_,
    fun j hj hr => ?_, hlen, fun hl n hn => ?_⟩
  · rw [hm, hT.rest, yrest]
  · rw [tboom, hT.boom, yboom, yengine, tres]
  · rw [traised, hT.raised, yraised, yengine, tres]
    simp
  · rw [traised, hT.raised, yraised, decide_eq_false fun hb => he (Event.bit_own (.inr rfl) hb), Bool.and_false, Bool.or_false]
  · rw [tpair]
    by_cases hr : (y.engine b).restricted = v.restrictedNow b
    · rw [f1 hr, ypair]
    · rw [(hjogged hr).1 i hi, q1, ypair]
  · rw [tpair]
    by_cases hr : (y.engine b).restricted = v.restrictedNow b
    · rw [f1 hr, ypair]
    · rw [yengine] at hr
      rcases hn with hn | hn | hn
      · rw [(hjogged (by rwa [yengine])).2.1 (hjog.trans hn), q1, ypair]
      · exact absurd (hn.symm.trans tres) hr
      · exact absurd hn h
  · have hr' : (y.engine b).restricted ≠ v.restrictedNow b := by
      rw [yengine, ← tres]
      exact Ne.symm hr
    have hk := (hjogged hr').2.2 j (hjog.trans hj)
    rw [q2, q3, ycal] at hk
    rw [tpair, tres]
    exact hk
  · rw [hmon hl n hn]
    exact if_congr (and_iff_right (Ne.symm h)).symm rfl rfl

theorem StaleDecided.of_decide (hrest : Resting s b) : StaleDecided s (s.decideStale b) b := by
  unfold State.decideStale
  by_cases h : (s.head b).stale = s.isStale b
  · have heq : s.setStale b (s.isStale b) = s := if_pos h
    rw [heq]
    exact .refl h
  · exact .of_turned hrest h

end

end Sys2Proof.Machine
end

section
/-! PROOF. A new calibration set, taken block by block (R92, R171, R200, R202). -/
namespace Sys2Proof.Machine

section
variable {s t u w : State} {b : BoomId} {vals : List Nat}

/-! ## The sensing block -/

/-- R171: the sensing block of boom `b` has taken the mode and the window of the set in force. -/
structure SensingTaken (s t : State) (b : BoomId) : Prop where
  rest : t = s.setSensing b (t.sensing b)
  hop : (t.sensing b).hop = s.cal.hop b
  window : (t.sensing b).window = s.cal.window b
  magazine : (t.sensing b).magazine = (s.sensing b).magazine
  passages : (t.sensing b).passages = (s.sensing b).passages
  threshold : (t.sensing b).threshold = (s.sensing b).threshold
  same : (s.sensing b).hop = s.cal.hop b → (s.sensing b).window = s.cal.window b → t.sensing b = s.sensing b
  afresh : (s.sensing b).hop ≠ s.cal.hop b ∨ (s.sensing b).window ≠ s.cal.window b →
    (t.sensing b).present = false ∧ (t.sensing b).s1 = {} ∧ (t.sensing b).s2 = {} ∧ (t.sensing b).s3 = {} ∧
      (t.sensing b).agree = 0 ∧ (t.sensing b).setting = (s.sensing b).setting ∧ (t.sensing b).restart = true

theorem SensingTaken.of_calibrate (s : State) (b : BoomId) : SensingTaken s (s.calibrateSensing b) b := by
  by_cases h : (s.sensing b).hop = s.cal.hop b ∧ (s.sensing b).window = s.cal.window b
  · have heq : s.calibrateSensing b = s := if_pos h
    rw [heq]
    refine ⟨by cases b <;> rfl, h.1, h.2, rfl, rfl, rfl, fun _ _ => rfl, fun hn => ?_⟩
    exact absurd h (by rwa [not_and_or])
  · have heq : s.calibrateSensing b =
        s.setSensing b { (s.sensing b).cleared with hop := s.cal.hop b, window := s.cal.window b, restart := true } := if_neg h
    have hsens : (s.calibrateSensing b).sensing b =
        { (s.sensing b).cleared with hop := s.cal.hop b, window := s.cal.window b, restart := true } := by
      rw [heq]
      cases b <;> rfl
    exact ⟨by rw [hsens, heq], by rw [hsens], by rw [hsens], by rw [hsens]; rfl, by rw [hsens]; rfl, by rw [hsens]; rfl,
      fun h1 h2 => absurd ⟨h1, h2⟩ h, fun _ => by rw [hsens]; exact ⟨rfl, rfl, rfl, rfl, rfl, rfl, rfl⟩⟩

/-! ## The stages -/

/-- R92, R200, R202: the set is in force, with its link timeout, and no confirm run goes on. -/
def State.rebased (s : State) (vals : List Nat) : State :=
  { s with
    cal := { s.cal with working := vals, absent := false }
    link := { s.link with timeout := ({ s.cal with working := vals, absent := false } : CalStore).linkTimeout }
    canopy := { s.canopy with setRun := none, lossRun := none } }

/-- R202: the stages of a set that is taken: the pairs (`u`), the waits (`w`), the stale marks (`d1`, `d2`) and the sensing
blocks. -/
structure SetStages (s : State) (vals : List Nat) (u w d1 d2 e t : State) : Prop where
  pairs : u = (s.rebased vals).recomputed
  marked : AllMarked u w
  staleA : StaleDecided w d1 .A
  staleB : StaleDecided d1 d2 .B
  senseA : SensingTaken d2 e .A
  senseB : SensingTaken e t .B

theorem Resting.congr (h : Resting s b) (hb : (t.engine b).state = (s.engine b).state) : Resting t b := by
  unfold Resting
  rw [hb]
  exact h

theorem State.applySet_stages (hA : Resting s .A) (hB : Resting s .B) : ∃ u w d1 d2 e, SetStages s vals u w d1 d2 e (s.applySet vals) := by
  obtain ⟨u, hu⟩ : ∃ u, (s.rebased vals).recomputed = u := ⟨_, rfl⟩
  obtain ⟨w, hw⟩ : ∃ w, ((u.starveIfDue (.boom .A)).starveIfDue (.boom .B)).starveIfDue .canopy = w := ⟨_, rfl⟩
  have hval : s.applySet vals = ((((w.decideStale .A).decideStale .B).calibrateSensing .A).calibrateSensing .B) := by
    rw [← hw, ← hu]
    rfl
  have hm : AllMarked u w := hw ▸ AllMarked.of_starve u
  have hue (b : BoomId) : u.engine b = s.engine b := by
    rw [← hu, (s.rebased vals).recomputed_only.engine b]
    cases b <;> rfl
  have hwe (b : BoomId) : w.engine b = s.engine b := by
    rw [hm.rest, ← hue]
    cases b <;> rfl
  have h1 := StaleDecided.of_decide (s := w) (b := .A) (hA.congr (by rw [hwe]))
  have h2 := StaleDecided.of_decide (s := w.decideStale .A) (b := .B)
    (hB.congr (by rw [show (w.decideStale .A).engine .B = w.engine .B from congrArg BoomState.engine h1.other, hwe]))
  exact ⟨u, w, _, _, _, hu.symm, hm, h1, h2, .of_calibrate _ .A, hval ▸ .of_calibrate _ .B⟩

/-! ## One boom, from first to last -/

/-- Boom `b` stands alike but for its sensing, and so does what its restricted flag depends on. -/
structure BoomAlike (s t : State) (b : BoomId) : Prop where
  boom : t.boom b = { s.boom b with sensing := t.sensing b }
  analogs : t.analogs = s.analogs
  cal : t.cal = s.cal
  now : t.now = s.now
  raised : t.raised (.restricted b) = s.raised (.restricted b)

namespace BoomAlike
variable (h : BoomAlike s t b)
include h

theorem engine : t.engine b = s.engine b := (congrArg BoomState.engine h.boom).trans rfl
theorem head : t.head b = s.head b := (congrArg BoomState.head h.boom).trans rfl
theorem pair (f : PairFn) : t.pair (.boom b f) = s.pair (.boom b f) := by
  have hp : (t.boom b).pairs = (s.boom b).pairs := (congrArg BoomState.pairs h.boom).trans rfl
  cases f
  · exact congrArg BoomPairs.rot hp
  · exact congrArg BoomPairs.feed hp
  · exact congrArg BoomPairs.ins hp

theorem restrictedNow : t.restrictedNow b = s.restrictedNow b := State.restrictedNow_of_same h.analogs h.head

theorem isStale : t.isStale b = s.isStale b := by
  unfold State.isStale
  rw [h.head, h.now, h.cal]

theorem feedJog : t.feedJog b = s.feedJog b := by
  unfold State.feedJog
  rw [h.engine, h.pair]

end BoomAlike

/-- R22, R48, R52, R153: what a set brings to boom `b`, but for its sensing. -/
structure BoomDecided (s t : State) (b : BoomId) : Prop where
  boom : t.boom b =
    { s.boom b with
      engine := (s.engine b).turned (t.engine b).restricted
      pairs := (t.boom b).pairs
      head := { s.head b with stale := s.isStale b }
      sensing := t.sensing b }
  flag : (s.engine b).restricted = s.restrictedNow b → (t.engine b).restricted = t.restrictedNow b
  flagged : t.raised (.restricted b) = (s.raised (.restricted b) || ((t.engine b).restricted && !(s.engine b).restricted))
  feed : s.feedJog b = none ∨ (t.engine b).restricted = (s.engine b).restricted ∨ (s.head b).stale = s.isStale b →
    t.pair (.boom b .feed) = s.pair (.boom b .feed)
  jogged : ∀ j, s.feedJog b = some j → (t.engine b).restricted ≠ (s.engine b).restricted →
    let duty := if (t.engine b).restricted = true then min j.duty 500 else j.duty
    (t.pair (.boom b .feed)).dir = some j.dir ∧ (t.pair (.boom b .feed)).duty = duty ∧
      (t.pair (.boom b .feed)).applied = appliedDuty (s.cal.minDuty (.boom b .feed)) duty

theorem BoomDecided.of_stale {s' t' : State} (h : StaleDecided s t b) (hs : BoomAlike s' s b) (ht : BoomAlike t t' b) :
    BoomDecided s' t' b := by
  refine ⟨?_, fun hc => ?_, ?_, fun hn => ?_, fun j hj hr => ?_⟩
  · rw [ht.boom, h.boom, hs.boom, hs.engine, hs.head, hs.isStale, ht.engine]
  · rw [ht.engine, ht.restrictedNow]
    exact h.flag (by rw [hs.engine, hs.restrictedNow]; exact hc)
  · rw [ht.raised, ht.engine, h.flagged, hs.raised, hs.engine]
  · rw [ht.pair, h.feed ?_, hs.pair]
    rw [hs.feedJog, hs.engine, hs.head, hs.isStale, ← ht.engine]
    exact hn
  · rw [ht.engine] at hr ⊢
    rw [ht.pair]
    have hk := h.jogged j (hs.feedJog.trans hj) (by rw [hs.engine]; exact hr)
    rw [hs.cal] at hk
    exact hk

end

end Sys2Proof.Machine
end

section
/-! PROOF. What an accepted calibration set makes of the part, as a whole (R202). -/
namespace Sys2Proof.Machine

namespace SetStages
variable {s u w d1 d2 e t : State} {vals : List Nat} (k : SetStages s vals u w d1 d2 e t)
include k

/-- The sensing stages touch no more than the sensing blocks. -/
theorem sensed : t = { d2 with boomA := t.boomA, boomB := t.boomB } ∧ (∀ b, t.boom b = { d2.boom b with sensing := t.sensing b }) ∧
    (∀ i, t.pair i = d2.pair i) ∧ ∀ b, e.sensing b = if b = .A then e.sensing .A else d2.sensing b := by
  have h1 := k.senseA.rest
  have h2 := k.senseB.rest
  generalize e.sensing .A = x at h1
  generalize t.sensing .B = y at h2
  subst h1 h2
  exact ⟨rfl, fun b => by cases b <;> rfl, fun i => by rcases i with ⟨_ | _, _ | _ | _⟩ | _ <;> rfl, fun b => by cases b <;> rfl⟩

/-- Up to the waits, all of a boom but its pairs stands. -/
theorem early : w = { s.rebased vals with
      arb := { s.arb with waits := w.arb.waits }
      boomA := { s.boomA with pairs := u.boomA.pairs }, boomB := { s.boomB with pairs := u.boomB.pairs }
      canopyPair := u.canopyPair, events := w.events } ∧
    (∀ b, w.boom b = { s.boom b with pairs := (u.boom b).pairs }) ∧
    ∀ i, w.pair i = { s.pair i with applied := appliedDuty (w.cal.minDuty i) (s.pair i).duty } := by
  have hu := (s.rebased vals).recomputed_only
  rw [← k.pairs] at hu
  have hp := (s.rebased vals).recomputed_pair
  rw [← k.pairs] at hp
  have hw := k.marked.rest
  refine ⟨?_, fun b => ?_, fun i => ?_⟩
  · rw [hw]
    rw [hu]
    rfl
  · have h1 : w.boom b = u.boom b := by rw [hw]; cases b <;> rfl
    rw [h1, hu.boom b]
    cases b <;> rfl
  · have h1 : w.pair i = u.pair i := by rw [hw]; rcases i with ⟨_ | _, _ | _ | _⟩ | _ <;> rfl
    have h2 : (s.rebased vals).pair i = s.pair i := by rcases i with ⟨_ | _, _ | _ | _⟩ | _ <;> rfl
    have h3 : w.cal = (s.rebased vals).cal := by
      rw [hw]
      exact hu.cal
    rw [h1, hp, h2, h3]

/-- R202: what a set that is taken may touch at all. -/
theorem frame : t = { s with
    cal := { s.cal with working := vals, absent := false }
    link := { s.link with timeout := t.cal.linkTimeout }
    canopy := { s.canopy with setRun := none, lossRun := none }
    arb := { s.arb with waits := t.arb.waits }
    boomA := t.boomA, boomB := t.boomB, canopyPair := t.canopyPair, monitors := t.monitors, events := t.events } := by
  have hA := k.staleA.rest
  have hB := k.staleB.rest
  obtain ⟨hw, -, -⟩ := k.early
  obtain ⟨ht, -, -, -⟩ := k.sensed
  have h1 : t = { w with boomA := t.boomA, boomB := t.boomB, monitors := t.monitors, events := t.events } := by
    rw [ht]
    rw [hB]
    rw [hA]
  rw [h1]
  rw [hw]
  rfl

theorem cal : t.cal = w.cal ∧ d1.cal = w.cal ∧ d2.cal = w.cal ∧ e.cal = w.cal := by
  have h1 : d1.cal = w.cal := by rw [k.staleA.rest]
  have h2 : d2.cal = w.cal := by rw [k.staleB.rest]; exact h1
  have h3 : e.cal = w.cal := by rw [k.senseA.rest]; exact h2
  exact ⟨by rw [k.senseB.rest]; exact h3, h1, h2, h3⟩

theorem decided (b : BoomId) : BoomDecided w t b := by
  obtain ⟨ht, hboom, -, -⟩ := k.sensed
  have hev : t.events = d2.events := by rw [ht]
  have han : t.analogs = d2.analogs := by rw [ht]
  have hnow : t.now = d2.now := by rw [ht]
  have hraised (x : Event) : t.raised x = d2.raised x := by unfold State.raised; rw [hev]
  obtain ⟨c1, c2, c3, -⟩ := k.cal
  have oA : d2.boom .A = d1.boom .A := k.staleB.other
  have oB : d1.boom .B = w.boom .B := k.staleA.other
  cases b with
  | A =>
    refine .of_stale k.staleA ⟨rfl, rfl, rfl, rfl, rfl⟩ ⟨?_, ?_, c1.trans c2.symm, ?_, ?_⟩
    · rw [hboom, oA]
    · rw [han, k.staleB.rest]
    · rw [hnow, k.staleB.rest]
    · rw [hraised, k.staleB.quiet _ (by decide)]
  | B =>
    refine .of_stale k.staleB ⟨?_, by rw [k.staleA.rest], c2, by rw [k.staleA.rest], k.staleA.quiet _ (by decide)⟩
      ⟨hboom .B, han, c1.trans c3.symm, hnow, hraised _⟩
    rw [State.sensing, oB]

/-- R89, R199: the events that no stage raises. -/
theorem quiet {x : Event} (h1 : x ≠ .flowStarved .A) (h2 : x ≠ .flowStarved .B) (h3 : x ≠ .restricted .A) (h4 : x ≠ .restricted .B) :
    t.raised x = s.raised x := by
  have hev : t.events = d2.events := by rw [k.sensed.1]
  have hu : u.raised x = s.raised x := by rw [k.pairs, (s.rebased vals).recomputed_only]; rfl
  have ht : t.raised x = d2.raised x := by unfold State.raised; rw [hev]
  rw [ht, k.staleB.quiet x h4, k.staleA.quiet x h3, k.marked.quiet x h1 h2, hu]

theorem starved (b : BoomId) : t.raised (.flowStarved b) = (s.raised (.flowStarved b) || u.starveDue (.boom b)) := by
  have hev : t.events = d2.events := by rw [k.sensed.1]
  have hu : u.raised (.flowStarved b) = s.raised (.flowStarved b) := by rw [k.pairs, (s.rebased vals).recomputed_only]; rfl
  have ht : t.raised (.flowStarved b) = d2.raised (.flowStarved b) := by unfold State.raised; rw [hev]
  rw [ht, k.staleB.quiet _ (by cases b <;> decide), k.staleA.quiet _ (by cases b <;> decide), k.marked.flagged, hu]

/-- R48: up to the stale marks, RESTRICTED stands as it was. -/
theorem unrestricted (b : BoomId) : w.raised (.restricted b) = s.raised (.restricted b) := by
  have hu : u.raised (.restricted b) = s.raised (.restricted b) := by rw [k.pairs, (s.rebased vals).recomputed_only]; rfl
  rw [k.marked.quiet _ (by cases b <;> decide) (by cases b <;> decide), hu]

/-- R22, R110: the pairs that no stale mark moves. -/
theorem pair (i : PairId) (h : ∀ b, i = .boom b .feed → (t.head b).stale = (s.head b).stale) :
    t.pair i = { s.pair i with applied := appliedDuty (t.cal.minDuty i) (s.pair i).duty } := by
  obtain ⟨-, hwb, hwp⟩ := k.early
  obtain ⟨c1, -⟩ := k.cal
  rw [c1, ← hwp]
  by_cases hf : ∃ b, i = .boom b .feed
  · obtain ⟨b, rfl⟩ := hf
    have hd := k.decided b
    have hth : (t.head b).stale = w.isStale b := by
      have := congrArg BoomState.head hd.boom
      exact (congrArg Head.stale this).trans rfl
    refine hd.feed (.inr (.inr ?_))
    rw [← hth, h b rfl, show (w.head b).stale = (s.head b).stale by rw [State.head, hwb]; rfl]
  · have hne : ∀ b, i ≠ .boom b .feed := fun b hi => hf ⟨b, hi⟩
    rw [k.sensed.2.2.1, k.staleB.pair i (hne .B), k.staleA.pair i (hne .A)]

end SetStages

end Sys2Proof.Machine
end

section
/-! PROOF. What a calibration set that is taken brings, clause by clause (R22, R48, R74, R89, R110, R153, R160, R171, R179). -/
namespace Sys2Proof.Machine

/-! ## The clauses of a set that is taken -/

namespace SetStages
variable {s u w d1 d2 e t : State} {vals : List Nat} (k : SetStages s vals u w d1 d2 e t)
include k

theorem ucal : u.cal = t.cal ∧ u.arb = s.arb := by
  have hu := (s.rebased vals).recomputed_only
  rw [← k.pairs] at hu
  have hw : w.cal = u.cal := by rw [k.marked.rest]
  exact ⟨(k.cal.1.trans hw).symm, hu.arb⟩

theorem tarb : t.arb = w.arb := by rw [k.sensed.1, k.staleB.rest, k.staleA.rest]

/-- R74, R89: the requests held stand, and the waits that the new limit finds past it are marked. -/
theorem waits : t.arb.waits.map (·.req) = s.arb.waits.map (·.req) ∧
    (ArbiterOk s.arb → t.arb.waits =
      s.arb.waits.map (fun x => if decide (t.cal.starvation ≤ x.wait) = true then { x with starved := true } else x)) := by
  obtain ⟨hc, ha⟩ := k.ucal
  rw [k.tarb]
  refine ⟨by rw [k.marked.reqs, ha], fun hok => ?_⟩
  rw [k.marked.waits (by rw [ha]; exact hok.2.1), ha, ← hc]
  rfl

theorem flowStarved (b : BoomId) : t.raised (.flowStarved b) =
    (s.raised (.flowStarved b) || s.arb.waits.any (fun x => x.req.who == .boom b && !x.starved && decide (t.cal.starvation ≤ x.wait))) := by
  obtain ⟨hc, ha⟩ := k.ucal
  rw [k.starved, State.starveDue_eq, ha, ← hc]
  rfl

/-- The boom's part of the stages, seen from the first state. -/
theorem wboom (b : BoomId) : w.engine b = s.engine b ∧ w.head b = s.head b ∧ w.sensing b = s.sensing b ∧
    w.restrictedNow b = s.restrictedNow b ∧ w.now = s.now := by
  obtain ⟨h1, h2, -⟩ := k.early
  have hh : w.head b = s.head b := (congrArg BoomState.head (h2 b)).trans rfl
  refine ⟨(congrArg BoomState.engine (h2 b)).trans rfl, hh, (congrArg BoomState.sensing (h2 b)).trans rfl, ?_, by rw [h1]; rfl⟩
  exact State.restrictedNow_of_same (by rw [h1]; rfl) hh

theorem thead (b : BoomId) : t.head b = { s.head b with stale := w.isStale b } := by
  have h := congrArg BoomState.head (k.decided b).boom
  rw [← (k.wboom b).2.1]
  exact h.trans rfl

/-- R153, R160: the stale mark is what the new limit gives. -/
theorem stale (b : BoomId) :
    (t.head b).stale = true ↔ ∀ x, (s.head b).published = some x → t.cal.staleLimit < (s.now - x).toNat := by
  obtain ⟨-, hh, -, -, hn⟩ := k.wboom b
  rw [k.thead b, k.cal.1, ← hh, ← hn]
  exact State.isStale_iff

theorem tengine (b : BoomId) : t.engine b = (s.engine b).turned (t.engine b).restricted := by
  have h := congrArg BoomState.engine (k.decided b).boom
  rw [← (k.wboom b).1]
  exact h.trans rfl

theorem tboom (b : BoomId) : t.boom b =
    { s.boom b with
      engine := { s.engine b with restricted := (t.engine b).restricted, record := (t.engine b).record }
      pairs := (t.boom b).pairs
      head := { s.head b with stale := (t.head b).stale }
      sensing := t.sensing b } := by
  have h := (k.decided b).boom
  have he : { s.engine b with restricted := (t.engine b).restricted, record := (t.engine b).record } = t.engine b := by
    have := k.tengine b
    generalize t.engine b = x at this
    rw [this]
    rfl
  have hh : { s.head b with stale := (t.head b).stale } = t.head b := by rw [k.thead b]
  rw [he, hh]
  rw [(k.early).2.1 b] at h
  generalize hx : t.boom b = x at h
  have h1 : t.engine b = x.engine := congrArg BoomState.engine hx
  have h2 : t.head b = x.head := congrArg BoomState.head hx
  have h3 : t.sensing b = x.sensing := congrArg BoomState.sensing hx
  rw [h1, h2, h3]
  rw [h]

/-- R48: a flag that was true to the channels follows the stale mark. -/
theorem restricted (b : BoomId) (h : (s.engine b).restricted = s.restrictedNow b) :
    (t.engine b).restricted = t.restrictedNow b ∧
      t.raised (.restricted b) = (s.raised (.restricted b) || (!(s.engine b).restricted && t.restrictedNow b)) ∧
      (t.engine b).record =
        if (!(s.engine b).restricted && t.restrictedNow b) = true then
          (s.engine b).record.map (fun r => { r with flags := { r.flags with restrictedRun := true } })
        else (s.engine b).record := by
  obtain ⟨h1, -, -, h4, -⟩ := k.wboom b
  have hd := k.decided b
  have hf := hd.flag (by rw [h1, h4]; exact h)
  refine ⟨hf, ?_, ?_⟩
  · rw [hd.flagged, k.unrestricted, h1, hf, Bool.and_comm]
  · have := congrArg Engine.record (k.tengine b)
    rw [this, hf, Bool.and_comm]
    rfl

/-- R22, R52, R110: the feed pair. -/
theorem feed (b : BoomId) :
    let i := PairId.boom b .feed
    let jogged := (s.engine b).jog.filter (fun j => j.fn == .feed && (s.pair i).dir.isSome)
    (jogged = none ∨ (t.engine b).restricted = (s.engine b).restricted →
      t.pair i = { s.pair i with applied := appliedDuty (t.cal.minDuty i) (s.pair i).duty }) ∧
      ∀ j, jogged = some j → (t.engine b).restricted ≠ (s.engine b).restricted →
        let duty := if (t.engine b).restricted = true then min j.duty 500 else j.duty
        (t.pair i).dir = some j.dir ∧ (t.pair i).duty = duty ∧ (t.pair i).applied = appliedDuty (t.cal.minDuty i) duty := by
  intro i jogged
  have hd := k.decided b
  have hp := (k.early).2.2 i
  have hjog : w.feedJog b = jogged := by
    unfold State.feedJog
    rw [(k.wboom b).1, hp]
  rw [k.cal.1, ← hp, ← hjog]
  refine ⟨fun h => hd.feed ?_, fun j hj hr => hd.jogged j hj ?_⟩
  · rw [(k.wboom b).1]
    exact h.imp id .inl
  · rw [(k.wboom b).1]
    exact hr

/-- R171: the sensing block. -/
theorem sense (b : BoomId) : ∃ x y, SensingTaken x y b ∧ x.sensing b = s.sensing b ∧ x.cal = t.cal ∧ y.sensing b = t.sensing b := by
  obtain ⟨c1, -, c3, c4⟩ := k.cal
  have oA : d2.boom .A = d1.boom .A := k.staleB.other
  have oB : d1.boom .B = w.boom .B := k.staleA.other
  have eB : e.boom .B = d2.boom .B := by rw [k.senseA.rest]; rfl
  have tA : t.boom .A = e.boom .A := by rw [k.senseB.rest]; rfl
  cases b with
  | A =>
    refine ⟨d2, e, k.senseA, ?_, c3.trans c1.symm, (congrArg BoomState.sensing tA).symm⟩
    have h := congrArg BoomState.sensing k.staleA.boom
    exact (congrArg BoomState.sensing oA).trans (h.trans (k.wboom .A).2.2.1)
  | B =>
    refine ⟨e, t, k.senseB, ?_, c4.trans c1.symm, rfl⟩
    have h := congrArg BoomState.sensing k.staleB.boom
    exact (congrArg BoomState.sensing eB).trans (h.trans ((congrArg BoomState.sensing oB).trans (k.wboom .B).2.2.1))

/-- R179: the monitors of a head whose stale mark has turned. -/
theorem monitors (hl : s.monitors.length = 12) (n : Nat) (hn : n < 12) :
    let m := s.monitor n
    let reached := ∃ b, ((t.head b).stale != (s.head b).stale) = true ∧ (m.cfg.source = .headTemp b ∨ m.cfg.source = .headVacuum b)
    (reached → t.monitor n = { m with valid := t.sourceValid m.cfg.source }) ∧ (¬reached → t.monitor n = m) := by
  intro m reached
  have wm : w.monitors = s.monitors := by rw [(k.early).1]; rfl
  have wn : w.monitor n = m := congrArg (·.getD n default) wm
  have hA := k.staleA.monitors (by rw [wm]; exact hl) n hn
  have hB := k.staleB.monitors (k.staleA.length (by rw [wm]; exact hl)) n hn
  have tm : t.monitor n = d2.monitor n := by rw [k.sensed.1]; rfl
  have hturn (b : BoomId) : ((t.head b).stale != (s.head b).stale) = true ↔ w.isStale b ≠ (w.head b).stale := by
    rw [k.thead b, (k.wboom b).2.1]
    simp
  have dB : d1.isStale .B = w.isStale .B ∧ (d1.head .B).stale = (w.head .B).stale := by
    have h1 : d1.head .B = w.head .B := congrArg BoomState.head k.staleA.other
    refine ⟨?_, by rw [h1]⟩
    unfold State.isStale
    rw [h1, k.staleA.rest]
  have hval (b : BoomId) (x : State) (hx : x.head b = t.head b) {src : Source} (hs : src = .headTemp b ∨ src = .headVacuum b) :
      x.sourceValid src = t.sourceValid src := by
    rcases hs with rfl | rfl <;> unfold State.sourceValid <;> dsimp only <;> rw [hx]
  have tA : d1.head .A = t.head .A := by
    have h2 : d2.boom .A = d1.boom .A := k.staleB.other
    rw [State.head, State.head, (k.sensed).2.1 .A, h2]
  have tB : d2.head .B = t.head .B := by rw [State.head, State.head, (k.sensed).2.1 .B]
  rw [wn] at hA
  rw [tm, hB, dB.1, dB.2]
  refine ⟨fun ⟨b, h1, h2⟩ => ?_, fun hno => ?_⟩
  · have h1' := (hturn b).1 h1
    cases b with
    | A =>
      rw [if_pos ⟨h1', h2⟩] at hA
      have hsrc : (d1.monitor n).cfg.source = m.cfg.source := by rw [hA]
      rw [if_neg, hA, hval .A d1 tA h2]
      rw [hsrc]
      rintro ⟨-, h3⟩
      rcases h2 with h2 | h2 <;> rw [h2] at h3 <;> rcases h3 with h3 | h3 <;> cases h3
    | B =>
      rw [if_neg] at hA
      · rw [hA, if_pos ⟨h1', h2⟩, hval .B d2 tB h2]
      · rintro ⟨-, h3⟩
        rcases h2 with h2 | h2 <;> rw [h2] at h3 <;> rcases h3 with h3 | h3 <;> cases h3
  · rw [if_neg fun h => hno ⟨.A, (hturn .A).2 h.1, h.2⟩] at hA
    rw [hA, if_neg fun h => hno ⟨.B, (hturn .B).2 h.1, h.2⟩]

end SetStages

end Sys2Proof.Machine
end

section
/-! PROOF. CALIBRATE and RECALL, settled (R202, R204). -/
namespace Sys2Proof.Machine

/-- A request of fixed length whose decision sets the link timeout and leaves the rest of the link as it found it. -/
theorem exec_retimed {i : Instr} {s t : State} {payload : List Byte} {n k : Nat} {seq code : Byte} {decide : State → Decision}
    {a : Answer} (h : s.takesFrames = true) (hi : exec i s = .next (s.serveFixed seq code n payload decide))
    (hn : payload.length = n) (hl : n ≤ 250) (hd : decide s.frameTaken = ⟨t, a⟩)
    (hk : t.link = { s.frameTaken.link with timeout := k }) :
    exec i s = .next (answered (t.relink { s.link with timeout := k }) seq code a) := by
  rw [hi]
  unfold State.serveFixed
  rw [State.serve_of_takes h (by omega)]
  simp only [checkLength, hn, if_true, hd, State.reply, State.replyWith, answered, answeredWith, hk]
  rfl

/-- R202: a set with a bad value is refused at its first. -/
theorem calFirstBad_of_first {vals : List Nat} {n : Nat} (h1 : 1 ≤ n) (h2 : n ≤ 96) (hb : calValueOk vals n = false)
    (hg : ∀ k, 1 ≤ k → k < n → calValueOk vals k = true) : calFirstBad vals = some n := by
  unfold calFirstBad
  rw [List.find?_range'_eq_some]
  exact ⟨by simp [hb], by simp; omega, fun j hj1 hj2 => by simp [hg j hj1 hj2]⟩

theorem calFirstBad_of_good {vals : List Nat} (hg : ∀ k, 1 ≤ k → k ≤ 96 → calValueOk vals k = true) : calFirstBad vals = none := by
  unfold calFirstBad
  rw [List.find?_eq_none]
  intro k hk
  obtain ⟨h1, h2⟩ := List.mem_range'_1.1 hk
  simp [hg k h1 (by omega)]

theorem EngineState.calibratable_iff {e : EngineState} : e.calibratable = true ↔ e = .idle ∨ e = .ready ∨ e = .parked ∨ e = .faulted := by
  cases e <;> simp [EngineState.calibratable]

/-- R202: both engines rest and the canopy does not move. -/
theorem State.calibratable_iff {s : State} : s.calibratable = true ↔
    Resting s .A ∧ Resting s .B ∧ s.canopy.state ≠ .raising ∧ s.canopy.state ≠ .lowering := by
  simp only [State.calibratable, Bool.and_eq_true, EngineState.calibratable_iff, bne_iff_ne, and_assoc]
  rfl

/-- Settles O52: the checks in their order, and an accepted set stage by stage. -/
theorem calibrationTaken : Obligations.CalibrationTaken := by
  unfold Obligations.CalibrationTaken
  intro q payload s h hp calibrate rcl atRest free taken
  have hfree : s.calibratable = true ↔ free := State.calibratable_iff
  have hnow : s.frameTaken.calibratable = s.calibratable := rfl
  have hset (hf : free) (vals : List Nat) : ∃ t, s.frameTaken.applySet vals = t ∧
      t.link = { s.frameTaken.link with timeout := t.cal.linkTimeout } ∧
        t.cal.absent = false ∧ taken vals (t.relink { s.link with timeout := t.cal.linkTimeout }) := by
    obtain ⟨u, w, d1, d2, e, k⟩ := State.applySet_stages (s := s.frameTaken) (vals := vals) hf.1 hf.2.1
    refine ⟨_, rfl, ?_⟩
    generalize s.frameTaken.applySet vals = t at k
    have hframe := k.frame
    have hlink : t.link = { s.frameTaken.link with timeout := t.cal.linkTimeout } := (congrArg State.link hframe).trans rfl
    have habsent : t.cal.absent = false := (congrArg (·.cal.absent) hframe).trans rfl
    refine ⟨hlink, habsent, ?frame, k.waits.1, k.waits.2, fun _ h1 h2 h3 h4 => k.quiet h1 h2 h3 h4, ?monitors, ?pairs, fun b => ?boom⟩
    case frame => exact (congrArg (State.relink · { s.link with timeout := t.cal.linkTimeout }) hframe).trans rfl
    case monitors =>
      intro hl n hn m reached
      obtain ⟨h1, h2⟩ := k.monitors hl n hn
      have hr : reached ↔ ∃ b, ((t.head b).stale != (s.frameTaken.head b).stale) = true ∧
          (m.cfg.source = .headTemp b ∨ m.cfg.source = .headVacuum b) := by
        simp only [reached, State.relink_head, State.frameTaken_head]
      exact ⟨fun h => (h1 (hr.1 h)).trans rfl, fun h => h2 fun hx => h (hr.2 hx)⟩
    case pairs =>
      intro i hi
      exact k.pair i fun b hb => by simpa using hi b hb
    case boom =>
      obtain ⟨x, y, hs, hx, hc, hy⟩ := k.sense b
      refine ⟨k.tboom b, k.flowStarved b, k.restricted b, k.feed b, k.stale b, ?_⟩
      obtain ⟨-, hop, window, magazine, passages, threshold, same, afresh⟩ := hs
      simp only [hx, hy, hc] at hop window magazine passages threshold same afresh
      exact ⟨hop, window, magazine, passages, same, threshold, afresh⟩
  refine ⟨fun hw => ?busy, fun hw hf => ?wrong, fun hw hf => ⟨fun n h1 h2 hb hg => ?bad, fun hg => ?set, fun hc => ?none, fun hc => ?copy⟩⟩
  case busy =>
    have hb : s.frameTaken.cal.writing.isSome = true := Option.isSome_iff_ne_none.2 hw
    exact ⟨exec_of_refuse h rfl hp (by decide) (if_pos hb), exec_of_refuse h rfl rfl (by decide) (if_pos hb)⟩
  case wrong =>
    have hb : ¬ s.frameTaken.cal.writing.isSome = true := by simp [State.frameTaken, hw]
    have hc : (!s.frameTaken.calibratable) = true := by
      rw [hnow, Bool.not_eq_true', ← Bool.not_eq_true, hfree]
      exact hf
    refine ⟨exec_of_refuse h rfl hp (by decide) ?_, exec_of_refuse h rfl rfl (by decide) ?_⟩
    · unfold decideCalibrate
      rw [if_neg hb, if_pos hc]
      rfl
    · unfold decideRecall
      rw [if_neg hb, if_pos hc]
      rfl
  all_goals
    have hn : ¬ s.frameTaken.cal.writing.isSome = true := by simp [State.frameTaken, hw]
    have hc' : ¬ (!s.frameTaken.calibratable) = true := by simp [hnow, hfree.2 hf]
  case bad =>
    refine exec_of_refuse h rfl hp (by decide) ?_
    unfold decideCalibrate
    rw [if_neg hn, if_neg hc', calFirstBad_of_first h1 h2 hb hg]
    rfl
  case set =>
    obtain ⟨t, ht, hlink, habsent, htaken⟩ := hset hf (calValues payload)
    refine ⟨_, exec_retimed h rfl hp (by decide) ?_ hlink, htaken⟩
    unfold decideCalibrate
    rw [if_neg hn, if_neg hc', calFirstBad_of_good hg]
    dsimp only
    rw [ht, habsent]
    rfl
  case none =>
    refine exec_of_refuse h rfl rfl (by decide) ?_
    have hm : ¬ s.frameTaken.cal.copyMatches = true := by
      unfold CalStore.copyMatches
      rw [beq_iff_eq]
      exact hc
    unfold decideRecall
    rw [if_neg hn, if_neg hc', if_neg hm]
    rfl
  case copy =>
    obtain ⟨t, ht, hlink, -, htaken⟩ := hset hf (calValues s.cal.image)
    have hm : s.frameTaken.cal.copyMatches = true := by
      unfold CalStore.copyMatches
      rw [beq_iff_eq]
      exact hc
    refine ⟨_, exec_retimed h rfl rfl (by decide) ?_ hlink, htaken⟩
    unfold decideRecall
    rw [if_neg hn, if_neg hc', if_pos hm]
    exact congrArg (State.accept · []) ht

end Sys2Proof.Machine
end
